-- ==== Sys2Proof/Word.lean ====
section
/-!
DEFINITION. Sys2Proof/Word.lean: the word types of the block and the two bit-field helpers every file uses.
-/
namespace Sys2Proof

/-- A register or general-register word (R24, R446). -/
abbrev Word := BitVec 32

/-- One byte of memory or one octet of a frame (R447). -/
abbrev Byte := BitVec 8

end Sys2Proof
end

