-- ==== Sys2Proof/Syntax.lean ====
section
/-! DEFINITION. The commands of the block (spec/opcode_table.json) and the plain data their operands are. -/

namespace Sys2Proof
inductive Agent where | core (c : Fin 8) | host | qspi | debug deriving DecidableEq, Repr
/-- One SFD match (R96): the channel index c, the coded SFD, and TOFF in ns (R104). -/
structure SfdMatch where
  ch : Fin 256
  coded : Bool
  toff : BitVec 16
  deriving DecidableEq, Repr
/-- What a rule asks of a frame to be sent, which lies in a frame buffer of the packet engine: PSDU octets, security enabled,
destination PAN and short address, a FLOOD, a fleet CORR frame. -/
structure TxFrame where
  len : Nat
  secured : Bool
  pan : BitVec 16
  dest : BitVec 16
  flood : Bool
  corr : Bool
  deriving DecidableEq, Repr

/-- An address of a received frame. -/
inductive Addr where
  | short (a : BitVec 16)
  | ext (a : BitVec 64)
  deriving DecidableEq, Repr

/-- The fields of a received frame that the MAC reads (R149–R151, R159): frame options and security options supported, secured,
AR, DSN, frame counter, key index, addresses, and the MLP IE: version, TYPE, OUI, content octets, ORIGIN and SEQ of a
FLOOD. -/
structure MlpFrame where
  options : Bool
  security : Bool
  secured : Bool
  ar : Bool
  dsn : Byte
  counter : Word
  keyIndex : Byte
  pan : BitVec 16
  dest : Addr
  src : Addr
  ver : Fin 4
  typ : Fin 64
  oui : BitVec 24
  ieLen : Nat
  origin : BitVec 16
  seq : BitVec 16
  deriving DecidableEq, Repr
/-- A frame from the fleet channel (R287–R289): destination PAN and address, source address, TYPE, frame counter, and whether
its MIC is correct. -/
structure FleetFrame where
  pan : BitVec 16
  dest : BitVec 16
  src : Addr
  typ : Byte
  counter : Word
  micOk : Bool
  deriving DecidableEq, Repr

/-- What the receiver measures on a channel at an epoch (R273): C/N0, the transmit-time difference inside 50–150 ms, the
pseudorange at the ball in 2⁻¹⁶ m, the accumulated phase in 2⁻¹⁶ cycle and the Doppler in 2⁻¹⁰ Hz. -/
structure GnssMeas where
  ch : Fin 72
  cn0 : Byte
  inWindow : Bool
  range : Nat
  phase : Int
  doppler : Int
  deriving DecidableEq, Repr

/-- A complete navigation message (R275): its channel, for SIG 4 its subframe less 1, the bits after FEC decoding, the words
that failed parity, whether its check passed, when its first bit reached the reference plane, and whether it carries a time
of week, one that differs from that set by TXT. -/
structure NavMsg where
  ch : Fin 72
  sub : Fin 3
  nbits : Nat
  badw : BitVec 16
  parok : Bool
  sec : Word
  grn : Word
  data : List Word
  tow : Bool
  differs : Bool
  deriving DecidableEq, Repr

/-- The commands of the block: one constructor per row of the opcode table, in the table's order. A core's instruction names the
core `c` that issues it and its encoding's fields (`gd`, `ga`, `gb`, `imm`, `sub`, `off`, `cond`, `func`; `rsv` the bits R26
reserves); an event row carries what the outside world brings with it (a measurement, a frame, an outcome a unit reports);
`upset` says that a single-bit upset is met by the read. The meaning of every command is `Sys2Proof.Machine.exec`. -/
inductive Instr where
  /-- `ADD` (R27): ALU add of two general registers into gd. -/
  | add (c : Fin 8) (gd ga gb : Fin 16)
  /-- `SUB` (R27): ALU subtract of two general registers into gd. -/
  | sub (c : Fin 8) (gd ga gb : Fin 16)
  /-- `AND` (R27): ALU bitwise AND of two registers into gd. -/
  | and (c : Fin 8) (gd ga gb : Fin 16)
  /-- `OR` (R27): ALU bitwise OR of two registers into gd. -/
  | or (c : Fin 8) (gd ga gb : Fin 16)
  /-- `XOR` (R27): ALU bitwise XOR of two registers into gd. -/
  | xor (c : Fin 8) (gd ga gb : Fin 16)
  /-- `SLL` (R27): Shift left logical by gb[4:0]. -/
  | sll (c : Fin 8) (gd ga gb : Fin 16)
  /-- `SRL` (R27): Shift right logical by gb[4:0]. -/
  | srl (c : Fin 8) (gd ga gb : Fin 16)
  /-- `SRA` (R27): Shift right arithmetic by gb[4:0]. -/
  | sra (c : Fin 8) (gd ga gb : Fin 16)
  /-- `SLT` (R27): Set gd to 1 if ga is less than gb, signed. -/
  | slt (c : Fin 8) (gd ga gb : Fin 16)
  /-- `SLTU` (R27): Set gd to 1 if ga is less than gb, unsigned. -/
  | sltu (c : Fin 8) (gd ga gb : Fin 16)
  /-- `MUL` (R27): Low 32 bits of the product, 3 cycles. -/
  | mul (c : Fin 8) (gd ga gb : Fin 16)
  /-- `MULHU` (R27): High 32 bits of the unsigned product. -/
  | mulhu (c : Fin 8) (gd ga gb : Fin 16)
  /-- `MULH` (R27): High 32 bits of the signed product. -/
  | mulh (c : Fin 8) (gd ga gb : Fin 16)
  /-- `MIN` (R27): Signed minimum of two registers. -/
  | min (c : Fin 8) (gd ga gb : Fin 16)
  /-- `MAX` (R27): Signed maximum of two registers. -/
  | max (c : Fin 8) (gd ga gb : Fin 16)
  /-- `CLZ` (R27): Count of leading zeros of ga; gb must be g0. -/
  | clz (c : Fin 8) (gd ga gb : Fin 16)
  /-- `DIVU` (R27): Unsigned divide in 18 cycles; divide by zero gives 0xFFFF_FFFF. -/
  | divu (c : Fin 8) (gd ga gb : Fin 16)
  /-- `REMU` (R27): Unsigned remainder in 18 cycles; divide by zero gives ga. -/
  | remu (c : Fin 8) (gd ga gb : Fin 16)
  /-- `ADDI` (R27): Add a sign-extended immediate. -/
  | addi (c : Fin 8) (gd ga : Fin 16) (imm : BitVec 18)
  /-- `ANDI` (R27): AND with a zero-extended immediate. -/
  | andi (c : Fin 8) (gd ga : Fin 16) (imm : BitVec 18)
  /-- `ORI` (R27): OR with a zero-extended immediate. -/
  | ori (c : Fin 8) (gd ga : Fin 16) (imm : BitVec 18)
  /-- `XORI` (R27): XOR with a zero-extended immediate. -/
  | xori (c : Fin 8) (gd ga : Fin 16) (imm : BitVec 18)
  /-- `SLTI` (R27): Signed set-less-than against an immediate. -/
  | slti (c : Fin 8) (gd ga : Fin 16) (imm : BitVec 18)
  /-- `SLTIU` (R27): Unsigned set-less-than against an immediate. -/
  | sltiu (c : Fin 8) (gd ga : Fin 16) (imm : BitVec 18)
  /-- `LUI` (R27): Load imm18 shifted left by 14 into gd; ga must be g0. -/
  | lui (c : Fin 8) (gd ga : Fin 16) (imm : BitVec 18)
  /-- `SHI` (R27): Shift by an immediate amount of the kind in imm18[6:5]. -/
  | shi (c : Fin 8) (gd ga : Fin 16) (imm : BitVec 18)
  /-- `LW` (R20): Load a 32-bit word from ga plus imm18. -/
  | lw (c : Fin 8) (gd ga : Fin 16) (imm : BitVec 18) (upset : Bool)
  /-- `LH` (R20): Load a signed 16-bit halfword. -/
  | lh (c : Fin 8) (gd ga : Fin 16) (imm : BitVec 18) (upset : Bool)
  /-- `LHU` (R20): Load an unsigned 16-bit halfword. -/
  | lhu (c : Fin 8) (gd ga : Fin 16) (imm : BitVec 18) (upset : Bool)
  /-- `LB` (R20): Load a signed byte. -/
  | lb (c : Fin 8) (gd ga : Fin 16) (imm : BitVec 18) (upset : Bool)
  /-- `LBU` (R20): Load an unsigned byte. -/
  | lbu (c : Fin 8) (gd ga : Fin 16) (imm : BitVec 18) (upset : Bool)
  /-- `SW` (R20): Store a 32-bit word through the write buffer. -/
  | sw (c : Fin 8) (gd ga : Fin 16) (imm : BitVec 18)
  /-- `SH` (R20): Store a 16-bit halfword through the write buffer. -/
  | sh (c : Fin 8) (gd ga : Fin 16) (imm : BitVec 18)
  /-- `SB` (R20): Store a byte through the write buffer. -/
  | sb (c : Fin 8) (gd ga : Fin 16) (imm : BitVec 18)
  /-- `BCS` (R27): Signed conditional branch on cond2. -/
  | bcs (c : Fin 8) (ga gb : Fin 16) (cond rsv : BitVec 2) (off : BitVec 14)
  /-- `BCU` (R27): Unsigned or bit-test conditional branch on cond2. -/
  | bcu (c : Fin 8) (ga gb : Fin 16) (cond rsv : BitVec 2) (off : BitVec 14)
  /-- `JAL` (R27): Jump relative and write the link to gd. -/
  | jal (c : Fin 8) (gd ga : Fin 16) (imm : BitVec 18)
  /-- `JALR` (R27): Jump to a word-aligned register address and write the link. -/
  | jalr (c : Fin 8) (gd ga : Fin 16) (imm : BitVec 18)
  /-- `MFS` (R25): Read a special register into gd. -/
  | mfs (c : Fin 8) (gd : Fin 16) (imm : BitVec 18)
  /-- `MTS` (R25): Write ga to a special register. -/
  | mts (c : Fin 8) (ga : Fin 16) (imm : BitVec 18)
  /-- `NOP` (R27): SYS sub20 0: no operation. -/
  | nop (c : Fin 8) (rsv : BitVec 2)
  /-- `WFE` (R27): Stop issue until an enabled event is pending, entering a granted own-domain RET. -/
  | wfe (c : Fin 8) (rsv : BitVec 2)
  /-- `RETE` (R38): Return from a handler, restoring EPCn and ESTATn and writing any latched result. -/
  | rete (c : Fin 8) (rsv : BitVec 2)
  /-- `FENCE` (R27): Wait until the write buffer is empty. -/
  | fence (c : Fin 8) (rsv : BitVec 2)
  /-- `TRD` (R31): Read network time, grains and seconds[31:0], latching the full value. -/
  | trd (c : Fin 8) (gd ga : Fin 16)
  /-- `TRD_SECONDS_HI` (R31): TRD func14 1: return seconds[47:32] of the last TRD. -/
  | trdSecondsHi (c : Fin 8) (gd : Fin 16)
  /-- `TWAIT` (R32): Wait until network time reaches a target, or complete LATE at once. -/
  | twait (c : Fin 8) (gd ga gb : Fin 16) (func : BitVec 14)
  /-- `TWAIT_DONE` (R32): A waiting TWAIT completes in the first cycle TRD reaches its target. -/
  | twaitDone (c : Fin 8)
  /-- `MWAIT` (R32): Wait for a mains cycle and angle under HOLD or FREEWHEEL. -/
  | mwait (c : Fin 8) (gd ga gb : Fin 16) (func : BitVec 14)
  /-- `MWAIT_DONE` (R81): A waiting MWAIT completes at its cycle and angle, or LOST, LATE or NOTREADY. -/
  | mwaitDone (c : Fin 8)
  /-- `TARM` (R33): Arm a once or periodic event in one of eight TARM slots. -/
  | tarm (c : Fin 8) (gd ga : Fin 16) (imm : BitVec 16)
  /-- `TARM_PULSE` (R70): TARM with PULSE set: take a pulse generator by descriptor. -/
  | tarmPulse (c : Fin 8) (gd ga : Fin 16) (imm : BitVec 16)
  /-- `TARM_CANCEL` (R33): TARM with CANCEL set: free a slot. -/
  | tarmCancel (c : Fin 8) (gd : Fin 16) (imm : BitVec 16)
  /-- `TARM_FIRE` (R33): An armed slot's time is reached and its line is raised on the issuing core. -/
  | tarmFire (c i : Fin 8)
  /-- `TREARM` (R34): Arm the network-time step when mode or authorisation permits. -/
  | trearm (c : Fin 8) (gd : Fin 16) (sub : BitVec 20) (rsv : BitVec 2)
  /-- `RXARM` (R106): Arm a receive window on a channel. -/
  | rxarm (c : Fin 8) (gd ga : Fin 16) (imm : BitVec 18)
  /-- `RXARM_CANCEL` (R107): RXARM with CANCEL: end a window with outcome CANCELLED. -/
  | rxarmCancel (c : Fin 8) (gd ga : Fin 16) (imm : BitVec 17)
  /-- `TXQ` (R120): Queue a transmit command on a chain, pre-empting for a STOP class. -/
  | txq (c : Fin 8) (gd ga : Fin 16) (imm : BitVec 18) (frame : TxFrame)
  /-- `PKTGET` (R187): Take a descriptor from a descriptor queue, optionally waiting. -/
  | pktget (c : Fin 8) (gd ga : Fin 16) (imm : BitVec 18) (upset : Bool)
  /-- `PKTGET_WAIT_DONE` (R29): A PKTGET with WAIT completes when a descriptor becomes available. -/
  | pktgetWaitDone (c : Fin 8) (upset : Bool)
  /-- `PKTPUT` (R191): Append a descriptor to a queue, waiting for credit. -/
  | pktput (c : Fin 8) (gd ga : Fin 16) (imm : BitVec 18)
  /-- `KEYLD` (R244): Load a stored key into a slot, WKR or group-key cache. -/
  | keyld (c : Fin 8) (gd ga : Fin 16) (imm : BitVec 18)
  /-- `KDRV` (R245): Derive a node link key into the core slot or GCM-HOST WKR. -/
  | kdrv (c : Fin 8) (gd ga gb : Fin 16) (func : BitVec 14)
  /-- `PDREQ_ON` (R311): Request a domain ON, with dependency and budget checks. -/
  | pdreqOn (c : Fin 8) (gd ga : Fin 16) (imm : BitVec 16)
  /-- `PDREQ_RET` (R312): Request a domain to RET through the agent handshake. -/
  | pdreqRet (c : Fin 8) (gd ga : Fin 16) (imm : BitVec 16) (silent : Option Byte)
  /-- `PDREQ_OFF` (R312): Request a domain OFF through the agent handshake. -/
  | pdreqOff (c : Fin 8) (gd ga : Fin 16) (low : Bool) (imm : BitVec 16) (silent : Option Byte)
  /-- `PDSTAT` (R311): Return the power state of a domain. -/
  | pdstat (c : Fin 8) (gd ga : Fin 16) (imm : BitVec 18)
  /-- `STG` (R377): Append an entry to a Plank bank. -/
  | stg (c : Fin 8) (gd ga gb : Fin 16) (func : BitVec 14)
  /-- `CHK` (R378): Check a Plank bank against the 24 rules. -/
  | chk (c : Fin 8) (gd : Fin 16) (sub : BitVec 20) (rsv : BitVec 2)
  /-- `BLK` (R379): Apply a checked bank on the first TIME edge after preparation. -/
  | blk (c : Fin 8) (gd ga gb : Fin 16) (func : BitVec 14)
  /-- `BLK_NETWORK_TIME` (R379): Arm a checked bank for a network time. -/
  | blkNetworkTime (c : Fin 8) (gd ga gb : Fin 16) (b : Fin 2) (rsv : BitVec 11)
  /-- `BLK_MAINS` (R379): Arm a checked bank for a mains cycle and angle. -/
  | blkMains (c : Fin 8) (gd ga gb : Fin 16) (b : Fin 2) (rsv : BitVec 11)
  /-- `LOGW` (R37): Write a software record to the event recorder. -/
  | logw (c : Fin 8) (gd ga : Fin 16) (imm : BitVec 18)
  /-- `LOGW_FREEZE` (R405): LOGW code 0xFFFE freezes the journal. -/
  | logwFreeze (c : Fin 8) (gd ga : Fin 16) (rsv : BitVec 2)
  /-- `LOGW_CLEAR` (R400): LOGW code 0xFFFF clears the recorder when permitted. -/
  | logwClear (c : Fin 8) (gd ga : Fin 16) (rsv : BitVec 2)
  /-- `MODE` (R13): Request a mode change along Table 01-7. -/
  | mode (c : Fin 8) (gd : Fin 16) (sub : BitVec 20) (rsv : BitVec 2)
  /-- `MODE_CHANGE` (R17): A mode change takes effect on one TIME edge, writing SYS_MODE and its record. -/
  | modeChange
  /-- `STOP` (R298): Set the fleet stop latch with a cause. -/
  | stop (c : Fin 8) (gd : Fin 16) (sub : BitVec 20) (rsv : BitVec 2)
  /-- `RESUME` (R299): Verify a token and clear the fleet stop latch. -/
  | resume (c : Fin 8) (gd ga : Fin 16) (imm : BitVec 18)
  /-- `ACT` (R50): Scope 0: load a core program onto a target core. -/
  | act (c : Fin 8) (gd ga : Fin 16) (imm : BitVec 16)
  /-- `ACT_PKT_MICROCODE` (R371): Scope 1: swap packet-engine microcode with a pause of at most 5 ms. -/
  | actPktMicrocode (c : Fin 8) (gd ga : Fin 16) (imm : BitVec 16)
  /-- `ACT_GNSS_MICROCODE` (R370): Scope 2: swap GNSS microcode with a pause of at most 1 s. -/
  | actGnssMicrocode (c : Fin 8) (gd ga : Fin 16) (imm : BitVec 16)
  /-- `ACT_BUNDLE` (R370): Scope 3: stage a device bundle for MODE ACTIVATE. -/
  | actBundle (c : Fin 8) (gd ga : Fin 16) (imm : BitVec 16)
  /-- `ACT_PAUSE_END` (R371): A scope-1 or scope-2 pause ends and the new microcode resumes. -/
  | actPauseEnd (gnss : Bool)
  /-- `ACTIVATION_END` (R372): Device activation ends, returning to the previous mode on the new or old image. -/
  | activationEnd (failed : Bool) (step status who : Fin 256) (pause : Word)
  /-- `EVENT_ENTRY` (R38): A pending enabled event enters its handler when its level permits. -/
  | eventEntry (c : Fin 8)
  /-- `WDOG` (R387): A core watchdog period expires and the fault is raised. -/
  | wdog (c : Fin 8)
  /-- `WDOG_WARN` (R25): The watchdog reaches half its period and raises its warning event. -/
  | wdogWarn (c : Fin 8)
  /-- `DMA_GO` (R25): A write of DMACTL.GO starts a core DMA transfer, or sets ERR. -/
  | dmaGo (c : Fin 8) (v : Word)
  /-- `DMA_DONE` (R25): A core DMA transfer completes and raises its line. -/
  | dmaDone (c : Fin 8)
  /-- `IN_RING` (R46): Host rings the inbound mailbox, setting IN_FULL and the mailbox event. -/
  | inRing (n : Fin 8)
  /-- `OUT_RING` (R46): Core rings the outbound mailbox, raising host interrupt MBOUTn. -/
  | outRing (n : Fin 8)
  /-- `SEQ_RETIRE_WRITE` (R51): A write of SEQ_RETIRE retires cores or, in MAINT, clears marks. -/
  | seqRetireWrite (v : Word)
  /-- `MODE_SET` (R52): Mailbox request to C0 to issue MODE. -/
  | modeSet (c : Fin 8) (tag : Byte) (nw : Fin 16) (target : Word)
  /-- `MODE_GET` (R52): Mailbox request returning SYS_MODE, SYS_OVERLAY and SYS_MODE_STAT. -/
  | modeGet (c : Fin 8) (tag : Byte) (nw : Fin 16)
  /-- `TIME_READ` (R52): Mailbox request to C6 returning a TRD value and time quality. -/
  | timeRead (c : Fin 8) (tag : Byte) (nw : Fin 16)
  /-- `UPDATE_PIECE` (R52): Mailbox request to C5 to deliver one update piece. -/
  | updatePiece (c : Fin 8) (tag : Byte) (nw : Fin 16) (target arg1 addr : Word)
  /-- `UPDATE_STATUS` (R52): Mailbox request returning UPD_BOOT and target states. -/
  | updateStatus (c : Fin 8) (tag : Byte) (nw : Fin 16)
  /-- `UPDATE_COMMIT` (R52): Mailbox request to commit the trial image. -/
  | updateCommit (c : Fin 8) (tag : Byte) (nw : Fin 16)
  /-- `UPDATE_REVERT` (R52): Mailbox request to revert the trial image. -/
  | updateRevert (c : Fin 8) (tag : Byte) (nw : Fin 16)
  /-- `UPDATE_ACTIVATE` (R52): Mailbox request to load, stage and activate a slot's bundle. -/
  | updateActivate (c : Fin 8) (tag : Byte) (nw : Fin 16) (slot addr : Word)
  /-- `FLEET_RESUME` (R52): Mailbox request to C4 to issue RESUME with a token. -/
  | fleetResume (c : Fin 8) (tag : Byte) (nw : Fin 16) (addr : Word)
  /-- `FLEET_STOP` (R52): Mailbox request to C4 to issue STOP. -/
  | fleetStop (c : Fin 8) (tag : Byte) (nw : Fin 16) (cause : Word)
  /-- `SPOOFCLR` (R52): Mailbox request to clear SPOOF under an authorisation grant of purpose 2. -/
  | spoofclr (c : Fin 8) (tag : Byte) (nw : Fin 16)
  /-- `GNSS_STATUS` (R52): Mailbox request returning GNSS integrity, reference and free-channel state. -/
  | gnssStatus (c : Fin 8) (tag : Byte) (nw : Fin 16)
  /-- `TIME_CAPTURE` (R58): A read of the TIME snapshot group captures all three words in the agent's shadows. -/
  | timeCapture (a : Agent) (i : Fin 3)
  /-- `SHADOW_RELEASE` (R58): A snapshot group's shadows are released after their time-out. -/
  | shadowRelease (a : Agent) (g : Fin 4)
  /-- `TIME_TADJ_WRITE` (R55): A write of TIME_TADJ sets the rate word, clipping out-of-range values. -/
  | timeTadjWrite (v : Word)
  /-- `SOURCE_COMMIT` (R59): A write of TIME_SRCk_N commits a source offset. -/
  | sourceCommit (agent : Agent) (k : Fin 4) (n : Word)
  /-- `SOURCE_LOST` (R60): A source's last commit exceeds its time-out and it becomes lost. -/
  | sourceLost (k : Fin 4) (temp : Int)
  /-- `SOURCE_REVERT` (R61): The primary has been valid for REVHOLD seconds and is used again. -/
  | sourceRevert
  /-- `HOLDOVER_UPDATE` (R66): Once per second in HOLDOVER the error estimate is recomputed. -/
  | holdoverUpdate (temp : Int)
  /-- `TIME_COLD_START` (R82): PD12 exits RET or OFF, or is reset, and the TIME block cold-starts. -/
  | timeColdStart
  /-- `COUNTER_LOAD` (R82): After a cold start the counter loads from the RTC on the next tick edge. -/
  | counterLoad
  /-- `PULSE_EDGE` (R69): A pulse generator emits a leading edge at its scheduled time, or skips or squelches it. -/
  | pulseEdge (n : Fin 4)
  /-- `ETH_RX_FRAME` (R429): An Ethernet port receives a frame, stamping PTP event messages. -/
  | ethRxFrame (p : Fin 2) (octets : List Byte)
  /-- `ETH_TX_FRAME` (R75): A frame commits to an Ethernet egress pipeline, raising a transmit stamp event. -/
  | ethTxFrame (p : Fin 2) (octets : List Byte)
  /-- `INSERT_ORIGIN` (R76): NET_INSp_GO KIND 0 inserts originTimestamp into a one-step Sync. -/
  | insertOrigin (p : Fin 2)
  /-- `INSERT_RESIDENCE` (R76): NET_INSp_GO KIND 1 adds residence time to correctionField. -/
  | insertResidence (p : Fin 2)
  /-- `LINK_CHANGE` (R429): An Ethernet link goes up or down and raises its event. -/
  | linkChange (p : Fin 2) (up anDone fdx : Bool) (speed : Fin 4)
  /-- `MAINS_EDGE` (R78): A filtered MAINS_IN edge is accepted, counted or used to correct the axis. -/
  | mainsEdge (falling : Bool)
  /-- `MAINS_LOST` (R80): No valid mains edge has come for 100 ms and the axis is lost. -/
  | mainsLost
  /-- `MAINS_CAPTURE` (R79): A read of TIME_MAINS_CYC or ANG captures both in shadows. -/
  | mainsCapture (a : Agent) (i : Fin 2)
  /-- `RETUNE` (R89): A write of F_C starts a 60 us retune of a path. -/
  | retune (p : Fin 2) (fc : Fin 131072)
  /-- `RETUNE_END` (R89): A path's retune ends and it returns to RUN. -/
  | retuneEnd (p : Fin 2)
  /-- `AGC_ATTACK` (R90): ADC peak above -3 dBFS on 4 samples lowers the path gain by 6 dB. -/
  | agcAttack (p : Fin 2)
  /-- `AGC_DECAY` (R90): A peak below -15 dBFS for 1 ms raises the gain by 3 dB. -/
  | agcDecay (p : Fin 2)
  /-- `DETECTOR_EVALUATION` (R93): Every 40 us each detector compares power with its threshold and adapts its floor. -/
  | detectorEvaluation (c : Fin 256) (power : Int)
  /-- `CHANNEL_JAM` (R95): A channel stays above threshold for DETMAX and is declared jammed. -/
  | channelJam (c : Fin 256)
  /-- `QUALIFY` (R96): An SFD match qualifies a frame and a lane is allocated. -/
  | qualify (ms : List SfdMatch)
  /-- `QUALIFIER_TIMEOUT` (R96): No SFD within 1.2 ms of correlation; QFAIL counts. -/
  | qualifierTimeout (c : Fin 256)
  /-- `PHR_DECODED` (R100): A lane decodes the PHR and goes to DATA or releases with PHRLEN or MODESW. -/
  | phrDecoded (n : Fin 64) (ms fcs dw : Bool) (len : Fin 2048) (foff : BitVec 16) (rssi : BitVec 12) (snr : Int)
  /-- `LANE_RELEASE` (R101): A lane ends its frame, delivers the trailer and is released. -/
  | laneRelease (n : Fin 64) (fcs : Bool) (tail : List Byte)
  /-- `WINDOW_OPEN` (R107): An armed receive window reaches its open time. -/
  | windowOpen (w : Fin 128)
  /-- `WINDOW_CLOSE` (R107): A receive window ends and records its outcome. -/
  | windowClose (w : Fin 128)
  /-- `PATH_OFF_REQUEST` (R109): CARD_PATHp_CTL.REQ written OFF. -/
  | pathOffRequest (p : Fin 2)
  /-- `PATH_RUN_REQUEST` (R109): CARD_PATHp_CTL.REQ written RUN. -/
  | pathRunRequest (p : Fin 2)
  /-- `PATH_CAL_REQUEST` (R109): REQ written CAL: the path drains and then calibrates. -/
  | pathCalRequest (p : Fin 2)
  /-- `PATH_MAPOUT_REQUEST` (R109): REQ written MAPOUT: the path drains and is mapped out. -/
  | pathMapoutRequest (p : Fin 2)
  /-- `CALWAIT_EXPIRY` (R109): Lanes still busy at CALWAIT end with ABORT. -/
  | calwaitExpiry (p : Fin 2)
  /-- `PATH_CAL_DONE` (R109): A path's 15 ms calibration ends, in RUN or MAPPED_OUT. -/
  | pathCalDone (p : Fin 2) (ok : Bool) (temp : Int)
  /-- `LANE_MAP_WRITE` (R110): A write of CARD_LANE_MAP maps lanes out or, in MAINT, back in. -/
  | laneMapWrite (hi : Bool) (v : Word)
  /-- `LANE_SELFCHECK` (R111): Every SCPER seconds one FREE lane enters SELFTEST. -/
  | laneSelfcheck
  /-- `SELFCHECK_END` (R111): A 25 us lane self-check ends, freeing or mapping out the lane. -/
  | selfcheckEnd (n : Fin 64) (ok : Bool)
  /-- `BLANK_END` (R108): Blanking of a path ends 10 us after its T/R switch is released. -/
  | blankEnd (p : Fin 2)
  /-- `FRAME_FETCH` (R123): At T - 250 us the chain requests and protects the command's frame. -/
  | frameFetch (x : Fin 3) (ckptFails : Bool)
  /-- `HOP_START` (R123): At T - 33 us, or when free, the guard checks and the hop or calibration begins. -/
  | hopStart (x : Fin 3)
  /-- `LOCK` (R119): The synthesiser confirms lock after a hop or calibration. -/
  | lock (x : Fin 3)
  /-- `NOLOCK` (R119): Lock is not confirmed within its time-out; the entry is cleared and the fault raised. -/
  | nolock (x : Fin 3) (pll : Bool)
  /-- `LBT_MEASUREMENT` (R137): A listen-before-talk window of DUR ends, clear or busy. -/
  | lbtMeasurement (x : Fin 3) (power : Int)
  /-- `AIR_START` (R124): The ramp begins and the frame goes on air at A, power clipped as needed. -/
  | airStart (x : Fin 3) (pdet : Fin 4096)
  /-- `TX_COMPLETE` (R127): A transmission's ramp-down ends and its completion record is written. -/
  | txComplete (x : Fin 3) (underrun : Bool)
  /-- `PA_SENSOR_READ` (R118): Every 10 ms the PA sensor ages calibration entries to stale or cold. -/
  | paSensorRead (x : Fin 3) (temp : Int) (mv : Nat)
  /-- `BGCAL_START` (R118): An idle synthesiser starts a background calibration of one entry. -/
  | bgcalStart (x : Fin 3)
  /-- `CALIBRATION_DONE` (R117): An entry calibration ends and is copied to eMRAM. -/
  | calibrationDone (x : Fin 3) (ok : Bool) (result : BitVec 22)
  /-- `CALREQ_ALL` (R118): SYNx_CALREQ.ALL marks every valid entry stale. -/
  | calreqAll (x : Fin 3)
  /-- `CALREQ_GO` (R118): SYNx_CALREQ.GO names the entry to calibrate next. -/
  | calreqGo (x : Fin 3) (k : Fin 1024)
  /-- `FRQ_WRITE` (R117): A write of an entry's FRQ clears its VALID, or is ignored out of range. -/
  | frqWrite (x : Fin 3) (k : Fin 1024) (f : Fin 268435456)
  /-- `BUCKET_ADVANCE` (R135): Every 10 s of TIME ticks the duty buckets advance and are checkpointed. -/
  | bucketAdvance (r : Fin 2)
  /-- `GUARD_LOCK` (R138): A write of SUBTX_GRDLOCK in PROVISION starts fusing the guard image. -/
  | guardLock (v : Word)
  /-- `GUARD_FUSED` (R138): Guard fusing completes with read-back, setting LOCKED or MISMATCH. -/
  | guardFused (ok : Bool)
  /-- `ISM_RX_FRAME` (R142): The ISM receiver receives an O-QPSK frame and delivers it. -/
  | ismRxFrame (octets : List Byte) (status : Fin 8) (busy : Bool) (foff : BitVec 16) (rssi : BitVec 12) (snr : Int) (toff : BitVec 16)
  /-- `CHAIN_START` (R153): A chain starts on an even second, switching bank or starting a resync chain. -/
  | chainStart
  /-- `SLOT_BEACON` (R156): A BEACON entry sends an Enhanced Beacon with NACK entries. -/
  | slotBeacon (p : Fin 2) (n : Fin 800)
  /-- `SLOT_POLL` (R157): A POLL entry polls a node or sends the broadcast queue head. -/
  | slotPoll (p : Fin 2) (n : Fin 800) (head : Option (TxFrame × Fin 4 × Fin 64))
  /-- `SLOT_LISTEN` (R163): A LISTEN entry opens the expectations of a listen list. -/
  | slotListen (p : Fin 2) (n : Fin 800)
  /-- `SLOT_WAKE` (R162): A WAKE entry sends wake-up frames to an address. -/
  | slotWake (p : Fin 2) (n : Fin 800)
  /-- `SLOT_ALARM` (R154): An ALARM entry opens contention on a channel range. -/
  | slotAlarm (p : Fin 2) (n : Fin 800)
  /-- `MAC_FILTER` (R151): After three words the MAC filters a frame and looks up its node and key. -/
  | macFilter (q : Fin 65) (f : MlpFrame)
  /-- `RECEIVE_DECISION` (R159): At frame end the MAC decides NEW, DUP, REPLAY, MICFAIL or FCS and the ACK. -/
  | receiveDecision (q : Fin 65) (mic ckptFails : Bool)
  /-- `DEFERRED_ACK_EXPIRY` (R161): A deferred entry 2 s old is dropped. -/
  | deferredAckExpiry
  /-- `FLOOD_CACHE_EXPIRY` (R170): A seen-cache entry expires AGE seconds after insertion. -/
  | floodCacheExpiry
  /-- `EXPECTATION_EVALUATION` (R164): Before an expected slot the MAC computes the brim and opens a window or declares LOST. -/
  | expectationEvaluation (i : Fin 131072)
  /-- `EXPECTATION_WINDOW_CLOSE` (R165): An expectation window closes without a contact and adds to MISS. -/
  | expectationWindowClose (i : Fin 131072)
  /-- `LOSTQ_POP` (R167): A read of MAC_LOSTQ removes and returns the head node index. -/
  | lostqPop
  /-- `NODE_READ` (R176): MAC_NODECMD READ copies a context's hardware area to the window. -/
  | nodeRead (i : Fin 131072)
  /-- `NODE_WRITE` (R176): MAC_NODECMD WRITE stores masked words into a context. -/
  | nodeWrite (i : Fin 131072)
  /-- `NODE_ALLOC` (R176): MAC_NODECMD ALLOC takes the lowest FREE context. -/
  | nodeAlloc
  /-- `NODE_REMOVE` (R177): MAC_NODECMD REMOVE sets a context QUARANTINE and removes its keys. -/
  | nodeRemove (i : Fin 131072)
  /-- `NODE_STATE` (R176): MAC_NODECMD STATE sets a context's state. -/
  | nodeState (i : Fin 131072) (st : Fin 16)
  /-- `QUARANTINE_EXPIRY` (R177): A QUARANTINE context becomes FREE after 4 s. -/
  | quarantineExpiry (i : Fin 131072)
  /-- `PORT_WRITE` (R184): A producer writes a tagged word into a frame port, spending a credit. -/
  | portWrite (q : Nat) (data : BitVec 64) (sof eof pa : Bool)
  /-- `PORT_READ` (R185): A consumer reads a word, with framing and parity checks. -/
  | portRead (q : Nat) (upset : Bool)
  /-- `CREDIT_RETURN` (R190): A freed place returns a credit to the producer after the return latency. -/
  | creditReturn (q : Nat)
  /-- `CREDIT_AUDIT` (R192): A periodic audit checks a port's credits, switching to back-pressure on failure. -/
  | creditAudit (dq : Bool) (i : Nat) (found : Option Nat)
  /-- `CREDIT_MODE_RESTORE` (R193): A pending return to credit mode takes effect when the port is empty. -/
  | creditModeRestore (dq : Bool) (i : Nat)
  /-- `TOKEN_RETURN` (R196): A flight token returns and a held fetch or SOF proceeds. -/
  | tokenReturn (pool : Fin 3) (n : Fin 64)
  /-- `HRX_POP` (R197): A read of QFAB_HRX_STAT pops a word of port 75. -/
  | hrxPop (upset : Bool)
  /-- `HTX_PUSH` (R197): A write of QFAB_HTX_TAG pushes a word into port 74. -/
  | htxPush (tag : Word)
  /-- `HDQ_POP` (R197): A read of QFAB_HDQPOP takes a descriptor from the selected queue. -/
  | hdqPop (upset : Bool)
  /-- `HDQ_PUSH` (R197): A write of QFAB_HDQPUSH appends a descriptor. -/
  | hdqPush (v : Word)
  /-- `REGION_INIT` (R202): A write of FWD_DBASE starts initialising the FWD region. -/
  | regionInit (v : Word)
  /-- `REGION_INIT_DONE` (R202): FWD region initialisation ends and INIT clears. -/
  | regionInitDone
  /-- `PFX_ADD` (R207): FWD_PFXCMD ADD inserts or replaces a prefix by copy-on-write. -/
  | pfxAdd (len : Fin 256) (res : Fin 4096)
  /-- `PFX_DEL` (R207): FWD_PFXCMD DEL removes a prefix. -/
  | pfxDel (len : Fin 256)
  /-- `PFX_READ` (R207): FWD_PFXCMD READ returns a prefix's result. -/
  | pfxRead (len : Fin 256)
  /-- `PFX_LOOKUP` (R207): FWD_PFXCMD LOOKUP runs a lookup for software. -/
  | pfxLookup
  /-- `REBUILD` (R208): FWD_PFXCMD REBUILD re-enters every shadow record. -/
  | rebuild
  /-- `PFX_COMMAND_DONE` (R207): A prefix command completes, clearing BUSY and raising its event. -/
  | pfxCommandDone
  /-- `ROUTE_LOOKUP` (R203): A frame's IPv6 destination is looked up and forwarded by its result. -/
  | routeLookup (dst : BitVec 128) (tooLong : Bool)
  /-- `BRIDGE_FORWARD` (R211): A bridged frame is forwarded, dropped or flooded, and its source learned. -/
  | bridgeForward (p : Fin 4) (dst src : BitVec 48) (vid : Fin 4096) (fcs : Bool)
  /-- `AGER_VISIT` (R214): The ager visits a bucket and removes entries past AGETIME. -/
  | agerVisit (b : Fin 4096)
  /-- `BR_LOOKUP` (R215): FWD_BRCMD LOOKUP finds a bridge entry. -/
  | brLookup
  /-- `BR_WRITE` (R215): FWD_BRCMD WRITE writes a bridge entry. -/
  | brWrite (noj : Bool)
  /-- `BR_DELETE` (R215): FWD_BRCMD DELETE removes a bridge entry. -/
  | brDelete (noj : Bool)
  /-- `BR_FLUSH` (R215): FWD_BRCMD FLUSH removes every non-static entry of a port. -/
  | brFlush (noj : Bool) (p : Fin 4)
  /-- `READIDX` (R215): FWD_BRCMD READIDX reads the entry at an index. -/
  | readidx (i : Fin 16384)
  /-- `EM_LOOKUP_EUI` (R210): FWD_EMCMD 1 looks up an EUI-64. -/
  | emLookupEui
  /-- `EM_LOOKUP_SHORT` (R210): FWD_EMCMD 2 looks up a PAN select and short address. -/
  | emLookupShort
  /-- `EM_LOOKUP_IID` (R209): FWD_EMCMD 3 looks up an IID. -/
  | emLookupIid
  /-- `SCHED_ENQUEUE` (R222): A frame arrives at SCHED and joins or binds its flow. -/
  | schedEnqueue (e : Fin 4) (desc : Option (Fin 16384)) (word0 word1 : Word)
  /-- `SELECTION` (R226): An egress selects the eligible flow with the smallest start tag. -/
  | selection (e : Fin 4)
  /-- `SHAPER_REFILL` (R229): A shaper adds tokens each period, applying pending changes. -/
  | shaperRefill (n : Fin 256)
  /-- `WAKEHOLD_EXPIRY` (R227): A woken node flow returns to ASLEEP after WAKEHOLD. -/
  | wakeholdExpiry (f : Fin 4096)
  /-- `AGE_SWEEP` (R228): Once per second frames older than AGEMAX are dropped. -/
  | ageSweep (e : Fin 4)
  /-- `FLOW_IDLE_EXPIRY` (R222): A flow IDLE for FIDLE seconds becomes FREE. -/
  | flowIdleExpiry (f : Fin 4096)
  /-- `FLOW_BIND` (R222): SCHED_FLOWCMD BIND binds a flow to a key. -/
  | flowBind
  /-- `FLOW_FREE` (R235): SCHED_FLOWCMD FREE frees an empty flow. -/
  | flowFree (f : Fin 4096)
  /-- `FLOW_WAKE` (R227): SCHED_FLOWCMD WAKE wakes a flow. -/
  | flowWake (f : Fin 4096)
  /-- `FLOW_SLEEP` (R227): SCHED_FLOWCMD SLEEP puts a flow ASLEEP. -/
  | flowSleep (f : Fin 4096)
  /-- `FLOW_READ` (R237): SCHED_FLOWCMD READ copies a flow's state to the window. -/
  | flowRead (f : Fin 4096) (clr : Bool)
  /-- `POLICER_READ` (R237): A write of SCHED_POLCMD copies a policer to the window. -/
  | policerRead (i : Fin 1024) (clr : Bool)
  /-- `PEND_SWEEP` (R236): A write of SCHED_CTL.EN starts the PEND.COUNT sweep of the node table. -/
  | pendSweep (v : Word)
  /-- `PEND_SWEEP_DONE` (R236): The PEND sweep completes and held inputs resume. -/
  | pendSweepDone
  /-- `SETMODE` (R238): KEYS_CMD SETMODE sets the store to FLAT or TREE. -/
  | setmode (a : Agent) (arg : Fin 16)
  /-- `CREATE` (R259): KEYS_CMD CREATE generates a secret key object. -/
  | create (a : Agent) (key2 : Fin 4096)
  /-- `IMPORT_WRAPPED` (R259): KEYS_CMD IMPORT ARG 0 unwraps an object into the store. -/
  | importWrapped (a : Agent) (key2 : Fin 4096)
  /-- `IMPORT_PLAIN` (R259): KEYS_CMD IMPORT ARG 1 imports a plain public key. -/
  | importPlain (a : Agent) (key2 : Fin 4096)
  /-- `EXPORT` (R259): KEYS_CMD EXPORT wraps an object into KEYS_BUFk. -/
  | exportObj (a : Agent) (key2 obj : Fin 4096)
  /-- `INVALIDATE` (R255): KEYS_CMD INVALIDATE invalidates an object and orphans descendants. -/
  | invalidate (a : Agent) (obj : Fin 4096)
  /-- `KEYS_DELETE` (R256): KEYS_CMD DELETE empties an object and its descendants. -/
  | keysDelete (a : Agent) (obj : Fin 4096)
  /-- `READATTR` (R240): KEYS_CMD READATTR returns an object's attributes. -/
  | readattr (a : Agent) (obj : Fin 4096)
  /-- `KEYS_VERIFY` (R260): KEYS_CMD VERIFY checks an ECDSA P-256 signature. -/
  | keysVerify (a : Agent) (key2 : Fin 4096)
  /-- `AUTHORISE` (R261): KEYS_CMD AUTHORISE grants a purpose for 60 s against the challenge. -/
  | authorise (a : Agent) (key2 : Fin 4096)
  /-- `NEWCHAL` (R261): KEYS_CMD NEWCHAL replaces the challenge. -/
  | newchal (a : Agent)
  /-- `KEYS_COMMAND_DONE` (R246): A KEYS command completes and raises 0x80 : 0x01. -/
  | keysCommandDone
  /-- `GRANT_EXPIRY` (R261): An authorisation grant's 60 s run out. -/
  | grantExpiry
  /-- `GCM_RUN` (R262): KEYS_GCM_CTL.GO starts an AES-128-GCM seal or open. -/
  | gcmRun (open_ : Bool)
  /-- `GCM_DONE` (R262): A GCM run completes and raises its event. -/
  | gcmDone
  /-- `ZEROIZE_SALT` (R257): Once LOG is ON the store salt is overwritten (step 2). -/
  | zeroizeSalt
  /-- `ZEROIZE` (R257): Object area and journal are overwritten and zeroization completes. -/
  | zeroize
  /-- `ANT_ENABLE` (R268): A write of GNSS_ANT.EN turns the antenna supply ON or OFF. -/
  | antEnable (v : Word)
  /-- `ANT_OPEN` (R268): Antenna current below 3 mA for 100 ms enters OPEN. -/
  | antOpen (ma : Fin 4096)
  /-- `ANT_RECOVER` (R268): Current at or above 3 mA for 100 ms returns OPEN to ON. -/
  | antRecover (ma : Fin 4096)
  /-- `ANT_SHORT` (R268): Current at the limit for 1 ms switches the supply off in SHORT. -/
  | antShort (ma : Fin 4096)
  /-- `ANT_RETRY` (R268): After RETRY seconds a SHORT supply is switched on again. -/
  | antRetry
  /-- `ASSIGN` (R269): GNSS_CHn_CFG ASSIGN gives a channel a signal and queues its search. -/
  | assign (n : Fin 72) (v : BitVec 28)
  /-- `RELEASE` (R269): GNSS_CHn_CFG RELEASE returns a channel to IDLE. -/
  | release (n : Fin 72) (v : BitVec 28)
  /-- `REACQ` (R269): GNSS_CHn_CFG REACQ queues an aided search again. -/
  | reacq (n : Fin 72) (v : BitVec 28)
  /-- `SEARCH_START` (R270): The acquisition engine starts the next queued search. -/
  | searchStart
  /-- `SEARCH_DONE` (R270): A search ends, moving the channel to PULLIN or LOST. -/
  | searchDone (ok : Bool) (dop : Int)
  /-- `TRACK_ENTRY` (R271): PLL lock held for 200 ms moves a channel to TRACK. -/
  | trackEntry (n : Fin 72)
  /-- `PULLIN_TIMEOUT` (R271): A channel not in TRACK within 2 s returns to LOST. -/
  | pullinTimeout (n : Fin 72)
  /-- `LOSS_OF_LOCK` (R271): C/N0 below 25 dB-Hz for 500 ms puts a channel in LOST. -/
  | lossOfLock (n : Fin 72)
  /-- `CYCLE_SLIP` (R271): A cycle slip is declared on a channel. -/
  | cycleSlip (n : Fin 72)
  /-- `TXT_WRITE` (R272): A write of GNSS_CHn_TXT sets the channel's time of week. -/
  | txtWrite (n : Fin 72) (v : Word)
  /-- `MEASUREMENT_EPOCH` (R274): At each epoch instant every tracked channel is measured into the ring. -/
  | measurementEpoch (ms : List GnssMeas)
  /-- `NAV_MESSAGE` (R275): A complete navigation message is checked and written to the ring. -/
  | navMessage (m : NavMsg)
  /-- `SPOOF_WRITE` (R277): A write of GNSS_INTEG.SPOOF raises or clears SPOOF_SUSPECT. -/
  | spoofWrite (a : Agent) (v median agreed cond : Word)
  /-- `REF_FIX` (R278): A write of GNSS_REFSTAT.FIXED fixes or unfixes the reference coordinate. -/
  | refFix (v : Word)
  /-- `FLEET_RX` (R288): A fleet frame is received, counter-checked and queued. -/
  | fleetRx (f : FleetFrame) (desc : Fin 16384)
  /-- `SLOT_LOST` (R290): A slot without a frame for MLOST seconds becomes LOST. -/
  | slotLost (n : Fin 64)
  /-- `SLOT_FREE` (R290): A write of STATE 0 frees a slot, cancelling reservations and failing tasks. -/
  | slotFree (n : Fin 64) (short : BitVec 16)
  /-- `SUBMIT` (R292): FLEET_RESCMD SUBMIT enters a reservation request. -/
  | submit
  /-- `CANCEL` (R294): FLEET_RESCMD CANCEL frees a reservation. -/
  | cancel (i : Fin 16384)
  /-- `CANCELSLOT` (R294): FLEET_RESCMD CANCELSLOT frees all reservations of a slot. -/
  | cancelslot
  /-- `RES_READ` (R306): FLEET_RESCMD READ copies a reservation to the request registers. -/
  | resRead (i : Fin 16384)
  /-- `RESERVATION_TICK` (R293): At a tick boundary the engine removes expired reservations and decides requests. -/
  | reservationTick
  /-- `RESULT_POP` (R306): A read of FLEET_RESRES0 pops a result. -/
  | resultPop
  /-- `TASK_ADD` (R295): FLEET_TASKCMD ADD enters a task QUEUED. -/
  | taskAdd
  /-- `NEXT` (R295): FLEET_TASKCMD NEXT dispatches the best qualifying task to a slot. -/
  | next (n : Fin 64)
  /-- `TASK_DONE` (R295): FLEET_TASKCMD DONE frees a task. -/
  | taskDone (i : Fin 1024)
  /-- `TASK_FAIL` (R295): FLEET_TASKCMD FAIL frees a task as failed. -/
  | taskFail (i : Fin 1024)
  /-- `TASK_CANCEL` (R295): FLEET_TASKCMD CANCEL frees a task as cancelled. -/
  | taskCancel (i : Fin 1024)
  /-- `TASK_READ` (R306): FLEET_TASKCMD READ reports a task. -/
  | taskRead (i : Fin 1024)
  /-- `GO` (R296): A GO frame is sent at its grid instant while the latch is clear. -/
  | go
  /-- `STOP_INPUT_ASSERT` (R297): A stop input is low on three consecutive samples and sets the latch. -/
  | stopInputAssert (b : Bool) (samples : Nat)
  /-- `INPUT_STUCK` (R297): A stop input asserted for 60 s sets STUCK. -/
  | inputStuck (b : Bool)
  /-- `STOP_DISC` (R297): Stop inputs differing for DISCT ms raise a discrepancy fault. -/
  | stopDisc
  /-- `STOP_SW` (R298): A host write of FLEET_STOP_SW with its key sets the latch. -/
  | stopSw (v : Word)
  /-- `LATCH_CLEAR` (R299): After an OK RESUME the latch clears on the next AON edge. -/
  | latchClear
  /-- `STOP_FRAME` (R300): The stop generator sends a stop frame at its cadence. -/
  | stopFrame (n : Nat)
  /-- `DELAY_EXPIRY` (R313): After the longest DELAY the controller asks every agent again. -/
  | delayExpiry (d : Fin 15) (silent : Option Byte)
  /-- `DOMAIN_ENTRY_COMPLETE` (R312): A granted entry to RET or OFF completes and raises 0x01 : 0x01. -/
  | domainEntryComplete (d : Fin 15)
  /-- `DOMAIN_ON` (R311): A woken domain is ON after its exit time and resumes or re-initialises. -/
  | domainOn (d : Fin 15) (sealOk : Bool)
  /-- `WKRX_FRAME` (R322): The wake receiver decodes a wake-up frame and wakes or counts. -/
  | wkrxFrame (crcOk : Bool) (addr : BitVec 16)
  /-- `WKRX_JAM` (R323): Comparator high for 10 ms marks the wake input jammed. -/
  | wkrxJam
  /-- `WKRX_REARM` (R323): Comparator low for 10 ms re-arms the decoder. -/
  | wkrxRearm
  /-- `VIN_GLITCH` (R308): A VIN dip shorter than 5 us is counted. -/
  | vinGlitch
  /-- `VIN_LOSS` (R325): VIN is confirmed lost and the controller forces entry into BACKUP. -/
  | vinLoss (vin : BitVec 10)
  /-- `VIN_GOOD` (R332): VIN holds above the rising threshold for 2 ms and BACKUP ends by case. -/
  | vinGood (vin : BitVec 10)
  /-- `BACKUP_RETURN` (R333): On the first edge with RETURN's domains ON the mode returns from BACKUP. -/
  | backupReturn
  /-- `VIN_WARN` (R324): VIN falls below the warning threshold. -/
  | vinWarn (vin : BitVec 10)
  /-- `BAK_LOW` (R331): VBAK falls below BAK_LOW and is recorded. -/
  | bakLow (mv : BitVec 16)
  /-- `VBAK_CUTOFF` (R331): VBAK reaches cut-off, the cell disconnects and ON domains go OFF. -/
  | vbakCutoff (mv : BitVec 16)
  /-- `AON_POWER_ON_RESET` (R309): VAON falls below its threshold and the whole device restarts. -/
  | aonPowerOnReset
  /-- `WEEKDAY_ADVANCE` (R342): RTC_SEC crosses a day boundary and RTC_WDAY changes. -/
  | weekdayAdvance
  /-- `RTC_ALARM` (R343): An RTC alarm time is reached; it fires and wakes its map. -/
  | rtcAlarm (n : Fin 2)
  /-- `XTAL_FAIL` (R338): No crystal edge for 4 RC periods switches the AON clock to RC. -/
  | xtalFail
  /-- `XTAL_GOOD` (R338): 1,024 crystal cycles return the AON clock to the crystal. -/
  | xtalGood
  /-- `RTC_CAPTURE` (R339): A read of the RTC group captures it in the agent's shadows. -/
  | rtcCapture (a : Agent) (snap : Bool) (i : Fin 4)
  /-- `RTC_TSNAP` (R344): A seconds-changing tick captures network time and RTC time together. -/
  | rtcTsnap
  /-- `COMMIT_TIME` (R340): RTC_COMMIT.TIME requests the staged time for the next tick. -/
  | commitTime
  /-- `COMMIT_WDAY` (R340): RTC_COMMIT.WDAY requests the staged weekday for the next tick. -/
  | commitWday
  /-- `RTC_COMMIT_APPLY` (R345): On the next tick a pending commit loads the RTC. -/
  | rtcCommitApply
  /-- `RTC_SHIFT_WRITE` (R341): A write of RTC_SHIFT sets a pending shift. -/
  | rtcShiftWrite (v : BitVec 17)
  /-- `RTC_SHIFT_APPLY` (R341): On the next tick the pending shift is added to the increment. -/
  | rtcShiftApply
  /-- `TO_PROVISION` (R349): Lifecycle command to move BLANK to PROVISION. -/
  | toProvision (key : BitVec 16)
  /-- `FUSE_OWNER` (R349): Lifecycle command to fuse the owner debug key hash. -/
  | fuseOwner (key : BitVec 16)
  /-- `TO_FIELD` (R349): Lifecycle command to move PROVISION to FIELD and fuse the tamper setting. -/
  | toField (key : BitVec 16)
  /-- `TO_RMA` (R349): Lifecycle command to move to RMA after zeroization. -/
  | toRma (key : BitVec 16)
  /-- `LC_FUSES_DONE` (R350): Lifecycle fuse programming completes and a reset is applied. -/
  | lcFusesDone
  /-- `TAMPER_ASSERT` (R351): An enabled tamper source asserts and the response sequence runs. -/
  | tamperAssert (src : Fin 7) (samples : Fin 4)
  /-- `DEBUG_OPEN` (R355): A write of DBG_OPEN starts a challenge-response opening. -/
  | debugOpen (v : Word)
  /-- `OPENING_DONE` (R355): A debug opening completes, attaching domains or failing. -/
  | openingDone
  /-- `DEBUG_CLOSE` (R356): A write of DBG_CLOSE closes the session. -/
  | debugClose
  /-- `CORE_HALT` (R354): DBG_HALT.HALT halts or resumes cores. -/
  | coreHalt (mask : BitVec 8)
  /-- `CORE_STEP` (R354): DBG_HALT.STEP has a halted core execute one instruction. -/
  | coreStep (mask : BitVec 8)
  /-- `DOMAIN_FREEZE` (R359): DBG_HALT.FREEZE freezes or unfreezes domain clocks. -/
  | domainFreeze (mask : BitVec 14)
  /-- `LOCKOUT_EXPIRY` (R355): A 600 s debug lockout ends. -/
  | lockoutExpiry
  /-- `EXTEST` (R353): TAP EXTEST holds PD1-PD14 in reset for boundary scan. -/
  | extest
  /-- `SAMPLE_PRELOAD` (R353): TAP SAMPLE/PRELOAD instruction. -/
  | samplePreload
  /-- `IDCODE` (R353): TAP IDCODE returns 0xB720_055B. -/
  | idcode
  /-- `BYPASS` (R438): TAP BYPASS, also taken by unused codes. -/
  | bypass (code : BitVec 4)
  /-- `DBGACC` (R354): TAP DBGACC gives register and memory access at the session level. -/
  | dbgacc (write : Bool) (a v : Word)
  /-- `PIECE` (R365): UPD_CMD PIECE delivers a head, list or image piece to a target. -/
  | piece (t : Fin 16)
  /-- `ERASE` (R367): UPD_CMD ERASE empties a target. -/
  | erase (t : Fin 16)
  /-- `UPD_VERIFY` (R368): UPD_CMD VERIFY checks a .lup image in DRAM and locks it. -/
  | updVerify
  /-- `UPD_RELEASE` (R368): UPD_CMD RELEASE frees a verified entry. -/
  | updRelease (v : Fin 16)
  /-- `LOADSLOT` (R368): UPD_CMD LOADSLOT copies a COMPLETE slot to DRAM and verifies it. -/
  | loadslot
  /-- `UPD_COMMIT` (R373): UPD_CMD COMMIT ends the trial and commits settings. -/
  | updCommit
  /-- `UPD_REVERT` (R373): UPD_CMD REVERT reverts to the previous slot. -/
  | updRevert
  /-- `SETW` (R374): UPD_CMD SETW writes a settings block. -/
  | setw
  /-- `SETFIND` (R374): UPD_CMD SETFIND returns the current copy of a settings block. -/
  | setfind
  /-- `SETDEL` (R374): UPD_CMD SETDEL removes a block's current-generation copies. -/
  | setdel
  /-- `PGRET` (R382): UPD_CMD PGRET retires a DRAM page to a spare. -/
  | pgret
  /-- `UPD_COMMAND_DONE` (R365): A UPD command that took time completes in UPD_CMDSTAT. -/
  | updCommandDone
  /-- `LIST_HASH_DONE` (R367): The hash of a complete list finishes; the target moves to LIST or stays HEAD. -/
  | listHashDone (t : Fin 6)
  /-- `IMAGE_HASH_DONE` (R367): The hash of a complete image finishes; the target is COMPLETE or BAD. -/
  | imageHashDone (t : Fin 6)
  /-- `TRIAL_EXPIRY` (R373): The trial watchdog expires and the image reverts. -/
  | trialExpiry
  /-- `REVERT_TIMEOUT` (R373): No reactivation within 10 s of a revert forces a warm device reset. -/
  | revertTimeout
  /-- `BANK_APPLY` (R380): A Plank bank applies on its edge or aborts on re-check. -/
  | bankApply (b : Fin 2)
  /-- `HOST_STG` (R381): PLANK_HCMD STG stages a host entry. -/
  | hostStg (b : Fin 2)
  /-- `HOST_CHK` (R381): PLANK_HCMD CHK checks a bank for the host. -/
  | hostChk (b : Fin 2)
  /-- `HOST_BLK` (R381): PLANK_HCMD BLK applies or arms a bank for the host. -/
  | hostBlk (b : Fin 2) (kind : Fin 4)
  /-- `BANK_CLEAR` (R377): PLANK_BANKb_CTL.CLEAR empties and disarms a bank. -/
  | bankClear (b : Fin 2)
  /-- `BANK_DISARM` (R386): PLANK_BANKb_CTL.DISARM returns an ARMED bank to CHECKED. -/
  | bankDisarm (b : Fin 2)
  /-- `FAULT_DETECTED` (R387): A fault is detected, charged, windowed and its action started. -/
  | faultDetected (cls : Fin 32) (block detail : Byte) (value : Word)
  /-- `RECOVERY_COMPLETE` (R387): A fault's recovery action completes and FAULT_DONE is written. -/
  | recoveryComplete (seq : Word) (ok : Bool)
  /-- `FAULT_WINDOW_EXPIRY` (R387): A fault's recovery window closes. -/
  | faultWindowExpiry (w : Fin 8)
  /-- `THROTTLE_END` (R387): Tj falls below 115 C and the throttle ends. -/
  | throttleEnd
  /-- `ECC_CORRECTED` (R388): DRAM corrects a word or meets an uncorrectable one. -/
  | eccCorrected (addr : Word) (uncorrectable : Bool)
  /-- `FAULT_INJECT` (R410): A keyed write of FAULT_INJ in MAINT raises a class as if detected. -/
  | faultInject (v : Word)
  /-- `AVAIL_CLEAR` (R395): A keyed write of FAULT_AVCLR zeroes the counters and starts a period. -/
  | availClear (v : Word)
  /-- `AVAIL_CHECKPOINT` (R394): Every second the outage counters are copied to eMRAM. -/
  | availCheckpoint
  /-- `RECORD_WRITE` (R398): A queued record is written to the recorder, or LOG_FULL replaces it. -/
  | recordWrite
  /-- `RATE_LIMIT_INTERVAL_END` (R453): A rate-limit interval with counted events ends and its record is written. -/
  | rateLimitIntervalEnd (code : BitVec 16) (key : Nat)
  /-- `EVR_WINDOW_READ` (R401): A read of LOG_EVR_WIN7 returns word 7 and advances the cursor. -/
  | evrWindowRead (ag : Agent)
  /-- `JOURNAL_APPEND` (R402): An input or output of a journalled core is appended to the journal. -/
  | journalAppend (kind core : Fin 16) (cyc arg : Word) (data : List Word) (full : Bool)
  /-- `CHECKPOINT` (R403): Every CKPER seconds the cores of the set are checkpointed. -/
  | checkpoint
  /-- `FREEZE` (R405): REPLAY_CMD FREEZE freezes the journal. -/
  | freeze (key : BitVec 16)
  /-- `UNFREEZE` (R405): REPLAY_CMD UNFREEZE empties and restarts the journal and rings. -/
  | unfreeze (key : BitVec 16)
  /-- `IQ_STOP` (R405): POST ms after a freeze the IQ rings stop on one TIME edge. -/
  | iqStop (idx0 idx1 : BitVec 21)
  /-- `REPLAY_INPUT` (R407): A journalled input reaches a replayed core at its recorded cycle. -/
  | replayInput (c : Fin 16) (outs : List Word) (ask : Option (Fin 16 × Word))
  /-- `REPLAY_END` (R406): A replay reaches the FREEZE entry or its first divergence and ends. -/
  | replayEnd
  /-- `RESET_N_ASSERT` (R421): RESET_N low on three samples applies the reset of PD1-PD14. -/
  | resetNAssert (samples : Fin 4)
  /-- `RESET_N_RELEASE` (R421): RESET_N high on three samples releases reset, sampling BOOTSEL and starting BOOT. -/
  | resetNRelease (bootsel : Fin 4)
  /-- `RESET_APPLY` (R409): A decided reset is applied once the log queue drains or 100 us pass. -/
  | resetApply (bootsel : Fin 4)
  /-- `RSTOUT_RELEASE` (R423): 10 ms after reset release RSTOUT_N and QSC_RST_N go high. -/
  | rstoutRelease
  /-- `UART_FRAME` (R422): In UART recovery the boot ROM receives a frame and answers ACK or NAK. -/
  | uartFrame (payload : List Byte) (crcOk : Bool)
  /-- `MDIO_C22_WRITE` (R430): NET_MDIO_CMD OP 0 starts a Clause 22 write. -/
  | mdioC22Write (phy reg : Fin 32)
  /-- `MDIO_C22_READ` (R430): NET_MDIO_CMD OP 1 starts a Clause 22 read. -/
  | mdioC22Read (phy reg : Fin 32)
  /-- `MDIO_C45_ADDRESS` (R430): NET_MDIO_CMD OP 2 starts a Clause 45 address frame. -/
  | mdioC45Address (phy reg : Fin 32)
  /-- `MDIO_C45_WRITE` (R430): NET_MDIO_CMD OP 3 starts a Clause 45 write. -/
  | mdioC45Write (phy reg : Fin 32)
  /-- `MDIO_C45_READ` (R430): NET_MDIO_CMD OP 4 starts a Clause 45 read. -/
  | mdioC45Read (phy reg : Fin 32)
  /-- `MDIO_DONE` (R430): An MDIO frame completes, clearing BUSY. -/
  | mdioDone (data : Option (BitVec 16))
  /-- `PERST` (R432): PERST_N resets the endpoint, rings and interrupts. -/
  | perst
  /-- `RING_TAIL_WRITE` (R434): A host write of a ring TAIL posts buffers or sets OVR. -/
  | ringTailWrite (k : Fin 8) (v : Word)
  /-- `RING_DEVICE_TO_HOST` (R434): The device copies a frame into a posted host buffer. -/
  | ringDeviceToHost (k : Fin 4) (size len : Fin 65536) (err upset : Bool)
  /-- `RING_HOST_TO_DEVICE` (R434): The device copies a posted host buffer into a frame buffer. -/
  | ringHostToDevice (k : Fin 4) (len : Fin 65536) (err upset : Bool)
  /-- `QST_WRITE` (R435): A QSPI target write transaction of one word. -/
  | qstWrite (a v : Word) (octets : Nat)
  /-- `QST_READ` (R435): A QSPI target read transaction of one word. -/
  | qstRead (a : Word) (octets : Nat) (late upset : Bool)
  /-- `UART_RX_BYTE` (R437): The UART receives a byte, or loses it to a full FIFO. -/
  | uartRxByte (b : Byte)
  /-- `UART_TX_PUSH` (R437): A write of HOST_UART_DATA pushes a byte to transmit. -/
  | uartTxPush (b : Byte)
  /-- `UART_RX_POP` (R437): A read of HOST_UART_DATA pops a received byte. -/
  | uartRxPop
  /-- `GPIO_EDGE` (R440): A filtered GPIO edge of the chosen kind is accepted and raises its event. -/
  | gpioEdge (n : Fin 16) (level held : Bool)
  /-- `GPIO_RELEASE` (R441): A write of GPIO_CTL.RELEASE ends the pad hold. -/
  | gpioRelease
  /-- `REGISTER_WRITE` (R5): A write of a register field without behaviour of its own, by access code. -/
  | registerWrite (ag : Agent) (a v : Word)
  /-- `STOP_INPUT_RELEASE` (R297): A stop input's filtered level returns to deasserted on the third consecutive high sample. -/
  | stopInputRelease (b : Bool)
  /-- `TAMPER_INPUT_RELEASE` (R351): A tamper source stops asserting and its DBG_TAMPSTAT.ACTIVE bit clears, on the third inactive sample for TAMP0 and TAMP1. -/
  | tamperInputRelease (src : Fin 6)
  /-- `PCIE_LINK_CHANGE` (R432): The PCI Express link enters or leaves L0, L1 or L2, updating HOST_LINK and the HOST agent's LINK refusal and WAKE_N. -/
  | pcieLinkChange (link speed : Fin 4) (msi : Fin 33)
  /-- `VBAK_PRESENT_CHANGE` (R308): VBAK crosses 2.50 V, changing PWR_SUPPLY.BAKPRES and setting BAKABSENT when VIN is good. -/
  | vbakPresentChange (mv : BitVec 16)
  /-- `VBAK_RECONNECT` (R307): With VIN good, VBAK rises through the 2.60 V reconnect threshold and the backup cell is connected again after a cut-off. -/
  | vbakReconnect
  /-- `TQ_LOCKED` (R68): The residual R decays below 100 ns, STATE moves from SLEWING to LOCKED with a TQ_CHANGE record, and TQ_OK may rise. -/
  | tqLocked
  /-- `PREAMBLE_CORRELATION` (R96): Preamble correlation for one rate exceeds CARD_QTHR over 24 bits; other correlators stop and the SFD search and its 1.2 ms timeout start. -/
  | preambleCorrelation (c : Fin 256) (rate : Fin 4)
  /-- `BIT_SYNCHRONISATION` (R271): Bit synchronisation is found on a data component and the coherent interval becomes 20 ms. -/
  | bitSynchronisation (n : Fin 72)
  /-- `PROGRAM_SWAP_END` (R50): A scope-0 program swap or RELOAD ends: the target core starts at ENTRY at L0, RUNNING, and its held events are delivered. -/
  | programSwapEnd (c : Fin 8)
  /-- `REPLAY_START` (R406): After the start point is found and state restored, the cores of the replay set start on one TIME edge. -/
  | replayStart
  /-- `EMRAM_STATES_RESOLVED` (R15): At BOOT step 3 the eMRAM states are resolved: unfinished zeroization and fuses completed, pieces re-erased, and a ZEROIZED part enters ZEROIZED. -/
  | emramStatesResolved
  /-- `PATH_CAL_RETRY` (R387): 60 s after a PATH_CAL fault the RETRY action repeats the path calibration. -/
  | pathCalRetry (p : Fin 2)
  deriving DecidableEq, Repr
end Sys2Proof
end

