-- ==== Sys2Proof/Config.lean ====
section
/-!
DEFINITION. Sys2Proof/Config.lean: what the spec leaves open and what an implementation fixes. Every constant here is
opaque: nothing in Lean can compute a value of it, so a statement that mentions one holds for every value.
-/
namespace Sys2Proof.Config

/-- A free value: the `n`-th value that the spec leaves open (log entry 2). The step applies it to the counter
`State.free` and advances the counter. -/
opaque freeValue : Nat → Word

/-- The bytes of the boot ROM, whose program R44 leaves unspecified (log entry 3). -/
opaque bootRom : Nat → Byte

/-- The event number with which a core event (Table 02-17, LASTEV code 1 ACCESS, 2 ALIGN, 3 ILLEGAL_INSN) is raised:
R20, R26 and R27 name the events and give no number (log entry 4). -/
opaque coreEventNumber : Nat → Byte

/-- AES-128 of one block (R243, R262): the standard's function, whose text the spec does not repeat. -/
opaque aes128 : (key block : BitVec 128) → BitVec 128

/-- SHA-256 of an octet string (R48, R260). -/
opaque sha256 : List Byte → BitVec 256

/-- ECDSA P-256 verification: public key octets, digest, signature octets (R48, R260). -/
opaque ecdsaVerify : (pub : List Byte) → (digest : BitVec 256) → (sig : List Byte) → Bool

/-- The vendor public key of the boot ROM, x then y (R355). -/
opaque vendorKey : List Byte

/-- CCM* of IEEE 802.15.4 (R241): key, nonce, additional data, payload; the protected payload with its MIC. -/
opaque ccmSeal : (key : BitVec 128) → (nonce aad payload : List Byte) → (micLen : Nat) → List Byte

/-- CCM* opening; `none` when the MIC fails. -/
opaque ccmOpen : (key : BitVec 128) → (nonce aad payload : List Byte) → (micLen : Nat) → Option (List Byte)

/-- AES-128-GCM seal (R262): ciphertext with its tag. -/
opaque gcmSeal : (key : BitVec 128) → (iv aad data : List Byte) → List Byte

/-- AES-128-GCM open (R262); `none` when the tag fails. -/
opaque gcmOpen : (key : BitVec 128) → (iv aad data : List Byte) → Option (List Byte)

/-- AES key unwrap of RFC 3394 (R259); `none` when the integrity check fails. -/
opaque keyUnwrap : (kek wrapped : List Byte) → Option (List Byte)

/-- AES key wrap of RFC 3394 (R259). -/
opaque keyWrap : (kek plain : List Byte) → List Byte

/-- The hash functions of the exact-match tables (R209), which the spec does not give: table, choice, key. -/
opaque emHash : (short second : Bool) → (key : Nat) → Nat

end Sys2Proof.Config
end

