-- ==== Sys2Proof/Machine/Regs.lean ====
section
/-!
DEFINITION. Sys2Proof/Machine/Regs.lean: the register map of the spec, block by block: the address of every register
(named as the spec names it; the letters of a repeated register are its parameters, in the order of its strides),
its access masks by the codes of R5 (Table 00-5) and its reset value, as the summary and field tables of each chapter
give them. A register that a table marks as kept in eMRAM, in a fuse or through resets has `keep := true`; where the
tables give such a register no factory content, its reset value here is 0 (log entry 1).
-/
namespace Sys2Proof.Machine

/-- One line of a register table: offset in its block, repeat strides with their counts (largest stride first), the
bits that are RW, W1C and RC (R5), the reset value, and whether the register is kept through resets. -/
structure RegSpec where
  name : String
  off : Nat
  dims : List (Nat × Nat) := []
  rw : Nat := 0
  w1c : Nat := 0
  rc : Nat := 0
  reset : Nat := 0
  keep : Bool := false
  deriving Repr

/-! ### SYS registers (01_architecture.md) -/

def SYS_ID : Nat := 0x40000000
def SYS_MODE : Nat := 0x40000004
def SYS_MODE_STAT : Nat := 0x40000008
def SYS_OVERLAY : Nat := 0x4000000C

/-- The register table of the SYS block. -/
def sysRegs : List RegSpec :=
  [ ⟨"SYS_ID", 0x0, [], 0x0, 0x0, 0x0, 0x720000B0, false⟩,
    ⟨"SYS_MODE", 0x4, [], 0x0, 0x0, 0x0, 0x0, false⟩,
    ⟨"SYS_MODE_STAT", 0x8, [], 0x0, 0x0, 0xFFFF0000, 0x0, false⟩,
    ⟨"SYS_OVERLAY", 0xC, [], 0x0, 0x0, 0x0, 0x6, false⟩ ]

/-! ### PWR registers (13_power_domains.md) -/

def PWR_STATE : Nat := 0x40010000
def PWR_SUPPLY : Nat := 0x40010004
def PWR_FLAGS : Nat := 0x40010008
def PWR_VINWARN : Nat := 0x4001000C
def PWR_BAKSET : Nat := 0x40010010
def PWR_BAKRET : Nat := 0x40010014
def PWR_LOSTSTATE : Nat := 0x40010018
def PWR_WAKESRC : Nat := 0x4001001C
def PWR_WAKESEC : Nat := 0x40010020
def PWR_WAKEGRN : Nat := 0x40010024
def PWR_BAKSTAT : Nat := 0x40010028
def PWR_BAKTIME : Nat := 0x4001002C
def PWR_WKRX_CTL : Nat := 0x40010030
def PWR_WKRX_ADDR : Nat := 0x40010034
def PWR_WKRX_CNT : Nat := 0x40010038
def PWR_WAKEMAPs (s : Nat) : Nat := 0x40010040 + 0x4 * s
def PWR_DOMd_STAT (d : Nat) : Nat := 0x40010100 + 0x20 * d
def PWR_DOMd_CNT (d : Nat) : Nat := 0x40010104 + 0x20 * d
def PWR_DOMd_LAST (d : Nat) : Nat := 0x40010108 + 0x20 * d
def PWR_DOMd_LSEC (d : Nat) : Nat := 0x4001010C + 0x20 * d
def PWR_DOMd_LGRN (d : Nat) : Nat := 0x40010110 + 0x20 * d
def PWR_DOMd_OVR (d : Nat) : Nat := 0x40010114 + 0x20 * d

/-- The register table of the PWR block. -/
def pwrRegs : List RegSpec :=
  [ ⟨"PWR_STATE", 0x0, [], 0x0, 0x0, 0x0, 0x0, false⟩,
    ⟨"PWR_SUPPLY", 0x4, [], 0x0, 0x0, 0x0, 0x0, false⟩,
    ⟨"PWR_FLAGS", 0x8, [], 0x0, 0x3FF, 0x0, 0x0, false⟩,
    ⟨"PWR_VINWARN", 0xC, [], 0x800003FF, 0x0, 0x0, 0xB4, false⟩,
    ⟨"PWR_BAKSET", 0x10, [], 0x7FFE, 0x0, 0x0, 0x0, false⟩,
    ⟨"PWR_BAKRET", 0x14, [], 0x7FFE, 0x0, 0x0, 0x7FFE, false⟩,
    ⟨"PWR_LOSTSTATE", 0x18, [], 0x0, 0x0, 0x0, 0x0, false⟩,
    ⟨"PWR_WAKESRC", 0x1C, [], 0x0, 0x0, 0x0, 0x0, false⟩,
    ⟨"PWR_WAKESEC", 0x20, [], 0x0, 0x0, 0x0, 0x0, false⟩,
    ⟨"PWR_WAKEGRN", 0x24, [], 0x0, 0x0, 0x0, 0x0, false⟩,
    ⟨"PWR_BAKSTAT", 0x28, [], 0x0, 0x0, 0xFF, 0x0, false⟩,
    ⟨"PWR_BAKTIME", 0x2C, [], 0x0, 0x0, 0x0, 0x0, false⟩,
    ⟨"PWR_WKRX_CTL", 0x30, [], 0xE000FF00, 0x0, 0x0, 0x100, false⟩,
    ⟨"PWR_WKRX_ADDR", 0x34, [], 0xFFFFFFFF, 0x0, 0x0, 0x0, false⟩,
    ⟨"PWR_WKRX_CNT", 0x38, [], 0x0, 0x0, 0xFFFFFFFF, 0x0, false⟩,
    ⟨"PWR_WAKEMAPs", 0x40, [(0x4, 3)], 0x7FFE, 0x0, 0x0, 0x2, false⟩,
    ⟨"PWR_DOMd_STAT", 0x120, [(0x20, 14)], 0x0, 0x0, 0x0, 0x0, false⟩,
    ⟨"PWR_DOMd_CNT", 0x124, [(0x20, 14)], 0x0, 0x0, 0xFFFFFFFF, 0x0, false⟩,
    ⟨"PWR_DOMd_LAST", 0x128, [(0x20, 14)], 0x0, 0x0, 0x0, 0x0, false⟩,
    ⟨"PWR_DOMd_LSEC", 0x12C, [(0x20, 14)], 0x0, 0x0, 0x0, 0x0, false⟩,
    ⟨"PWR_DOMd_LGRN", 0x130, [(0x20, 14)], 0x0, 0x0, 0x0, 0x0, false⟩,
    ⟨"PWR_DOMd_OVR", 0x134, [(0x20, 14)], 0x0, 0x0, 0xFFFF, 0x0, false⟩ ]

/-! ### RTC registers (14_rtc.md) -/

def RTC_SEC_LO : Nat := 0x40020000
def RTC_SEC_HI : Nat := 0x40020004
def RTC_FRAC : Nat := 0x40020008
def RTC_WDAY : Nat := 0x4002000C
def RTC_STAT : Nat := 0x40020010
def RTC_TRIM : Nat := 0x40020014
def RTC_SHIFT : Nat := 0x40020018
def RTC_DAYBASE : Nat := 0x4002001C
def RTC_SETSEC_LO : Nat := 0x40020020
def RTC_SETSEC_HI : Nat := 0x40020024
def RTC_SETFRAC : Nat := 0x40020028
def RTC_SETWDAY : Nat := 0x4002002C
def RTC_COMMIT : Nat := 0x40020030
def RTC_ALMn_CTL (n : Nat) : Nat := 0x40020040 + 0x10 * n
def RTC_ALMn_SEC (n : Nat) : Nat := 0x40020044 + 0x10 * n
def RTC_ALMn_FRAC (n : Nat) : Nat := 0x40020048 + 0x10 * n
def RTC_TSNAP_SEC : Nat := 0x40020060
def RTC_TSNAP_GRN : Nat := 0x40020064
def RTC_TSNAP_RSEC : Nat := 0x40020068
def RTC_TSNAP_RFRAC : Nat := 0x4002006C

/-- The register table of the RTC block. -/
def rtcRegs : List RegSpec :=
  [ ⟨"RTC_SEC_LO", 0x0, [], 0x0, 0x0, 0x0, 0x0, false⟩,
    ⟨"RTC_SEC_HI", 0x4, [], 0x0, 0x0, 0x0, 0x40000000, false⟩,
    ⟨"RTC_FRAC", 0x8, [], 0x0, 0x0, 0x0, 0x0, false⟩,
    ⟨"RTC_WDAY", 0xC, [], 0x0, 0x0, 0x0, 0x0, false⟩,
    ⟨"RTC_STAT", 0x10, [], 0x0, 0x1FE, 0x0, 0x80000000, false⟩,
    ⟨"RTC_TRIM", 0x14, [], 0xFF, 0x0, 0x0, 0x0, false⟩,
    ⟨"RTC_SHIFT", 0x18, [], 0x1FFFF, 0x0, 0x0, 0x0, false⟩,
    ⟨"RTC_DAYBASE", 0x1C, [], 0x1FFFF, 0x0, 0x0, 0x0, false⟩,
    ⟨"RTC_SETSEC_LO", 0x20, [], 0xFFFFFFFF, 0x0, 0x0, 0x0, false⟩,
    ⟨"RTC_SETSEC_HI", 0x24, [], 0xFFFF, 0x0, 0x0, 0x0, false⟩,
    ⟨"RTC_SETFRAC", 0x28, [], 0xFFFF, 0x0, 0x0, 0x0, false⟩,
    ⟨"RTC_SETWDAY", 0x2C, [], 0x7, 0x0, 0x0, 0x0, false⟩,
    ⟨"RTC_COMMIT", 0x30, [], 0x0, 0x0, 0x0, 0x0, false⟩,
    ⟨"RTC_ALMn_CTL", 0x40, [(0x10, 2)], 0x8001FFFF, 0x0, 0x0, 0x0, false⟩,
    ⟨"RTC_ALMn_SEC", 0x44, [(0x10, 2)], 0xFFFFFFFF, 0x0, 0x0, 0x0, false⟩,
    ⟨"RTC_ALMn_FRAC", 0x48, [(0x10, 2)], 0xFFFF, 0x0, 0x0, 0x0, false⟩,
    ⟨"RTC_TSNAP_SEC", 0x60, [], 0x0, 0x0, 0x0, 0x0, false⟩,
    ⟨"RTC_TSNAP_GRN", 0x64, [], 0x0, 0x0, 0x0, 0x0, false⟩,
    ⟨"RTC_TSNAP_RSEC", 0x68, [], 0x0, 0x0, 0x0, 0x0, false⟩,
    ⟨"RTC_TSNAP_RFRAC", 0x6C, [], 0x0, 0x0, 0x0, 0x0, false⟩ ]

/-! ### TIME registers (03_network_time.md) -/

def TIME_SEC_LO : Nat := 0x40030000
def TIME_SEC_HI : Nat := 0x40030004
def TIME_FRAC : Nat := 0x40030008
def TIME_CTL : Nat := 0x4003000C
def TIME_TADJ : Nat := 0x40030010
def TIME_SLEW : Nat := 0x40030014
def TIME_RESID : Nat := 0x40030018
def TIME_PHACC : Nat := 0x4003001C
def TIME_TQ : Nat := 0x40030020
def TIME_TQERR : Nat := 0x40030024
def TIME_TQLIM : Nat := 0x40030028
def TIME_SQLIM : Nat := 0x4003002C
def TIME_HOMODEL : Nat := 0x40030030
def TIME_SRCSEL : Nat := 0x40030034
def TIME_STAT : Nat := 0x40030038
def TIME_STAMPCAL : Nat := 0x4003003C
def TIME_SRCk_S (k : Nat) : Nat := 0x40030040 + 0x20 * k
def TIME_SRCk_N (k : Nat) : Nat := 0x40030044 + 0x20 * k
def TIME_SRCk_ACC (k : Nat) : Nat := 0x40030048 + 0x20 * k
def TIME_SRCk_TMO (k : Nat) : Nat := 0x4003004C + 0x20 * k
def TIME_SRCk_STAT (k : Nat) : Nat := 0x40030050 + 0x20 * k
def TIME_PULSEn_CTL (n : Nat) : Nat := 0x40030100 + 0x20 * n
def TIME_PULSEn_SSEC (n : Nat) : Nat := 0x40030104 + 0x20 * n
def TIME_PULSEn_SFRAC (n : Nat) : Nat := 0x40030108 + 0x20 * n
def TIME_PULSEn_PSEC (n : Nat) : Nat := 0x4003010C + 0x20 * n
def TIME_PULSEn_PFRAC (n : Nat) : Nat := 0x40030110 + 0x20 * n
def TIME_PULSEn_WIDTH (n : Nat) : Nat := 0x40030114 + 0x20 * n
def TIME_PULSEn_DLY (n : Nat) : Nat := 0x40030118 + 0x20 * n
def TIME_PULSEn_CNT (n : Nat) : Nat := 0x4003011C + 0x20 * n
def TIME_MAINS_CTL : Nat := 0x40030200
def TIME_MAINS_CYC : Nat := 0x40030204
def TIME_MAINS_ANG : Nat := 0x40030208
def TIME_MAINS_PER : Nat := 0x4003020C
def TIME_MAINS_PHOFF : Nat := 0x40030210
def TIME_MAINS_STAT : Nat := 0x40030214

/-- The register table of the TIME block. -/
def timeRegs0 : List RegSpec :=
  [ ⟨"TIME_SEC_LO", 0x0, [], 0x0, 0x0, 0x0, 0x0, false⟩,
    ⟨"TIME_SEC_HI", 0x4, [], 0x0, 0x0, 0x0, 0x0, false⟩,
    ⟨"TIME_FRAC", 0x8, [], 0x0, 0x0, 0x0, 0x0, false⟩,
    ⟨"TIME_CTL", 0xC, [], 0x2, 0x0, 0x0, 0x1, false⟩,
    ⟨"TIME_TADJ", 0x10, [], 0xFFFFFFFF, 0x0, 0x0, 0x0, false⟩,
    ⟨"TIME_SLEW", 0x14, [], 0xFFFFFFFF, 0x0, 0x0, 0x3E80064, false⟩,
    ⟨"TIME_RESID", 0x18, [], 0x0, 0x0, 0x0, 0x0, false⟩,
    ⟨"TIME_PHACC", 0x1C, [], 0x0, 0x0, 0x0, 0x0, false⟩,
    ⟨"TIME_TQ", 0x20, [], 0x0, 0x0, 0x0, 0x70, false⟩,
    ⟨"TIME_TQERR", 0x24, [], 0x0, 0x0, 0x0, 0xFFFFFFFF, false⟩,
    ⟨"TIME_TQLIM", 0x28, [], 0xFFFFFFFF, 0x0, 0x0, 0x3E8, false⟩,
    ⟨"TIME_SQLIM", 0x2C, [], 0xFFFFFFFF, 0x0, 0x0, 0x3E8, false⟩,
    ⟨"TIME_HOMODEL", 0x30, [], 0xFFFFFFFF, 0x0, 0x0, 0x27100A14, false⟩,
    ⟨"TIME_SRCSEL", 0x34, [], 0xFFFF0177, 0x0, 0x0, 0xA0110, false⟩,
    ⟨"TIME_STAT", 0x38, [], 0x0, 0x3FF, 0x0, 0x0, false⟩,
    ⟨"TIME_STAMPCAL", 0x3C, [], 0x0, 0x0, 0x0, 0x0, false⟩,
    ⟨"TIME_SRCk_S", 0x40, [(0x20, 4)], 0xFFFFFFFF, 0x0, 0x0, 0x0, false⟩,
    ⟨"TIME_SRCk_N", 0x44, [(0x20, 4)], 0xFFFFFFFF, 0x0, 0x0, 0x0, false⟩,
    ⟨"TIME_SRCk_ACC", 0x48, [(0x20, 4)], 0xFFFFFFFF, 0x0, 0x0, 0x0, false⟩,
    ⟨"TIME_SRCk_TMO", 0x4C, [], 0xFFFF, 0x0, 0x0, 0x7D0, false⟩,
    ⟨"TIME_SRCk_TMO", 0xAC, [], 0xFFFF, 0x0, 0x0, 0x7530, false⟩,
    ⟨"TIME_SRCk_TMO", 0x4C, [(0x20, 4)], 0xFFFF, 0x0, 0x0, 0xBB8, false⟩,
    ⟨"TIME_SRCk_STAT", 0x50, [(0x20, 4)], 0x0, 0x0, 0x0, 0xFFFFFF, false⟩,
    ⟨"TIME_PULSEn_CTL", 0x100, [(0x20, 4)], 0xF, 0x0, 0x0, 0xF00, false⟩ ]
def timeRegs1 : List RegSpec :=
  [ ⟨"TIME_PULSEn_SSEC", 0x104, [(0x20, 4)], 0xFFFFFFFF, 0x0, 0x0, 0x0, false⟩,
    ⟨"TIME_PULSEn_SFRAC", 0x108, [(0x20, 4)], 0xFFFFFFFF, 0x0, 0x0, 0x0, false⟩,
    ⟨"TIME_PULSEn_PSEC", 0x10C, [], 0xFFFF, 0x0, 0x0, 0x1, false⟩,
    ⟨"TIME_PULSEn_PSEC", 0x10C, [(0x20, 4)], 0xFFFF, 0x0, 0x0, 0x0, false⟩,
    ⟨"TIME_PULSEn_PFRAC", 0x110, [(0x20, 4)], 0xFFFFFFFF, 0x0, 0x0, 0x0, false⟩,
    ⟨"TIME_PULSEn_WIDTH", 0x114, [], 0xFFFFFFFF, 0x0, 0x0, 0x5F5E100, false⟩,
    ⟨"TIME_PULSEn_WIDTH", 0x114, [(0x20, 4)], 0xFFFFFFFF, 0x0, 0x0, 0x0, false⟩,
    ⟨"TIME_PULSEn_DLY", 0x118, [(0x20, 4)], 0xFF, 0x0, 0x0, 0x0, false⟩,
    ⟨"TIME_PULSEn_CNT", 0x11C, [(0x20, 4)], 0x0, 0x0, 0xFFFFFFFF, 0x0, false⟩,
    ⟨"TIME_MAINS_CTL", 0x200, [], 0xFF07, 0x0, 0x0, 0x500, false⟩,
    ⟨"TIME_MAINS_CYC", 0x204, [], 0x0, 0x0, 0x0, 0x0, false⟩,
    ⟨"TIME_MAINS_ANG", 0x208, [], 0x0, 0x0, 0x0, 0x80000000, false⟩,
    ⟨"TIME_MAINS_PER", 0x20C, [], 0x0, 0x0, 0x0, 0x4C4B40, false⟩,
    ⟨"TIME_MAINS_PHOFF", 0x210, [], 0xFFFF, 0x0, 0x0, 0x0, false⟩,
    ⟨"TIME_MAINS_STAT", 0x214, [], 0x0, 0x2, 0xFFFFFF00, 0x1, false⟩ ]
/-- The whole TIME table. -/
def timeRegs : List RegSpec := timeRegs0 ++ timeRegs1

/-! ### SEQ registers (02_lupra_sequencers.md) -/

def SEQ_CTLn (n : Nat) : Nat := 0x40040000 + 0x40 * n
def SEQ_STATn (n : Nat) : Nat := 0x40040004 + 0x40 * n
def SEQ_PCn (n : Nat) : Nat := 0x40040008 + 0x40 * n
def SEQ_EVWAKEn (n : Nat) : Nat := 0x4004000C + 0x40 * n
def SEQ_EVOVRn (n : Nat) : Nat := 0x40040010 + 0x40 * n
def SEQ_EVMAXn (n : Nat) : Nat := 0x40040014 + 0x40 * n
def SEQ_RETIRE : Nat := 0x40040200
def SEQ_SUCC : Nat := 0x40040204
def SEQ_BANKRES : Nat := 0x40040208
def SEQ_BOOTCORE : Nat := 0x4004020C
def SEQ_EVSELn_m (n m : Nat) : Nat := 0x40040400 + 0x80 * n + 0x4 * m
def SEQ_MBINn_k (n k : Nat) : Nat := 0x40041000 + 0x100 * n + 0x4 * k
def SEQ_MBDBn (n : Nat) : Nat := 0x40041040 + 0x100 * n
def SEQ_MBSTATn (n : Nat) : Nat := 0x40041044 + 0x100 * n
def SEQ_MBOUTn_k (n k : Nat) : Nat := 0x40041080 + 0x100 * n + 0x4 * k

/-- The register table of the SEQ block. -/
def seqRegs0 : List RegSpec :=
  [ ⟨"SEQ_CTLn", 0x0, [(0x40, 8)], 0xF0000101, 0x0, 0x0, 0x0, false⟩,
    ⟨"SEQ_STATn", 0x4, [(0x40, 8)], 0x0, 0x0, 0x0, 0x0, false⟩,
    ⟨"SEQ_PCn", 0x8, [(0x40, 8)], 0x0, 0x0, 0x0, 0x1000000, false⟩,
    ⟨"SEQ_EVWAKEn", 0xC, [(0x40, 8)], 0xFFFFFFFF, 0x0, 0x0, 0x0, false⟩,
    ⟨"SEQ_EVOVRn", 0x10, [(0x40, 8)], 0x0, 0xFFFFFFFF, 0x0, 0x0, false⟩,
    ⟨"SEQ_EVMAXn", 0x14, [(0x40, 8)], 0x0, 0x0, 0xFFFFFF, 0x0, false⟩,
    ⟨"SEQ_RETIRE", 0x200, [], 0xFF, 0x0, 0x0, 0x0, true⟩,
    ⟨"SEQ_SUCC", 0x204, [], 0xFFFFFFFF, 0x0, 0x0, 0x0, true⟩,
    ⟨"SEQ_BANKRES", 0x208, [], 0xFFFF, 0x0, 0x0, 0x0, true⟩,
    ⟨"SEQ_BOOTCORE", 0x20C, [], 0x0, 0x0, 0x0, 0x0, false⟩,
    ⟨"SEQ_EVSELn_m", 0x400, [], 0xFFFF, 0x0, 0x0, 0x1001, false⟩,
    ⟨"SEQ_EVSELn_m", 0x404, [], 0xFFFF, 0x0, 0x0, 0x1002, false⟩,
    ⟨"SEQ_EVSELn_m", 0x480, [], 0xFFFF, 0x0, 0x0, 0x1101, false⟩,
    ⟨"SEQ_EVSELn_m", 0x484, [], 0xFFFF, 0x0, 0x0, 0x1102, false⟩,
    ⟨"SEQ_EVSELn_m", 0x500, [], 0xFFFF, 0x0, 0x0, 0x1201, false⟩,
    ⟨"SEQ_EVSELn_m", 0x504, [], 0xFFFF, 0x0, 0x0, 0x1202, false⟩,
    ⟨"SEQ_EVSELn_m", 0x580, [], 0xFFFF, 0x0, 0x0, 0x1301, false⟩,
    ⟨"SEQ_EVSELn_m", 0x584, [], 0xFFFF, 0x0, 0x0, 0x1302, false⟩,
    ⟨"SEQ_EVSELn_m", 0x600, [], 0xFFFF, 0x0, 0x0, 0x2001, false⟩,
    ⟨"SEQ_EVSELn_m", 0x604, [], 0xFFFF, 0x0, 0x0, 0x2002, false⟩,
    ⟨"SEQ_EVSELn_m", 0x680, [], 0xFFFF, 0x0, 0x0, 0x2101, false⟩,
    ⟨"SEQ_EVSELn_m", 0x684, [], 0xFFFF, 0x0, 0x0, 0x2102, false⟩,
    ⟨"SEQ_EVSELn_m", 0x700, [], 0xFFFF, 0x0, 0x0, 0x2201, false⟩,
    ⟨"SEQ_EVSELn_m", 0x704, [], 0xFFFF, 0x0, 0x0, 0x2202, false⟩ ]
def seqRegs1 : List RegSpec :=
  [ ⟨"SEQ_EVSELn_m", 0x780, [], 0xFFFF, 0x0, 0x0, 0x2301, false⟩,
    ⟨"SEQ_EVSELn_m", 0x784, [], 0xFFFF, 0x0, 0x0, 0x2302, false⟩,
    ⟨"SEQ_EVSELn_m", 0x400, [(0x80, 8), (0x4, 32)], 0xFFFF, 0x0, 0x0, 0x0, false⟩,
    ⟨"SEQ_MBINn_k", 0x1000, [(0x100, 8), (0x4, 16)], 0xFFFFFFFF, 0x0, 0x0, 0x0, false⟩,
    ⟨"SEQ_MBDBn", 0x1040, [(0x100, 8)], 0x0, 0x0, 0x0, 0x0, false⟩,
    ⟨"SEQ_MBSTATn", 0x1044, [(0x100, 8)], 0x0, 0x301, 0xFFFF0000, 0x0, false⟩,
    ⟨"SEQ_MBOUTn_k", 0x1080, [(0x100, 8), (0x4, 16)], 0xFFFFFFFF, 0x0, 0x0, 0x0, false⟩ ]
/-- The whole SEQ table. -/
def seqRegs : List RegSpec := seqRegs0 ++ seqRegs1

/-! ### CARD registers (04_receive_carder.md) -/

def CARD_CTL : Nat := 0x40050000
def CARD_STAT : Nat := 0x40050004
def CARD_LANEPOOL : Nat := 0x40050008
def CARD_STARVED_TOT : Nat := 0x4005000C
def CARD_QTHR : Nat := 0x40050010
def CARD_NFCTL : Nat := 0x40050014
def CARD_RPLDROP : Nat := 0x40050018
def CARD_NOPKT : Nat := 0x4005001C
def CARD_PATHp_CTL (p : Nat) : Nat := 0x40050100 + 0x20 * p
def CARD_PATHp_FC (p : Nat) : Nat := 0x40050104 + 0x20 * p
def CARD_PATHp_STAT (p : Nat) : Nat := 0x40050108 + 0x20 * p
def CARD_PATHp_CNT (p : Nat) : Nat := 0x4005010C + 0x20 * p
def CARD_PATHp_CAL (p : Nat) : Nat := 0x40050110 + 0x20 * p
def CARD_CHCFGc (c : Nat) : Nat := 0x40051000 + 0x4 * c
def CARD_CHNFc (c : Nat) : Nat := 0x40051400 + 0x4 * c
def CARD_CHCNTc (c : Nat) : Nat := 0x40051800 + 0x4 * c
def CARD_LANE_STATn (n : Nat) : Nat := 0x40052000 + 0x10 * n
def CARD_LANE_SFDn (n : Nat) : Nat := 0x40052004 + 0x10 * n
def CARD_LANE_MEASn (n : Nat) : Nat := 0x40052008 + 0x10 * n
def CARD_LANE_FOFFn (n : Nat) : Nat := 0x4005200C + 0x10 * n
def CARD_LANE_MAP_LO : Nat := 0x40052400
def CARD_LANE_MAP_HI : Nat := 0x40052404
def CARD_RXWINw (w : Nat) : Nat := 0x40053000 + 0x4 * w

/-- The register table of the CARD block. -/
def cardRegs : List RegSpec :=
  [ ⟨"CARD_CTL", 0x0, [], 0x7FFFF03, 0x0, 0x0, 0x7FF0A02, false⟩,
    ⟨"CARD_STAT", 0x4, [], 0x0, 0xFF, 0x0, 0x0, false⟩,
    ⟨"CARD_LANEPOOL", 0x8, [], 0x0, 0x0, 0x0, 0x400000, false⟩,
    ⟨"CARD_STARVED_TOT", 0xC, [], 0x0, 0x0, 0xFFFFFFFF, 0x0, false⟩,
    ⟨"CARD_QTHR", 0x10, [], 0xFF, 0x0, 0x0, 0xB4, false⟩,
    ⟨"CARD_NFCTL", 0x14, [], 0xFFFFF, 0x0, 0x0, 0x80320, false⟩,
    ⟨"CARD_RPLDROP", 0x18, [], 0x0, 0x0, 0xFFFFFFFF, 0x0, false⟩,
    ⟨"CARD_NOPKT", 0x1C, [], 0x0, 0x0, 0xFFFFFFFF, 0x0, false⟩,
    ⟨"CARD_PATHp_CTL", 0x100, [(0x20, 2)], 0xFF31F12, 0x0, 0x0, 0xA00002, false⟩,
    ⟨"CARD_PATHp_FC", 0x124, [], 0x1FFFF, 0x0, 0x0, 0x16F62, false⟩,
    ⟨"CARD_PATHp_FC", 0x104, [(0x20, 2)], 0x1FFFF, 0x0, 0x0, 0x16562, false⟩,
    ⟨"CARD_PATHp_STAT", 0x108, [(0x20, 2)], 0x0, 0x0, 0x0, 0x0, false⟩,
    ⟨"CARD_PATHp_CNT", 0x10C, [(0x20, 2)], 0x0, 0x0, 0xFFFFFFFF, 0x0, false⟩,
    ⟨"CARD_PATHp_CAL", 0x110, [(0x20, 2)], 0x0, 0x0, 0x0, 0xFFFF, false⟩,
    ⟨"CARD_CHCFGc", 0x1000, [(0x4, 256)], 0xFF30003F, 0x0, 0x0, 0x18, false⟩,
    ⟨"CARD_CHNFc", 0x1400, [(0x4, 256)], 0x0, 0x0, 0x0, 0xFE34FE34, false⟩,
    ⟨"CARD_CHCNTc", 0x1800, [(0x4, 256)], 0x0, 0x0, 0xFFFFFFFF, 0x0, false⟩,
    ⟨"CARD_LANE_STATn", 0x2000, [(0x10, 64)], 0x0, 0x0, 0x0, 0x0, false⟩,
    ⟨"CARD_LANE_SFDn", 0x2004, [(0x10, 64)], 0x0, 0x0, 0xFFFFFFFF, 0x0, false⟩,
    ⟨"CARD_LANE_MEASn", 0x2008, [(0x10, 64)], 0x0, 0x0, 0x0, 0x0, false⟩,
    ⟨"CARD_LANE_FOFFn", 0x200C, [(0x10, 64)], 0x0, 0x0, 0x0, 0x0, false⟩,
    ⟨"CARD_LANE_MAP_LO", 0x2400, [], 0xFFFFFFFF, 0x0, 0x0, 0x0, true⟩,
    ⟨"CARD_LANE_MAP_HI", 0x2404, [], 0xFFFFFFFF, 0x0, 0x0, 0x0, true⟩,
    ⟨"CARD_RXWINw", 0x3000, [(0x4, 128)], 0x0, 0x0, 0x0, 0x0, false⟩ ]

/-! ### SUBTX registers (05_transmit_synth.md) -/

def SUBTX_CTL : Nat := 0x40060000
def SUBTX_STAT : Nat := 0x40060004
def SUBTX_TEMP : Nat := 0x40060008
def SUBTX_VPA : Nat := 0x4006000C
def SUBTX_SYNx_STAT (x : Nat) : Nat := 0x40060040 + 0x40 * x
def SUBTX_SYNx_CALREQ (x : Nat) : Nat := 0x40060044 + 0x40 * x
def SUBTX_TXx_PWR (x : Nat) : Nat := 0x40060048 + 0x40 * x
def SUBTX_TXx_TCOMP0 (x : Nat) : Nat := 0x4006004C + 0x40 * x
def SUBTX_TXx_TCOMP1 (x : Nat) : Nat := 0x40060050 + 0x40 * x
def SUBTX_TXx_VCOMP0 (x : Nat) : Nat := 0x40060054 + 0x40 * x
def SUBTX_TXx_VCOMP1 (x : Nat) : Nat := 0x40060058 + 0x40 * x
def SUBTX_TXx_PDET (x : Nat) : Nat := 0x4006005C + 0x40 * x
def SUBTX_TXx_QSTAT (x : Nat) : Nat := 0x40060060 + 0x40 * x
def SUBTX_TXx_LAST (x : Nat) : Nat := 0x40060064 + 0x40 * x
def SUBTX_TXx_CNT (x : Nat) : Nat := 0x40060068 + 0x40 * x
def SUBTX_TXx_CNT2 (x : Nat) : Nat := 0x4006006C + 0x40 * x
def SUBTX_GRDb_FRQ (b : Nat) : Nat := 0x40060800 + 0x80 * b
def SUBTX_GRDb_GRID (b : Nat) : Nat := 0x40060804 + 0x80 * b
def SUBTX_GRDb_CEIL (b : Nat) : Nat := 0x40060808 + 0x80 * b
def SUBTX_GRDb_DUTY (b : Nat) : Nat := 0x4006080C + 0x80 * b
def SUBTX_GRDb_LBT (b : Nat) : Nat := 0x40060810 + 0x80 * b
def SUBTX_GRDb_MISC (b : Nat) : Nat := 0x40060814 + 0x80 * b
def SUBTX_GRDb_MAPj (b j : Nat) : Nat := 0x40060840 + 0x80 * b + 0x4 * j
def SUBTX_GRDLIMx (x : Nat) : Nat := 0x40060C00 + 0x4 * x
def SUBTX_GRDSTAT : Nat := 0x40060C10
def SUBTX_GRDLOCK : Nat := 0x40060C14
def SUBTX_DUTYb_USED (b : Nat) : Nat := 0x40060D00 + 0x10 * b
def SUBTX_DUTYb_CNT (b : Nat) : Nat := 0x40060D04 + 0x10 * b
def SUBTX_SYNx_FRQk (x k : Nat) : Nat := 0x40064000 + 0x2000 * x + 0x8 * k
def SUBTX_SYNx_CALk (x k : Nat) : Nat := 0x40064004 + 0x2000 * x + 0x8 * k

/-- The register table of the SUBTX block. -/
def subtxRegs0 : List RegSpec :=
  [ ⟨"SUBTX_CTL", 0x0, [], 0x13, 0x0, 0x0, 0x10, false⟩,
    ⟨"SUBTX_STAT", 0x4, [], 0x0, 0x7FF, 0x0, 0x0, false⟩,
    ⟨"SUBTX_TEMP", 0x8, [], 0x0, 0x0, 0x0, 0x0, false⟩,
    ⟨"SUBTX_VPA", 0xC, [], 0x0, 0x0, 0x0, 0x0, false⟩,
    ⟨"SUBTX_SYNx_STAT", 0x40, [(0x40, 2)], 0x0, 0x0, 0x0, 0x0, false⟩,
    ⟨"SUBTX_SYNx_CALREQ", 0x44, [(0x40, 2)], 0x0, 0x0, 0x0, 0x0, false⟩,
    ⟨"SUBTX_TXx_PWR", 0x48, [(0x40, 2)], 0xC3FF0FFF, 0x0, 0x0, 0x0, false⟩,
    ⟨"SUBTX_TXx_TCOMP0", 0x4C, [(0x40, 2)], 0xFFFFFFFF, 0x0, 0x0, 0x0, false⟩,
    ⟨"SUBTX_TXx_TCOMP1", 0x50, [(0x40, 2)], 0xFFFFFFFF, 0x0, 0x0, 0x0, false⟩,
    ⟨"SUBTX_TXx_VCOMP0", 0x54, [(0x40, 2)], 0xFFFFFFFF, 0x0, 0x0, 0x0, false⟩,
    ⟨"SUBTX_TXx_VCOMP1", 0x58, [(0x40, 2)], 0xFFFFFFFF, 0x0, 0x0, 0x0, false⟩,
    ⟨"SUBTX_TXx_PDET", 0x5C, [(0x40, 2)], 0xFFFFFFFF, 0x0, 0x0, 0x1000000, false⟩,
    ⟨"SUBTX_TXx_QSTAT", 0x60, [(0x40, 2)], 0x0, 0x0, 0x0, 0x0, false⟩,
    ⟨"SUBTX_TXx_LAST", 0x64, [(0x40, 2)], 0x0, 0x0, 0x0, 0x0, false⟩,
    ⟨"SUBTX_TXx_CNT", 0x68, [(0x40, 2)], 0x0, 0x0, 0xFFFFFFFF, 0x0, false⟩,
    ⟨"SUBTX_TXx_CNT2", 0x6C, [(0x40, 2)], 0x0, 0x0, 0xFFFFFFFF, 0x0, false⟩,
    ⟨"SUBTX_GRDb_FRQ", 0x800, [(0x80, 8)], 0xC003FFFF, 0x0, 0x0, 0x0, true⟩,
    ⟨"SUBTX_GRDb_GRID", 0x804, [(0x80, 8)], 0x1FFFFFF, 0x0, 0x0, 0x0, true⟩,
    ⟨"SUBTX_GRDb_CEIL", 0x808, [(0x80, 8)], 0xFFFFFFFF, 0x0, 0x0, 0x0, true⟩,
    ⟨"SUBTX_GRDb_DUTY", 0x80C, [(0x80, 8)], 0xFFFFFFFF, 0x0, 0x0, 0x0, true⟩,
    ⟨"SUBTX_GRDb_LBT", 0x810, [(0x80, 8)], 0x80FFFFFF, 0x0, 0x0, 0x0, true⟩,
    ⟨"SUBTX_GRDb_MISC", 0x814, [(0x80, 8)], 0xFFFF, 0x0, 0x0, 0x0, true⟩,
    ⟨"SUBTX_GRDb_MAPj", 0x840, [(0x80, 8), (0x4, 16)], 0xFFFFFFFF, 0x0, 0x0, 0x0, true⟩,
    ⟨"SUBTX_GRDLIMx", 0xC00, [(0x4, 2)], 0xFFFFCFFF, 0x0, 0x0, 0x0, true⟩ ]
def subtxRegs1 : List RegSpec :=
  [ ⟨"SUBTX_GRDSTAT", 0xC10, [], 0x0, 0x0, 0x0, 0x0, true⟩,
    ⟨"SUBTX_GRDLOCK", 0xC14, [], 0x0, 0x0, 0x0, 0x0, false⟩,
    ⟨"SUBTX_DUTYb_USED", 0xD00, [(0x10, 8)], 0x0, 0x0, 0x0, 0x0, true⟩,
    ⟨"SUBTX_DUTYb_CNT", 0xD04, [(0x10, 8)], 0x0, 0x0, 0xFFFFFFFF, 0x0, false⟩,
    ⟨"SUBTX_SYNx_FRQk", 0x4000, [(0x2000, 2), (0x8, 1024)], 0xFFFFFFF, 0x0, 0x0, 0x0, true⟩,
    ⟨"SUBTX_SYNx_CALk", 0x4004, [(0x2000, 2), (0x8, 1024)], 0x0, 0x0, 0x0, 0x0, true⟩ ]
/-- The whole SUBTX table. -/
def subtxRegs : List RegSpec := subtxRegs0 ++ subtxRegs1

/-! ### ISM registers (05_transmit_synth.md) -/

def ISM_CTL : Nat := 0x40070000
def ISM_STAT : Nat := 0x40070004
def ISM_TEMP : Nat := 0x40070008
def ISM_VPA : Nat := 0x4007000C
def ISM_RX_CTL : Nat := 0x40070100
def ISM_RX_STAT : Nat := 0x40070104
def ISM_RX_SFD : Nat := 0x40070108
def ISM_RX_CNT : Nat := 0x4007010C
def ISM_DUTYb_USED (b : Nat) : Nat := 0x40070D00 + 0x10 * b
def ISM_DUTYb_CNT (b : Nat) : Nat := 0x40070D04 + 0x10 * b
def ISM_SYN_FRQk (k : Nat) : Nat := 0x40074000 + 0x8 * k
def ISM_SYN_CALk (k : Nat) : Nat := 0x40074004 + 0x8 * k
def ISM_SYN_STAT : Nat := 0x40070040
def ISM_SYN_CALREQ : Nat := 0x40070044
def ISM_TX_PWR : Nat := 0x40070048
def ISM_TX_TCOMP0 : Nat := 0x4007004C
def ISM_TX_TCOMP1 : Nat := 0x40070050
def ISM_TX_VCOMP0 : Nat := 0x40070054
def ISM_TX_VCOMP1 : Nat := 0x40070058
def ISM_TX_PDET : Nat := 0x4007005C
def ISM_TX_QSTAT : Nat := 0x40070060
def ISM_TX_LAST : Nat := 0x40070064
def ISM_TX_CNT : Nat := 0x40070068
def ISM_TX_CNT2 : Nat := 0x4007006C

/-- The register table of the ISM block. -/
def ismRegs : List RegSpec :=
  [ ⟨"ISM_CTL", 0x0, [], 0x11, 0x0, 0x0, 0x10, false⟩,
    ⟨"ISM_STAT", 0x4, [], 0x0, 0x7FF, 0x0, 0x0, false⟩,
    ⟨"ISM_TEMP", 0x8, [], 0x0, 0x0, 0x0, 0x0, false⟩,
    ⟨"ISM_VPA", 0xC, [], 0x0, 0x0, 0x0, 0x0, false⟩,
    ⟨"ISM_RX_CTL", 0x100, [], 0x8000001F, 0x0, 0x0, 0xB, false⟩,
    ⟨"ISM_RX_STAT", 0x104, [], 0x0, 0x0, 0x0, 0x0, false⟩,
    ⟨"ISM_RX_SFD", 0x108, [], 0x0, 0x0, 0xFFFFFFFF, 0x0, false⟩,
    ⟨"ISM_RX_CNT", 0x10C, [], 0x0, 0x0, 0xFFFFFFFF, 0x0, false⟩,
    ⟨"ISM_DUTYb_USED", 0xD00, [(0x10, 8)], 0x0, 0x0, 0x0, 0x0, true⟩,
    ⟨"ISM_DUTYb_CNT", 0xD04, [(0x10, 8)], 0x0, 0x0, 0xFFFFFFFF, 0x0, false⟩,
    ⟨"ISM_SYN_FRQk", 0x4000, [(0x8, 1024)], 0xFFFFFFF, 0x0, 0x0, 0x0, true⟩,
    ⟨"ISM_SYN_CALk", 0x4004, [(0x8, 1024)], 0x0, 0x0, 0x0, 0x0, true⟩,
    ⟨"ISM_SYN_STAT", 0x40, [], 0x0, 0x0, 0x0, 0x0, false⟩,
    ⟨"ISM_SYN_CALREQ", 0x44, [], 0x0, 0x0, 0x0, 0x0, false⟩,
    ⟨"ISM_TX_PWR", 0x48, [], 0xC3FF0FFF, 0x0, 0x0, 0x0, false⟩,
    ⟨"ISM_TX_TCOMP0", 0x4C, [], 0xFFFFFFFF, 0x0, 0x0, 0x0, false⟩,
    ⟨"ISM_TX_TCOMP1", 0x50, [], 0xFFFFFFFF, 0x0, 0x0, 0x0, false⟩,
    ⟨"ISM_TX_VCOMP0", 0x54, [], 0xFFFFFFFF, 0x0, 0x0, 0x0, false⟩,
    ⟨"ISM_TX_VCOMP1", 0x58, [], 0xFFFFFFFF, 0x0, 0x0, 0x0, false⟩,
    ⟨"ISM_TX_PDET", 0x5C, [], 0xFFFFFFFF, 0x0, 0x0, 0x1000000, false⟩,
    ⟨"ISM_TX_QSTAT", 0x60, [], 0x0, 0x0, 0x0, 0x0, false⟩,
    ⟨"ISM_TX_LAST", 0x64, [], 0x0, 0x0, 0x0, 0x0, false⟩,
    ⟨"ISM_TX_CNT", 0x68, [], 0x0, 0x0, 0xFFFFFFFF, 0x0, false⟩,
    ⟨"ISM_TX_CNT2", 0x6C, [], 0x0, 0x0, 0xFFFFFFFF, 0x0, false⟩ ]

/-! ### MAC registers (06_mesh_access.md) -/

def MAC_CTL : Nat := 0x40080000
def MAC_STAT : Nat := 0x40080004
def MAC_CHAIN : Nat := 0x40080008
def MAC_CHAINCTL : Nat := 0x4008000C
def MAC_BRIMCFG : Nat := 0x40080010
def MAC_DNODE : Nat := 0x40080014
def MAC_RSEPOCH : Nat := 0x40080018
def MAC_OUI : Nat := 0x4008001C
def MAC_EUI_LO : Nat := 0x40080020
def MAC_EUI_HI : Nat := 0x40080024
def MAC_RSTIME0 : Nat := 0x40080028
def MAC_RSTIME1 : Nat := 0x4008002C
def MAC_PATHCTL : Nat := 0x40080030
def MAC_WAKEPWR : Nat := 0x40080034
def MAC_RSEXIT : Nat := 0x40080038
def MAC_OWNi_PAN (i : Nat) : Nat := 0x40080040 + 0x8 * i
def MAC_OWNi_ADDR (i : Nat) : Nat := 0x40080044 + 0x8 * i
def MAC_PANj (j : Nat) : Nat := 0x400800C0 + 0x4 * j
def MAC_NODES : Nat := 0x400800D0
def MAC_NODECMD : Nat := 0x400800D4
def MAC_NODECMDSTAT : Nat := 0x400800D8
def MAC_NODEWMASK : Nat := 0x400800DC
def MAC_FLOODCFG : Nat := 0x400800E0
def MAC_FLOODSEQ : Nat := 0x400800E4
def MAC_RPLCFG : Nat := 0x400800E8
def MAC_LOSTQ : Nat := 0x400800EC
def MAC_LLBASE : Nat := 0x400800F0
def MAC_NTBASE : Nat := 0x400800F4
def MAC_TXENT0 : Nat := 0x400800F8
def MAC_TXENT1 : Nat := 0x400800FC
def MAC_NODEWINw (w : Nat) : Nat := 0x40080100 + 0x4 * w
def MAC_IPHCk_HI (k : Nat) : Nat := 0x40080200 + 0x8 * k
def MAC_IPHCk_LO (k : Nat) : Nat := 0x40080204 + 0x8 * k
def MAC_IPHCVALID : Nat := 0x40080280
def MAC_CNTm (m : Nat) : Nat := 0x40080300 + 0x4 * m
def MAC_SLOTb_p_s (b p s : Nat) : Nat := 0x40084000 + 0x2000 * b + 0x1000 * p + 0x4 * s

/-- The register table of the MAC block. -/
def macRegs0 : List RegSpec :=
  [ ⟨"MAC_CTL", 0x0, [], 0xFFFFFF2F, 0x0, 0x0, 0x64421006, false⟩,
    ⟨"MAC_STAT", 0x4, [], 0x0, 0x7F, 0x0, 0x0, false⟩,
    ⟨"MAC_CHAIN", 0x8, [], 0x0, 0x0, 0x0, 0x0, false⟩,
    ⟨"MAC_CHAINCTL", 0xC, [], 0x31, 0x0, 0x0, 0x0, false⟩,
    ⟨"MAC_BRIMCFG", 0x10, [], 0xFFFFFFFF, 0x0, 0x0, 0x64014053, false⟩,
    ⟨"MAC_DNODE", 0x14, [], 0xFFFFFFFF, 0x0, 0x0, 0x3E800C8, false⟩,
    ⟨"MAC_RSEPOCH", 0x18, [], 0x0, 0x0, 0x0, 0x0, true⟩,
    ⟨"MAC_OUI", 0x1C, [], 0xFFFFFF, 0x0, 0x0, 0x0, false⟩,
    ⟨"MAC_EUI_LO", 0x20, [], 0xFFFFFFFF, 0x0, 0x0, 0x0, true⟩,
    ⟨"MAC_EUI_HI", 0x24, [], 0xFFFFFFFF, 0x0, 0x0, 0x0, true⟩,
    ⟨"MAC_RSTIME0", 0x28, [], 0x0, 0x0, 0x0, 0x0, false⟩,
    ⟨"MAC_RSTIME1", 0x2C, [], 0x0, 0x0, 0x0, 0x0, false⟩,
    ⟨"MAC_PATHCTL", 0x30, [], 0x3, 0x0, 0x0, 0x0, false⟩,
    ⟨"MAC_WAKEPWR", 0x34, [], 0xFFF, 0x0, 0x0, 0x38, false⟩,
    ⟨"MAC_RSEXIT", 0x38, [], 0x0, 0x0, 0x0, 0x0, true⟩,
    ⟨"MAC_OWNi_PAN", 0x40, [(0x8, 16)], 0x8000FFFF, 0x0, 0x0, 0x0, false⟩,
    ⟨"MAC_OWNi_ADDR", 0x44, [(0x8, 16)], 0xFFFF, 0x0, 0x0, 0x0, false⟩,
    ⟨"MAC_PANj", 0xC0, [(0x4, 4)], 0x8000FFFF, 0x0, 0x0, 0x0, false⟩,
    ⟨"MAC_NODES", 0xD0, [], 0x0, 0x0, 0x0, 0x20000, false⟩,
    ⟨"MAC_NODECMD", 0xD4, [], 0x0, 0x0, 0x0, 0x0, false⟩,
    ⟨"MAC_NODECMDSTAT", 0xD8, [], 0x0, 0x0, 0x0, 0x0, false⟩,
    ⟨"MAC_NODEWMASK", 0xDC, [], 0xFFFFFFFF, 0x0, 0x0, 0x0, false⟩,
    ⟨"MAC_FLOODCFG", 0xE0, [], 0xFFFFFF00, 0x0, 0x0, 0x3C00, false⟩,
    ⟨"MAC_FLOODSEQ", 0xE4, [], 0x0, 0x0, 0x0, 0x0, false⟩ ]
def macRegs1 : List RegSpec :=
  [ ⟨"MAC_RPLCFG", 0xE8, [], 0x3F, 0x0, 0x0, 0x10, false⟩,
    ⟨"MAC_LOSTQ", 0xEC, [], 0x0, 0x0, 0x8001FFFF, 0x0, false⟩,
    ⟨"MAC_LLBASE", 0xF0, [], 0xFFFFFFFF, 0x0, 0x0, 0x0, false⟩,
    ⟨"MAC_NTBASE", 0xF4, [], 0xFFFFFFFF, 0x0, 0x0, 0x0, false⟩,
    ⟨"MAC_TXENT0", 0xF8, [], 0x3FF, 0x0, 0x0, 0x0, false⟩,
    ⟨"MAC_TXENT1", 0xFC, [], 0x3FF, 0x0, 0x0, 0x80, false⟩,
    ⟨"MAC_NODEWINw", 0x100, [(0x4, 32)], 0xFFFFFFFF, 0x0, 0x0, 0x0, false⟩,
    ⟨"MAC_IPHCk_HI", 0x200, [(0x8, 16)], 0xFFFFFFFF, 0x0, 0x0, 0x0, false⟩,
    ⟨"MAC_IPHCk_LO", 0x204, [(0x8, 16)], 0xFFFFFFFF, 0x0, 0x0, 0x0, false⟩,
    ⟨"MAC_IPHCVALID", 0x280, [], 0xFFFF, 0x0, 0x0, 0x0, false⟩,
    ⟨"MAC_CNTm", 0x300, [(0x4, 20)], 0x0, 0x0, 0xFFFFFFFF, 0x0, false⟩,
    ⟨"MAC_SLOTb_p_s", 0x4000, [(0x2000, 2), (0x1000, 2), (0x4, 800)], 0xFFFFFFFF, 0x0, 0x0, 0x0, false⟩ ]
/-- The whole MAC table. -/
def macRegs : List RegSpec := macRegs0 ++ macRegs1

/-! ### QFAB registers (07_queue_fabric.md) -/

def QFAB_CTL : Nat := 0x40090000
def QFAB_STAT : Nat := 0x40090004
def QFAB_FLIGHT : Nat := 0x40090008
def QFAB_FLIGHTCNT : Nat := 0x4009000C
def QFAB_DQERR : Nat := 0x40090010
def QFAB_HTXOVR : Nat := 0x40090014
def QFAB_Qq_CFG (q : Nat) : Nat := 0x40090100 + 0x10 * q
def QFAB_Qq_STAT (q : Nat) : Nat := 0x40090104 + 0x10 * q
def QFAB_Qq_CNT (q : Nat) : Nat := 0x40090108 + 0x10 * q
def QFAB_Qq_FRM (q : Nat) : Nat := 0x4009010C + 0x10 * q
def QFAB_HRX_STAT : Nat := 0x40090800
def QFAB_HRX_LO : Nat := 0x40090804
def QFAB_HRX_HI : Nat := 0x40090808
def QFAB_HTX_LO : Nat := 0x40090810
def QFAB_HTX_HI : Nat := 0x40090814
def QFAB_HTX_TAG : Nat := 0x40090818
def QFAB_HTX_CRED : Nat := 0x4009081C
def QFAB_HDQSEL : Nat := 0x40090820
def QFAB_HDQPOP : Nat := 0x40090824
def QFAB_HDQPUSH : Nat := 0x40090828
def QFAB_DQLIMd (d : Nat) : Nat := 0x40091000 + 0x8 * d
def QFAB_DQSTATd (d : Nat) : Nat := 0x40091004 + 0x8 * d

/-- The register table of the QFAB block. -/
def qfabRegs0 : List RegSpec :=
  [ ⟨"QFAB_CTL", 0x0, [], 0xFFFF01, 0x0, 0x0, 0x100A01, false⟩,
    ⟨"QFAB_STAT", 0x4, [], 0x0, 0xF, 0x0, 0x0, false⟩,
    ⟨"QFAB_FLIGHT", 0x8, [], 0x0, 0x0, 0x0, 0x0, false⟩,
    ⟨"QFAB_FLIGHTCNT", 0xC, [], 0x0, 0x0, 0xFFFFFFFF, 0x0, false⟩,
    ⟨"QFAB_DQERR", 0x10, [], 0x0, 0x0, 0xFFFFFFFF, 0x0, false⟩,
    ⟨"QFAB_HTXOVR", 0x14, [], 0x0, 0x0, 0xFFFFFFFF, 0x0, false⟩,
    ⟨"QFAB_Qq_CFG", 0x510, [], 0x8000007F, 0x0, 0x0, 0x80000004, false⟩,
    ⟨"QFAB_Qq_CFG", 0x520, [], 0x8000007F, 0x0, 0x0, 0x80000004, false⟩,
    ⟨"QFAB_Qq_CFG", 0x530, [], 0x8000007F, 0x0, 0x0, 0x80000004, false⟩,
    ⟨"QFAB_Qq_CFG", 0x100, [(0x10, 76)], 0x8000007F, 0x0, 0x0, 0x80000003, false⟩,
    ⟨"QFAB_Qq_STAT", 0x104, [(0x10, 76)], 0x0, 0x0, 0x0, 0x0, false⟩,
    ⟨"QFAB_Qq_CNT", 0x108, [(0x10, 76)], 0x0, 0x0, 0xFFFFFFFF, 0x0, false⟩,
    ⟨"QFAB_Qq_FRM", 0x10C, [(0x10, 76)], 0x0, 0x0, 0xFFFFFFFF, 0x0, false⟩,
    ⟨"QFAB_HRX_STAT", 0x800, [], 0x0, 0x0, 0x8000001F, 0x80000000, false⟩,
    ⟨"QFAB_HRX_LO", 0x804, [], 0x0, 0x0, 0x0, 0x0, false⟩,
    ⟨"QFAB_HRX_HI", 0x808, [], 0x0, 0x0, 0x0, 0x0, false⟩,
    ⟨"QFAB_HTX_LO", 0x810, [], 0xFFFFFFFF, 0x0, 0x0, 0x0, false⟩,
    ⟨"QFAB_HTX_HI", 0x814, [], 0xFFFFFFFF, 0x0, 0x0, 0x0, false⟩,
    ⟨"QFAB_HTX_TAG", 0x818, [], 0x0, 0x0, 0x0, 0x0, false⟩,
    ⟨"QFAB_HTX_CRED", 0x81C, [], 0x0, 0x0, 0x0, 0x40, false⟩,
    ⟨"QFAB_HDQSEL", 0x820, [], 0xFF, 0x0, 0x0, 0x0, false⟩,
    ⟨"QFAB_HDQPOP", 0x824, [], 0x0, 0x0, 0xC0FFFFFF, 0x80000000, false⟩,
    ⟨"QFAB_HDQPUSH", 0x828, [], 0x0, 0x0, 0x0, 0x0, false⟩,
    ⟨"QFAB_DQLIMd", 0x1000, [(0x8, 256)], 0x80007FFF, 0x0, 0x0, 0x80004000, false⟩ ]
def qfabRegs1 : List RegSpec :=
  [ ⟨"QFAB_DQSTATd", 0x1004, [(0x8, 256)], 0x0, 0x0, 0x0, 0x4000, false⟩ ]
/-- The whole QFAB table. -/
def qfabRegs : List RegSpec := qfabRegs0 ++ qfabRegs1

/-! ### FWD registers (08_forwarding.md) -/

def FWD_CTL : Nat := 0x400A0000
def FWD_STAT : Nat := 0x400A0004
def FWD_DBASE : Nat := 0x400A0008
def FWD_DEFAULT : Nat := 0x400A000C
def FWD_PFXCMD : Nat := 0x400A0020
def FWD_PFXSTAT : Nat := 0x400A0024
def FWD_PFXRES : Nat := 0x400A0028
def FWD_PFXCNT : Nat := 0x400A002C
def FWD_BANKb (b : Nat) : Nat := 0x400A0040 + 0x4 * b
def FWD_BRCFG : Nat := 0x400A0100
def FWD_BRLFSR : Nat := 0x400A0104
def FWD_AGECLK : Nat := 0x400A0108
def FWD_BRPORTp (p : Nat) : Nat := 0x400A0110 + 0x4 * p
def FWD_BRPCNTp (p : Nat) : Nat := 0x400A0120 + 0x4 * p
def FWD_BRKEY_LO : Nat := 0x400A0130
def FWD_BRKEY_HI : Nat := 0x400A0134
def FWD_BRDATA : Nat := 0x400A0138
def FWD_BRCMD : Nat := 0x400A013C
def FWD_BRSTAT : Nat := 0x400A0140
def FWD_JCTL : Nat := 0x400A0180
def FWD_JWR : Nat := 0x400A0184
def FWD_JRD : Nat := 0x400A0188
def FWD_JSEQ : Nat := 0x400A018C
def FWD_JLOST : Nat := 0x400A0190
def FWD_EMKEY_LO : Nat := 0x400A01C0
def FWD_EMKEY_HI : Nat := 0x400A01C4
def FWD_EMCMD : Nat := 0x400A01C8
def FWD_EMSTAT : Nat := 0x400A01CC
def FWD_CNTm (m : Nat) : Nat := 0x400A0200 + 0x4 * m
def FWD_NHn_LO (n : Nat) : Nat := 0x400A0400 + 0x8 * n
def FWD_NHn_HI (n : Nat) : Nat := 0x400A0404 + 0x8 * n
def FWD_RESr (r : Nat) : Nat := 0x400A8000 + 0x4 * r
def FWD_PFXKEYk (k : Nat) : Nat := 0x400A0010 + 0x4 * k

/-- The register table of the FWD block. -/
def fwdRegs0 : List RegSpec :=
  [ ⟨"FWD_CTL", 0x0, [], 0xFF000F, 0x0, 0x0, 0x0, false⟩,
    ⟨"FWD_STAT", 0x4, [], 0x0, 0x3F, 0x0, 0x0, false⟩,
    ⟨"FWD_DBASE", 0x8, [], 0xFFFFFFFF, 0x0, 0x0, 0x0, true⟩,
    ⟨"FWD_DEFAULT", 0xC, [], 0x80000FFF, 0x0, 0x0, 0x0, false⟩,
    ⟨"FWD_PFXCMD", 0x20, [], 0x0, 0x0, 0x0, 0x0, false⟩,
    ⟨"FWD_PFXSTAT", 0x24, [], 0x0, 0x0, 0x0, 0x0, false⟩,
    ⟨"FWD_PFXRES", 0x28, [], 0x0, 0x0, 0x0, 0x0, false⟩,
    ⟨"FWD_PFXCNT", 0x2C, [], 0x0, 0x0, 0x0, 0x0, false⟩,
    ⟨"FWD_BANKb", 0x40, [(0x4, 8)], 0x0, 0x0, 0x0, 0x1FF0, false⟩,
    ⟨"FWD_BRCFG", 0x100, [], 0xFFFFFF0F, 0x0, 0x0, 0x2583C07, false⟩,
    ⟨"FWD_BRLFSR", 0x104, [], 0xFFFF, 0x0, 0x0, 0xACE1, false⟩,
    ⟨"FWD_AGECLK", 0x108, [], 0x0, 0x0, 0x0, 0x0, false⟩,
    ⟨"FWD_BRPORTp", 0x11C, [], 0xC0007FFF, 0x0, 0x0, 0x0, false⟩,
    ⟨"FWD_BRPORTp", 0x110, [(0x4, 4)], 0xC0007FFF, 0x0, 0x0, 0x80004000, false⟩,
    ⟨"FWD_BRPCNTp", 0x120, [(0x4, 4)], 0x0, 0x0, 0x0, 0x0, false⟩,
    ⟨"FWD_BRKEY_LO", 0x130, [], 0xFFFFFFFF, 0x0, 0x0, 0x0, false⟩,
    ⟨"FWD_BRKEY_HI", 0x134, [], 0xFFFFFFF, 0x0, 0x0, 0x0, false⟩,
    ⟨"FWD_BRDATA", 0x138, [], 0xC003FFFF, 0x0, 0x0, 0x0, false⟩,
    ⟨"FWD_BRCMD", 0x13C, [], 0x0, 0x0, 0x0, 0x0, false⟩,
    ⟨"FWD_BRSTAT", 0x140, [], 0x0, 0x0, 0x0, 0x0, false⟩,
    ⟨"FWD_JCTL", 0x180, [], 0x1FFF0000, 0x0, 0x0, 0x10000000, false⟩,
    ⟨"FWD_JWR", 0x184, [], 0x0, 0x0, 0x0, 0x0, false⟩,
    ⟨"FWD_JRD", 0x188, [], 0x1FFF, 0x0, 0x0, 0x0, false⟩,
    ⟨"FWD_JSEQ", 0x18C, [], 0x0, 0x0, 0x0, 0x0, false⟩ ]
def fwdRegs1 : List RegSpec :=
  [ ⟨"FWD_JLOST", 0x190, [], 0x0, 0x0, 0xFFFFFFFF, 0x0, false⟩,
    ⟨"FWD_EMKEY_LO", 0x1C0, [], 0xFFFFFFFF, 0x0, 0x0, 0x0, false⟩,
    ⟨"FWD_EMKEY_HI", 0x1C4, [], 0xFFFFFFFF, 0x0, 0x0, 0x0, false⟩,
    ⟨"FWD_EMCMD", 0x1C8, [], 0x0, 0x0, 0x0, 0x0, false⟩,
    ⟨"FWD_EMSTAT", 0x1CC, [], 0x0, 0x0, 0x0, 0x0, false⟩,
    ⟨"FWD_CNTm", 0x200, [(0x4, 15)], 0x0, 0x0, 0xFFFFFFFF, 0x0, false⟩,
    ⟨"FWD_NHn_LO", 0x400, [(0x8, 256)], 0xFFFFFFFF, 0x0, 0x0, 0x0, false⟩,
    ⟨"FWD_NHn_HI", 0x404, [(0x8, 256)], 0x1FFFFFFF, 0x0, 0x0, 0x0, false⟩,
    ⟨"FWD_RESr", 0x8000, [(0x4, 4096)], 0xF001FFFF, 0x0, 0x0, 0x0, false⟩,
    ⟨"FWD_PFXKEYk", 0x10, [(0x4, 4)], 0xFFFFFFFF, 0x0, 0x0, 0x0, false⟩ ]
/-- The whole FWD table. -/
def fwdRegs : List RegSpec := fwdRegs0 ++ fwdRegs1

/-! ### SCHED registers (09_traffic_scheduling.md) -/

def SCHED_CTL : Nat := 0x400B0000
def SCHED_STAT : Nat := 0x400B0004
def SCHED_FLOWS : Nat := 0x400B0008
def SCHED_EGe_CFG (e : Nat) : Nat := 0x400B0020 + 0x10 * e
def SCHED_EGe_VT (e : Nat) : Nat := 0x400B0024 + 0x10 * e
def SCHED_EGe_STAT (e : Nat) : Nat := 0x400B0028 + 0x10 * e
def SCHED_EGe_TIM (e : Nat) : Nat := 0x400B002C + 0x10 * e
def SCHED_CNTm (m : Nat) : Nat := 0x400B0060 + 0x4 * m
def SCHED_DSCPMAPk (k : Nat) : Nat := 0x400B0080 + 0x4 * k
def SCHED_PCPMAP : Nat := 0x400B0090
def SCHED_PSELp (p : Nat) : Nat := 0x400B0094 + 0x4 * p
def SCHED_FLOWKEY : Nat := 0x400B00A0
def SCHED_FLOWCMD : Nat := 0x400B00A4
def SCHED_FLOWCMDSTAT : Nat := 0x400B00A8
def SCHED_FLOWWINw (w : Nat) : Nat := 0x400B00B0 + 0x4 * w
def SCHED_POLCMD : Nat := 0x400B00C0
def SCHED_POLWINw (w : Nat) : Nat := 0x400B00D0 + 0x4 * w
def SCHED_SHPs_CFG (s : Nat) : Nat := 0x400B1000 + 0x10 * s
def SCHED_SHPs_BURST (s : Nat) : Nat := 0x400B1004 + 0x10 * s
def SCHED_SHPs_TOK (s : Nat) : Nat := 0x400B1008 + 0x10 * s
def SCHED_POLi_CFG (i : Nat) : Nat := 0x400B4000 + 0x10 * i
def SCHED_POLi_CIR (i : Nat) : Nat := 0x400B4004 + 0x10 * i
def SCHED_POLi_PIR (i : Nat) : Nat := 0x400B4008 + 0x10 * i
def SCHED_POLi_BS (i : Nat) : Nat := 0x400B400C + 0x10 * i
def SCHED_FLOWf_CFG (f : Nat) : Nat := 0x400B8000 + 0x8 * f
def SCHED_FLOWf_STAT (f : Nat) : Nat := 0x400B8004 + 0x8 * f

/-- The register table of the SCHED block. -/
def schedRegs0 : List RegSpec :=
  [ ⟨"SCHED_CTL", 0x0, [], 0xFFFFFFFF, 0x0, 0x0, 0x10A20, false⟩,
    ⟨"SCHED_STAT", 0x4, [], 0x0, 0x1F, 0x0, 0x0, false⟩,
    ⟨"SCHED_FLOWS", 0x8, [], 0x0, 0x0, 0x0, 0x0, false⟩,
    ⟨"SCHED_EGe_CFG", 0x30, [], 0xCFFFFFFF, 0x0, 0x0, 0x200F1F5, false⟩,
    ⟨"SCHED_EGe_CFG", 0x40, [], 0xCFFFFFFF, 0x0, 0x0, 0x200F2F6, false⟩,
    ⟨"SCHED_EGe_CFG", 0x50, [], 0xCFFFFFFF, 0x0, 0x0, 0x200F3F7, false⟩,
    ⟨"SCHED_EGe_CFG", 0x20, [(0x10, 4)], 0xCFFFFFFF, 0x0, 0x0, 0x200F0F4, false⟩,
    ⟨"SCHED_EGe_VT", 0x24, [(0x10, 4)], 0x0, 0x0, 0x0, 0x0, false⟩,
    ⟨"SCHED_EGe_STAT", 0x28, [(0x10, 4)], 0x0, 0x0, 0x0, 0x0, false⟩,
    ⟨"SCHED_EGe_TIM", 0x2C, [(0x10, 4)], 0xFFFF00FF, 0x0, 0x0, 0x12, false⟩,
    ⟨"SCHED_CNTm", 0x60, [(0x4, 8)], 0x0, 0x0, 0xFFFFFFFF, 0x0, false⟩,
    ⟨"SCHED_DSCPMAPk", 0x80, [(0x4, 4)], 0xFFFFFFFF, 0x0, 0x0, 0x0, false⟩,
    ⟨"SCHED_PCPMAP", 0x90, [], 0xFFFFFFFF, 0x0, 0x0, 0x0, false⟩,
    ⟨"SCHED_PSELp", 0x94, [(0x4, 2)], 0xB3FF03FF, 0x0, 0x0, 0x0, false⟩,
    ⟨"SCHED_FLOWKEY", 0xA0, [], 0xE001FFFF, 0x0, 0x0, 0x0, false⟩,
    ⟨"SCHED_FLOWCMD", 0xA4, [], 0x0, 0x0, 0x0, 0x0, false⟩,
    ⟨"SCHED_FLOWCMDSTAT", 0xA8, [], 0x0, 0x0, 0x0, 0x0, false⟩,
    ⟨"SCHED_FLOWWINw", 0xB0, [(0x4, 4)], 0x0, 0x0, 0x0, 0x0, false⟩,
    ⟨"SCHED_POLCMD", 0xC0, [], 0x0, 0x0, 0x0, 0x0, false⟩,
    ⟨"SCHED_POLWINw", 0xD0, [(0x4, 5)], 0x0, 0x0, 0x0, 0x0, false⟩,
    ⟨"SCHED_SHPs_CFG", 0x1000, [(0x10, 256)], 0xFFFFFFFF, 0x0, 0x0, 0x7D000000, false⟩,
    ⟨"SCHED_SHPs_BURST", 0x1004, [(0x10, 256)], 0xFFFF, 0x0, 0x0, 0x0, false⟩,
    ⟨"SCHED_SHPs_TOK", 0x1008, [(0x10, 256)], 0x0, 0x0, 0x0, 0x0, false⟩,
    ⟨"SCHED_POLi_CFG", 0x4000, [(0x10, 1024)], 0xF00F3F3F, 0x0, 0x0, 0x0, false⟩ ]
def schedRegs1 : List RegSpec :=
  [ ⟨"SCHED_POLi_CIR", 0x4004, [(0x10, 1024)], 0xFFFFF, 0x0, 0x0, 0x0, false⟩,
    ⟨"SCHED_POLi_PIR", 0x4008, [(0x10, 1024)], 0xFFFFF, 0x0, 0x0, 0x0, false⟩,
    ⟨"SCHED_POLi_BS", 0x400C, [(0x10, 1024)], 0xFFFFFFFF, 0x0, 0x0, 0x0, false⟩,
    ⟨"SCHED_FLOWf_CFG", 0x8000, [(0x8, 4096)], 0xFFFF01FF, 0x0, 0x0, 0x10000, false⟩,
    ⟨"SCHED_FLOWf_STAT", 0x8004, [(0x8, 4096)], 0x7F00000, 0x0, 0x0, 0x1000000, false⟩ ]
/-- The whole SCHED table. -/
def schedRegs : List RegSpec := schedRegs0 ++ schedRegs1

/-! ### KEYS registers (10_keys_security.md) -/

def KEYS_STAT : Nat := 0x400C0000
def KEYS_FLAGS : Nat := 0x400C0004
def KEYS_CMD : Nat := 0x400C0008
def KEYS_CMDSTAT : Nat := 0x400C000C
def KEYS_ATTR : Nat := 0x400C0010
def KEYS_CHAL_LO : Nat := 0x400C0014
def KEYS_CHAL_HI : Nat := 0x400C0018
def KEYS_AUTHSTAT : Nat := 0x400C001C
def KEYS_PANj (j : Nat) : Nat := 0x400C0020 + 0x4 * j
def KEYS_FLEET : Nat := 0x400C0030
def KEYS_PIPE : Nat := 0x400C0034
def KEYS_WKRe (e : Nat) : Nat := 0x400C0040 + 0x4 * e
def KEYS_GCM_SRC : Nat := 0x400C0060
def KEYS_GCM_DST : Nat := 0x400C0064
def KEYS_GCM_LEN : Nat := 0x400C0068
def KEYS_GCM_CTL : Nat := 0x400C006C
def KEYS_CNTm (m : Nat) : Nat := 0x400C0080 + 0x4 * m
def KEYS_BUFk (k : Nat) : Nat := 0x400C0100 + 0x4 * k

/-- The register table of the KEYS block. -/
def keysRegs : List RegSpec :=
  [ ⟨"KEYS_STAT", 0x0, [], 0x0, 0x0, 0x0, 0x0, true⟩,
    ⟨"KEYS_FLAGS", 0x4, [], 0x0, 0xFF, 0x0, 0x0, false⟩,
    ⟨"KEYS_CMD", 0x8, [], 0x0, 0x0, 0x0, 0x0, false⟩,
    ⟨"KEYS_CMDSTAT", 0xC, [], 0x0, 0x0, 0x0, 0x0, false⟩,
    ⟨"KEYS_ATTR", 0x10, [], 0xCE3FC000, 0x0, 0x0, 0x0, false⟩,
    ⟨"KEYS_CHAL_LO", 0x14, [], 0x0, 0x0, 0x0, 0x0, false⟩,
    ⟨"KEYS_CHAL_HI", 0x18, [], 0x0, 0x0, 0x0, 0x0, false⟩,
    ⟨"KEYS_AUTHSTAT", 0x1C, [], 0x0, 0x0, 0x0, 0x0, false⟩,
    ⟨"KEYS_PANj", 0x20, [(0x4, 4)], 0x8FFF8FFF, 0x0, 0x0, 0x0, false⟩,
    ⟨"KEYS_FLEET", 0x30, [], 0x8FFF8FFF, 0x0, 0x0, 0x0, false⟩,
    ⟨"KEYS_PIPE", 0x34, [], 0x0, 0x0, 0x0, 0x0, false⟩,
    ⟨"KEYS_WKRe", 0x40, [(0x4, 5)], 0x0, 0x0, 0x0, 0x0, false⟩,
    ⟨"KEYS_GCM_SRC", 0x60, [], 0xFFFFFFFF, 0x0, 0x0, 0x0, false⟩,
    ⟨"KEYS_GCM_DST", 0x64, [], 0xFFFFFFFF, 0x0, 0x0, 0x0, false⟩,
    ⟨"KEYS_GCM_LEN", 0x68, [], 0xFFFFFFFF, 0x0, 0x0, 0x0, false⟩,
    ⟨"KEYS_GCM_CTL", 0x6C, [], 0x2, 0x0, 0x0, 0x0, false⟩,
    ⟨"KEYS_CNTm", 0x80, [(0x4, 8)], 0x0, 0x0, 0xFFFFFFFF, 0x0, false⟩,
    ⟨"KEYS_BUFk", 0x100, [(0x4, 32)], 0xFFFFFFFF, 0x0, 0x0, 0x0, false⟩ ]

/-! ### GNSS registers (11_gnss_reference.md) -/

def GNSS_CTL : Nat := 0x400D0000
def GNSS_STAT : Nat := 0x400D0004
def GNSS_ANT : Nat := 0x400D0008
def GNSS_ACQ : Nat := 0x400D000C
def GNSS_FREE : Nat := 0x400D0010
def GNSS_EPOCH : Nat := 0x400D0014
def GNSS_CNT : Nat := 0x400D0018
def GNSS_MRBASE : Nat := 0x400D0020
def GNSS_MRPTR : Nat := 0x400D0024
def GNSS_NRBASE : Nat := 0x400D0028
def GNSS_NRPTR : Nat := 0x400D002C
def GNSS_INTCFG : Nat := 0x400D0030
def GNSS_INTEG : Nat := 0x400D0034
def GNSS_EXCLk (k : Nat) : Nat := 0x400D0038 + 0x4 * k
def GNSS_SURVEY : Nat := 0x400D0044
def GNSS_CABLE : Nat := 0x400D0048
def GNSS_REFX_LO : Nat := 0x400D0050
def GNSS_REFX_HI : Nat := 0x400D0054
def GNSS_REFY_LO : Nat := 0x400D0058
def GNSS_REFY_HI : Nat := 0x400D005C
def GNSS_REFZ_LO : Nat := 0x400D0060
def GNSS_REFZ_HI : Nat := 0x400D0064
def GNSS_REFSTAT : Nat := 0x400D0068
def GNSS_CHn_CFG (n : Nat) : Nat := 0x400D1000 + 0x10 * n
def GNSS_CHn_AID (n : Nat) : Nat := 0x400D1004 + 0x10 * n
def GNSS_CHn_TXT (n : Nat) : Nat := 0x400D1008 + 0x10 * n
def GNSS_CHn_STAT (n : Nat) : Nat := 0x400D100C + 0x10 * n

/-- The register table of the GNSS block. -/
def gnssRegs0 : List RegSpec :=
  [ ⟨"GNSS_CTL", 0x0, [], 0xF7, 0x0, 0x0, 0x0, false⟩,
    ⟨"GNSS_STAT", 0x4, [], 0x0, 0xFF, 0x0, 0x0, false⟩,
    ⟨"GNSS_ANT", 0x8, [], 0xFF1F, 0x0, 0x0, 0xA04, false⟩,
    ⟨"GNSS_ACQ", 0xC, [], 0x0, 0x0, 0x0, 0x7F0000, false⟩,
    ⟨"GNSS_FREE", 0x10, [], 0x0, 0x0, 0x0, 0x480000, false⟩,
    ⟨"GNSS_EPOCH", 0x14, [], 0x0, 0x0, 0x0, 0x0, false⟩,
    ⟨"GNSS_CNT", 0x18, [], 0x0, 0x0, 0xFFFFFFFF, 0x0, false⟩,
    ⟨"GNSS_MRBASE", 0x20, [], 0xFFFFFFFF, 0x0, 0x0, 0x0, false⟩,
    ⟨"GNSS_MRPTR", 0x24, [], 0x3F0000, 0x0, 0x0, 0x0, false⟩,
    ⟨"GNSS_NRBASE", 0x28, [], 0xFFFFFFFF, 0x0, 0x0, 0x0, false⟩,
    ⟨"GNSS_NRPTR", 0x2C, [], 0x3FF0000, 0x0, 0x0, 0x0, false⟩,
    ⟨"GNSS_INTCFG", 0x30, [], 0xFFFFFFFF, 0x0, 0x0, 0x1E144258, false⟩,
    ⟨"GNSS_INTEG", 0x34, [], 0xC0000000, 0x0, 0x0, 0x0, false⟩,
    ⟨"GNSS_EXCLk", 0x40, [], 0xFF, 0x0, 0x0, 0x0, false⟩,
    ⟨"GNSS_EXCLk", 0x38, [(0x4, 3)], 0xFFFFFFFF, 0x0, 0x0, 0x0, false⟩,
    ⟨"GNSS_SURVEY", 0x44, [], 0xFFFFFFFF, 0x0, 0x0, 0x3C01F4, false⟩,
    ⟨"GNSS_CABLE", 0x48, [], 0xFFFF, 0x0, 0x0, 0x0, false⟩,
    ⟨"GNSS_REFX_LO", 0x50, [], 0xFFFFFFFF, 0x0, 0x0, 0x0, true⟩,
    ⟨"GNSS_REFX_HI", 0x54, [], 0x3F, 0x0, 0x0, 0x0, true⟩,
    ⟨"GNSS_REFY_LO", 0x58, [], 0xFFFFFFFF, 0x0, 0x0, 0x0, true⟩,
    ⟨"GNSS_REFY_HI", 0x5C, [], 0x3F, 0x0, 0x0, 0x0, true⟩,
    ⟨"GNSS_REFZ_LO", 0x60, [], 0xFFFFFFFF, 0x0, 0x0, 0x0, true⟩,
    ⟨"GNSS_REFZ_HI", 0x64, [], 0x3F, 0x0, 0x0, 0x0, true⟩,
    ⟨"GNSS_REFSTAT", 0x68, [], 0xE000FFFF, 0x0, 0x0, 0x0, true⟩ ]
def gnssRegs1 : List RegSpec :=
  [ ⟨"GNSS_CHn_CFG", 0x1000, [(0x10, 72)], 0xFFFFFF8, 0x0, 0x0, 0x8550, false⟩,
    ⟨"GNSS_CHn_AID", 0x1004, [(0x10, 72)], 0xFFFFFF00, 0x0, 0x0, 0x0, false⟩,
    ⟨"GNSS_CHn_TXT", 0x1008, [(0x10, 72)], 0x3FFFFFFF, 0x0, 0x0, 0x0, false⟩,
    ⟨"GNSS_CHn_STAT", 0x100C, [(0x10, 72)], 0x0, 0x0, 0x0, 0x0, false⟩ ]
/-- The whole GNSS table. -/
def gnssRegs : List RegSpec := gnssRegs0 ++ gnssRegs1

/-! ### FLEET registers (12_fleet.md) -/

def FLEET_CTL : Nat := 0x400E0000
def FLEET_STAT : Nat := 0x400E0004
def FLEET_PAN : Nat := 0x400E0008
def FLEET_ISM : Nat := 0x400E000C
def FLEET_SUBCH : Nat := 0x400E0010
def FLEET_HOLD_LO : Nat := 0x400E0014
def FLEET_HOLD_HI : Nat := 0x400E0018
def FLEET_GOSEQ : Nat := 0x400E001C
def FLEET_CNTm (m : Nat) : Nat := 0x400E0020 + 0x4 * m
def FLEET_SLOTn_STAT (n : Nat) : Nat := 0x400E0100 + 0x10 * n
def FLEET_SLOTn_EUILO (n : Nat) : Nat := 0x400E0104 + 0x10 * n
def FLEET_SLOTn_EUIHI (n : Nat) : Nat := 0x400E0108 + 0x10 * n
def FLEET_SLOTn_FCIN (n : Nat) : Nat := 0x400E010C + 0x10 * n
def FLEET_RESCFG : Nat := 0x400E0600
def FLEET_RESREQ : Nat := 0x400E0604
def FLEET_RESSTART_S : Nat := 0x400E0608
def FLEET_RESSTART_G : Nat := 0x400E060C
def FLEET_RESEND_S : Nat := 0x400E0610
def FLEET_RESEND_G : Nat := 0x400E0614
def FLEET_RESCMD : Nat := 0x400E0618
def FLEET_RESSTAT : Nat := 0x400E061C
def FLEET_RESCNT : Nat := 0x400E0620
def FLEET_RESRES0 : Nat := 0x400E0624
def FLEET_RESRES1 : Nat := 0x400E0628
def FLEET_TASKCMD : Nat := 0x400E0700
def FLEET_TASKARG : Nat := 0x400E0704
def FLEET_TASKBODY : Nat := 0x400E0708
def FLEET_TASKSTAT : Nat := 0x400E070C
def FLEET_TASKCNT : Nat := 0x400E0710
def FLEET_STOP_STAT : Nat := 0x400E0800
def FLEET_STOP_CFG : Nat := 0x400E0804
def FLEET_STOP_CNT : Nat := 0x400E0808
def FLEET_STOP_CLR : Nat := 0x400E080C
def FLEET_STOP_LSEC : Nat := 0x400E0810
def FLEET_STOP_LGRN : Nat := 0x400E0814
def FLEET_STOP_SW : Nat := 0x400E0818
def FLEET_STOP_GEN : Nat := 0x400E0900
def FLEET_SEGg (g : Nat) : Nat := 0x400E1000 + 0x4 * g
def FLEET_PAIRk (k : Nat) : Nat := 0x400E8000 + 0x4 * k

/-- The register table of the FLEET block. -/
def fleetRegs0 : List RegSpec :=
  [ ⟨"FLEET_CTL", 0x0, [], 0xFFFFFF0F, 0x0, 0x0, 0xA320000, false⟩,
    ⟨"FLEET_STAT", 0x4, [], 0x0, 0xFF, 0x0, 0x0, false⟩,
    ⟨"FLEET_PAN", 0x8, [], 0xFFFFFFFF, 0x0, 0x0, 0x0, false⟩,
    ⟨"FLEET_ISM", 0xC, [], 0xFFF03FF, 0x0, 0x0, 0x380000, false⟩,
    ⟨"FLEET_SUBCH", 0x10, [], 0xFFFFFFFF, 0x0, 0x0, 0x3200E000, false⟩,
    ⟨"FLEET_HOLD_LO", 0x14, [], 0xFFFFFFFF, 0x0, 0x0, 0x0, false⟩,
    ⟨"FLEET_HOLD_HI", 0x18, [], 0xFFFFFFFF, 0x0, 0x0, 0x0, false⟩,
    ⟨"FLEET_GOSEQ", 0x1C, [], 0x0, 0x0, 0x0, 0x0, false⟩,
    ⟨"FLEET_CNTm", 0x20, [(0x4, 8)], 0x0, 0x0, 0xFFFFFFFF, 0x0, false⟩,
    ⟨"FLEET_SLOTn_STAT", 0x100, [(0x10, 64)], 0xE000FFFF, 0x0, 0x0, 0x0, false⟩,
    ⟨"FLEET_SLOTn_EUILO", 0x104, [(0x10, 64)], 0x0, 0x0, 0x0, 0x0, false⟩,
    ⟨"FLEET_SLOTn_EUIHI", 0x108, [(0x10, 64)], 0x0, 0x0, 0x0, 0x0, false⟩,
    ⟨"FLEET_SLOTn_FCIN", 0x10C, [(0x10, 64)], 0x0, 0x0, 0x0, 0x0, false⟩,
    ⟨"FLEET_RESCFG", 0x600, [], 0xFFFFFFFF, 0x0, 0x0, 0xA000E10, false⟩,
    ⟨"FLEET_RESREQ", 0x604, [], 0xFFFFFCFF, 0x0, 0x0, 0x0, false⟩,
    ⟨"FLEET_RESSTART_S", 0x608, [], 0xFFFFFFFF, 0x0, 0x0, 0x0, false⟩,
    ⟨"FLEET_RESSTART_G", 0x60C, [], 0xFFFFFFFF, 0x0, 0x0, 0x0, false⟩,
    ⟨"FLEET_RESEND_S", 0x610, [], 0xFFFFFFFF, 0x0, 0x0, 0x0, false⟩,
    ⟨"FLEET_RESEND_G", 0x614, [], 0xFFFFFFFF, 0x0, 0x0, 0x0, false⟩,
    ⟨"FLEET_RESCMD", 0x618, [], 0x0, 0x0, 0x0, 0x0, false⟩,
    ⟨"FLEET_RESSTAT", 0x61C, [], 0x0, 0x0, 0x0, 0x0, false⟩,
    ⟨"FLEET_RESCNT", 0x620, [], 0x0, 0x0, 0x0, 0x0, false⟩,
    ⟨"FLEET_RESRES0", 0x624, [], 0x0, 0x0, 0xFFFFFF00, 0x80000000, false⟩,
    ⟨"FLEET_RESRES1", 0x628, [], 0x0, 0x0, 0x0, 0x0, false⟩ ]
def fleetRegs1 : List RegSpec :=
  [ ⟨"FLEET_TASKCMD", 0x700, [], 0x0, 0x0, 0x0, 0x0, false⟩,
    ⟨"FLEET_TASKARG", 0x704, [], 0xFFF00000, 0x0, 0x0, 0x0, false⟩,
    ⟨"FLEET_TASKBODY", 0x708, [], 0xFFFFFFFF, 0x0, 0x0, 0x0, false⟩,
    ⟨"FLEET_TASKSTAT", 0x70C, [], 0x0, 0x0, 0x0, 0x0, false⟩,
    ⟨"FLEET_TASKCNT", 0x710, [], 0x0, 0x0, 0x0, 0x0, false⟩,
    ⟨"FLEET_STOP_STAT", 0x800, [], 0x0, 0x0, 0x0, 0x80060000, true⟩,
    ⟨"FLEET_STOP_CFG", 0x804, [], 0xFFFFF00, 0x0, 0x0, 0xA00, false⟩,
    ⟨"FLEET_STOP_CNT", 0x808, [], 0x0, 0x0, 0xFFFFFFFF, 0x0, false⟩,
    ⟨"FLEET_STOP_CLR", 0x80C, [], 0x0, 0x0, 0x0, 0x0, false⟩,
    ⟨"FLEET_STOP_LSEC", 0x810, [], 0x0, 0x0, 0x0, 0x0, true⟩,
    ⟨"FLEET_STOP_LGRN", 0x814, [], 0x0, 0x0, 0x0, 0x0, true⟩,
    ⟨"FLEET_STOP_SW", 0x818, [], 0x0, 0x0, 0x0, 0x0, false⟩,
    ⟨"FLEET_STOP_GEN", 0x900, [], 0x0, 0x0, 0x0, 0x0, false⟩,
    ⟨"FLEET_SEGg", 0x1000, [(0x4, 4096)], 0xC0000000, 0x0, 0x0, 0x0, false⟩,
    ⟨"FLEET_PAIRk", 0x8000, [(0x4, 8192)], 0x8FFF0FFF, 0x0, 0x0, 0x0, false⟩ ]
/-- The whole FLEET table. -/
def fleetRegs : List RegSpec := fleetRegs0 ++ fleetRegs1

/-! ### NET registers (03_network_time.md) -/

def NET_PTP_CTLp (p : Nat) : Nat := 0x400F0800 + 0x40 * p
def NET_INSp_SHI (p : Nat) : Nat := 0x400F0804 + 0x40 * p
def NET_INSp_SLO (p : Nat) : Nat := 0x400F0808 + 0x40 * p
def NET_INSp_GRN (p : Nat) : Nat := 0x400F080C + 0x40 * p
def NET_INSp_GO (p : Nat) : Nat := 0x400F0810 + 0x40 * p
def NET_PTPCNTp (p : Nat) : Nat := 0x400F0814 + 0x40 * p
def NET_PORTp_CTL (p : Nat) : Nat := 0x400F0000 + 0x40 * p
def NET_PORTp_STAT (p : Nat) : Nat := 0x400F0004 + 0x40 * p
def NET_PORTp_MACLO (p : Nat) : Nat := 0x400F0008 + 0x40 * p
def NET_PORTp_MACHI (p : Nat) : Nat := 0x400F000C + 0x40 * p
def NET_PORTp_RXOK (p : Nat) : Nat := 0x400F0010 + 0x40 * p
def NET_PORTp_TXOK (p : Nat) : Nat := 0x400F0014 + 0x40 * p
def NET_PORTp_ERR (p : Nat) : Nat := 0x400F0018 + 0x40 * p
def NET_MDIO_CMD : Nat := 0x400F0100
def NET_MDIO_DATA : Nat := 0x400F0104

/-- The register table of the NET block. -/
def netRegs : List RegSpec :=
  [ ⟨"NET_PTP_CTLp", 0x800, [(0x40, 2)], 0x1F, 0x0, 0x0, 0x0, false⟩,
    ⟨"NET_INSp_SHI", 0x804, [(0x40, 2)], 0xFFFF, 0x0, 0x0, 0x0, false⟩,
    ⟨"NET_INSp_SLO", 0x808, [(0x40, 2)], 0xFFFFFFFF, 0x0, 0x0, 0x0, false⟩,
    ⟨"NET_INSp_GRN", 0x80C, [(0x40, 2)], 0xFFFFFFFF, 0x0, 0x0, 0x0, false⟩,
    ⟨"NET_INSp_GO", 0x810, [(0x40, 2)], 0x0, 0x0, 0x0, 0x0, false⟩,
    ⟨"NET_PTPCNTp", 0x814, [(0x40, 2)], 0x0, 0x0, 0xFFFFFFFF, 0x0, false⟩,
    ⟨"NET_PORTp_CTL", 0x0, [(0x40, 2)], 0xFB000000, 0x0, 0x0, 0x31000000, false⟩,
    ⟨"NET_PORTp_STAT", 0x4, [(0x40, 2)], 0x0, 0x0, 0x0, 0x0, false⟩,
    ⟨"NET_PORTp_MACLO", 0x8, [(0x40, 2)], 0xFFFFFFFF, 0x0, 0x0, 0x0, true⟩,
    ⟨"NET_PORTp_MACHI", 0xC, [(0x40, 2)], 0xFFFF, 0x0, 0x0, 0x0, true⟩,
    ⟨"NET_PORTp_RXOK", 0x10, [(0x40, 2)], 0x0, 0x0, 0xFFFFFFFF, 0x0, false⟩,
    ⟨"NET_PORTp_TXOK", 0x14, [(0x40, 2)], 0x0, 0x0, 0xFFFFFFFF, 0x0, false⟩,
    ⟨"NET_PORTp_ERR", 0x18, [(0x40, 2)], 0x0, 0x0, 0xFFFFFFFF, 0x0, false⟩,
    ⟨"NET_MDIO_CMD", 0x100, [], 0x0, 0x0, 0x0, 0x0, false⟩,
    ⟨"NET_MDIO_DATA", 0x104, [], 0xFFFFFF, 0x0, 0x0, 0x180000, false⟩ ]

/-! ### HOST registers (18_pins_electrical.md) -/

def HOST_PCIID : Nat := 0x40100000
def HOST_LINK : Nat := 0x40100004
def HOST_BAR2BASE : Nat := 0x40100008
def HOST_IRQSTAT : Nat := 0x4010000C
def HOST_IRQEN : Nat := 0x40100010
def HOST_QSTSTAT : Nat := 0x40100014
def HOST_UART_CTL : Nat := 0x40100018
def HOST_UART_DATA : Nat := 0x4010001C
def HOST_RINGk_BASELO (k : Nat) : Nat := 0x40100100 + 0x20 * k
def HOST_RINGk_BASEHI (k : Nat) : Nat := 0x40100104 + 0x20 * k
def HOST_RINGk_CTL (k : Nat) : Nat := 0x40100108 + 0x20 * k
def HOST_RINGk_HEAD (k : Nat) : Nat := 0x4010010C + 0x20 * k
def HOST_RINGk_TAIL (k : Nat) : Nat := 0x40100110 + 0x20 * k
def HOST_RINGk_STAT (k : Nat) : Nat := 0x40100114 + 0x20 * k

/-- The register table of the HOST block. -/
def hostRegs : List RegSpec :=
  [ ⟨"HOST_PCIID", 0x0, [], 0x0, 0x0, 0x0, 0x72000000, false⟩,
    ⟨"HOST_LINK", 0x4, [], 0x0, 0x0, 0x0, 0x0, false⟩,
    ⟨"HOST_BAR2BASE", 0x8, [], 0xF000000, 0x0, 0x0, 0x0, false⟩,
    ⟨"HOST_IRQSTAT", 0xC, [], 0x0, 0x1FFFF, 0x0, 0x0, false⟩,
    ⟨"HOST_IRQEN", 0x10, [], 0x1FFFF, 0x0, 0x0, 0x0, false⟩,
    ⟨"HOST_QSTSTAT", 0x14, [], 0x0, 0x80000000, 0xFFFF, 0x0, false⟩,
    ⟨"HOST_UART_CTL", 0x18, [], 0x800FFFFF, 0x0, 0x0, 0x10F4, false⟩,
    ⟨"HOST_UART_DATA", 0x1C, [], 0xFF, 0x0, 0x40000000, 0x80000000, false⟩,
    ⟨"HOST_RINGk_BASELO", 0x100, [(0x20, 8)], 0xFFFFFFFF, 0x0, 0x0, 0x0, false⟩,
    ⟨"HOST_RINGk_BASEHI", 0x104, [(0x20, 8)], 0xFFFFFFFF, 0x0, 0x0, 0x0, false⟩,
    ⟨"HOST_RINGk_CTL", 0x188, [(0x20, 4)], 0x8F00FFFF, 0x0, 0x0, 0x44000000, false⟩,
    ⟨"HOST_RINGk_CTL", 0x108, [(0x20, 8)], 0x8F00FFFF, 0x0, 0x0, 0x4000000, false⟩,
    ⟨"HOST_RINGk_HEAD", 0x10C, [(0x20, 8)], 0x0, 0x0, 0x0, 0x0, false⟩,
    ⟨"HOST_RINGk_TAIL", 0x110, [(0x20, 8)], 0xFFF, 0x0, 0x0, 0x0, false⟩,
    ⟨"HOST_RINGk_STAT", 0x114, [(0x20, 8)], 0x0, 0xC0000000, 0xFFFF, 0x0, false⟩ ]

/-! ### LOG registers (17_faults_recorder_replay.md) -/

def LOG_STAT : Nat := 0x40110000
def LOG_SEQ : Nat := 0x40110004
def LOG_BASESEQ : Nat := 0x40110008
def LOG_QUEUE : Nat := 0x4011000C
def LOG_EVR_CURSOR : Nat := 0x40110010
def LOG_EVR_WINw (w : Nat) : Nat := 0x40110020 + 0x4 * w
def LOG_LOSTk (k : Nat) : Nat := 0x40110040 + 0x4 * k

/-- The register table of the LOG block. -/
def logRegs : List RegSpec :=
  [ ⟨"LOG_STAT", 0x0, [], 0x0, 0x0, 0x0, 0x0, true⟩,
    ⟨"LOG_SEQ", 0x4, [], 0x0, 0x0, 0x0, 0x0, true⟩,
    ⟨"LOG_BASESEQ", 0x8, [], 0x0, 0x0, 0x0, 0x0, true⟩,
    ⟨"LOG_QUEUE", 0xC, [], 0x0, 0x0, 0x0, 0x0, false⟩,
    ⟨"LOG_EVR_CURSOR", 0x10, [], 0x1FFFF, 0x0, 0x0, 0x0, false⟩,
    ⟨"LOG_EVR_WINw", 0x20, [(0x4, 8)], 0x0, 0x0, 0x0, 0x0, false⟩,
    ⟨"LOG_LOSTk", 0x40, [(0x4, 9)], 0x0, 0x0, 0x0, 0x0, true⟩ ]

/-! ### REPLAY registers (17_faults_recorder_replay.md) -/

def REPLAY_CTL : Nat := 0x40120000
def REPLAY_CMD : Nat := 0x40120004
def REPLAY_STAT : Nat := 0x40120008
def REPLAY_JBASE : Nat := 0x4012000C
def REPLAY_JWR : Nat := 0x40120010
def REPLAY_JOLD : Nat := 0x40120014
def REPLAY_JSEQ : Nat := 0x40120018
def REPLAY_TRIG : Nat := 0x4012001C
def REPLAY_IQBASE : Nat := 0x40120020
def REPLAY_IQCTL : Nat := 0x40120024
def REPLAY_IQp_IDX (p : Nat) : Nat := 0x40120028 + 0x4 * p
def REPLAY_IQTSEC : Nat := 0x40120030
def REPLAY_IQTGRN : Nat := 0x40120034
def REPLAY_OBASE : Nat := 0x40120040
def REPLAY_OLEN : Nat := 0x40120044
def REPLAY_OWR : Nat := 0x40120048
def REPLAY_PROG : Nat := 0x40120050
def REPLAY_DIVIDX : Nat := 0x40120054
def REPLAY_DIVINFO : Nat := 0x40120058
def REPLAY_DIVREC : Nat := 0x4012005C
def REPLAY_DIVREP : Nat := 0x40120060
def REPLAY_GAPS : Nat := 0x40120064

/-- The register table of the REPLAY block. -/
def replayRegs : List RegSpec :=
  [ ⟨"REPLAY_CTL", 0x0, [], 0xC0FFFFFF, 0x0, 0x0, 0xA14FE, false⟩,
    ⟨"REPLAY_CMD", 0x4, [], 0x0, 0x0, 0x0, 0x0, false⟩,
    ⟨"REPLAY_STAT", 0x8, [], 0x0, 0x0, 0x0, 0x0, false⟩,
    ⟨"REPLAY_JBASE", 0xC, [], 0xFC000000, 0x0, 0x0, 0x0, false⟩,
    ⟨"REPLAY_JWR", 0x10, [], 0x0, 0x0, 0x0, 0x0, false⟩,
    ⟨"REPLAY_JOLD", 0x14, [], 0x0, 0x0, 0x0, 0x0, false⟩,
    ⟨"REPLAY_JSEQ", 0x18, [], 0x0, 0x0, 0x0, 0x0, false⟩,
    ⟨"REPLAY_TRIG", 0x1C, [], 0x0, 0x0, 0x0, 0x0, false⟩,
    ⟨"REPLAY_IQBASE", 0x20, [], 0xFF000000, 0x0, 0x0, 0x0, false⟩,
    ⟨"REPLAY_IQCTL", 0x24, [], 0x3003F, 0x0, 0x0, 0xA, false⟩,
    ⟨"REPLAY_IQp_IDX", 0x28, [(0x4, 2)], 0x0, 0x0, 0x0, 0x0, false⟩,
    ⟨"REPLAY_IQTSEC", 0x30, [], 0x0, 0x0, 0x0, 0x0, false⟩,
    ⟨"REPLAY_IQTGRN", 0x34, [], 0x0, 0x0, 0x0, 0x0, false⟩,
    ⟨"REPLAY_OBASE", 0x40, [], 0xFFFFFFFF, 0x0, 0x0, 0x0, false⟩,
    ⟨"REPLAY_OLEN", 0x44, [], 0xFFFFFFFF, 0x0, 0x0, 0x0, false⟩,
    ⟨"REPLAY_OWR", 0x48, [], 0x0, 0x0, 0x0, 0x0, false⟩,
    ⟨"REPLAY_PROG", 0x50, [], 0x0, 0x0, 0x0, 0x0, false⟩,
    ⟨"REPLAY_DIVIDX", 0x54, [], 0x0, 0x0, 0x0, 0x0, false⟩,
    ⟨"REPLAY_DIVINFO", 0x58, [], 0x0, 0x0, 0x0, 0x0, false⟩,
    ⟨"REPLAY_DIVREC", 0x5C, [], 0x0, 0x0, 0x0, 0x0, false⟩,
    ⟨"REPLAY_DIVREP", 0x60, [], 0x0, 0x0, 0x0, 0x0, false⟩,
    ⟨"REPLAY_GAPS", 0x64, [], 0x0, 0x0, 0xFFFFFFFF, 0x0, false⟩ ]

/-! ### PLANK registers (16_update_plank.md) -/

def PLANK_STAT : Nat := 0x40130000
def PLANK_CNT : Nat := 0x40130004
def PLANK_HADDR : Nat := 0x40130010
def PLANK_HVAL : Nat := 0x40130014
def PLANK_HMASK : Nat := 0x40130018
def PLANK_HT0 : Nat := 0x4013001C
def PLANK_HT1 : Nat := 0x40130020
def PLANK_HCMD : Nat := 0x40130024
def PLANK_HSTAT : Nat := 0x40130028
def PLANK_BANKb_STAT (b : Nat) : Nat := 0x40130040 + 0x20 * b
def PLANK_BANKb_CTL (b : Nat) : Nat := 0x40130044 + 0x20 * b
def PLANK_BANKb_TSEC (b : Nat) : Nat := 0x40130048 + 0x20 * b
def PLANK_BANKb_TGRN (b : Nat) : Nat := 0x4013004C + 0x20 * b
def PLANK_BANKb_ASEC (b : Nat) : Nat := 0x40130050 + 0x20 * b
def PLANK_BANKb_AGRN (b : Nat) : Nat := 0x40130054 + 0x20 * b
def PLANK_Eb_i_ADDR (b i : Nat) : Nat := 0x40131000 + 0x4000 * b + 0x10 * i
def PLANK_Eb_i_VAL (b i : Nat) : Nat := 0x40131004 + 0x4000 * b + 0x10 * i
def PLANK_Eb_i_MASK (b i : Nat) : Nat := 0x40131008 + 0x4000 * b + 0x10 * i
def PLANK_Eb_i_SRC (b i : Nat) : Nat := 0x4013100C + 0x4000 * b + 0x10 * i

/-- The register table of the PLANK block. -/
def plankRegs : List RegSpec :=
  [ ⟨"PLANK_STAT", 0x0, [], 0x0, 0xF, 0x0, 0x0, false⟩,
    ⟨"PLANK_CNT", 0x4, [], 0x0, 0x0, 0xFFFFFFFF, 0x0, false⟩,
    ⟨"PLANK_HADDR", 0x10, [], 0xFFFFFFFF, 0x0, 0x0, 0x0, false⟩,
    ⟨"PLANK_HVAL", 0x14, [], 0xFFFFFFFF, 0x0, 0x0, 0x0, false⟩,
    ⟨"PLANK_HMASK", 0x18, [], 0xFFFFFFFF, 0x0, 0x0, 0xFFFFFFFF, false⟩,
    ⟨"PLANK_HT0", 0x1C, [], 0xFFFFFFFF, 0x0, 0x0, 0x0, false⟩,
    ⟨"PLANK_HT1", 0x20, [], 0xFFFFFFFF, 0x0, 0x0, 0x0, false⟩,
    ⟨"PLANK_HCMD", 0x24, [], 0x0, 0x0, 0x0, 0x0, false⟩,
    ⟨"PLANK_HSTAT", 0x28, [], 0x0, 0x0, 0x0, 0x0, false⟩,
    ⟨"PLANK_BANKb_STAT", 0x40, [(0x20, 2)], 0x0, 0x0, 0x0, 0x0, false⟩,
    ⟨"PLANK_BANKb_CTL", 0x44, [(0x20, 2)], 0x0, 0x0, 0x0, 0x0, false⟩,
    ⟨"PLANK_BANKb_TSEC", 0x48, [(0x20, 2)], 0x0, 0x0, 0x0, 0x0, false⟩,
    ⟨"PLANK_BANKb_TGRN", 0x4C, [(0x20, 2)], 0x0, 0x0, 0x0, 0x0, false⟩,
    ⟨"PLANK_BANKb_ASEC", 0x50, [(0x20, 2)], 0x0, 0x0, 0x0, 0x0, false⟩,
    ⟨"PLANK_BANKb_AGRN", 0x54, [(0x20, 2)], 0x0, 0x0, 0x0, 0x0, false⟩,
    ⟨"PLANK_Eb_i_ADDR", 0x1000, [(0x4000, 2), (0x10, 1024)], 0x0, 0x0, 0x0, 0x0, false⟩,
    ⟨"PLANK_Eb_i_VAL", 0x1004, [(0x4000, 2), (0x10, 1024)], 0x0, 0x0, 0x0, 0x0, false⟩,
    ⟨"PLANK_Eb_i_MASK", 0x1008, [(0x4000, 2), (0x10, 1024)], 0x0, 0x0, 0x0, 0x0, false⟩,
    ⟨"PLANK_Eb_i_SRC", 0x100C, [(0x4000, 2), (0x10, 1024)], 0x0, 0x0, 0x0, 0x0, false⟩ ]

/-! ### UPD registers (16_update_plank.md) -/

def UPD_STAT : Nat := 0x40140000
def UPD_BOOT : Nat := 0x40140004
def UPD_TRIAL : Nat := 0x40140008
def UPD_SETGEN : Nat := 0x4014000C
def UPD_CMD : Nat := 0x40140010
def UPD_ARG0 : Nat := 0x40140014
def UPD_ARG1 : Nat := 0x40140018
def UPD_CMDSTAT : Nat := 0x4014001C
def UPD_NIBASE : Nat := 0x40140020
def UPD_RUNENT : Nat := 0x40140024
def UPD_CNT : Nat := 0x40140028
def UPD_TGTt_STAT (t : Nat) : Nat := 0x40140040 + 0x10 * t
def UPD_TGTt_NPIECE (t : Nat) : Nat := 0x40140044 + 0x10 * t
def UPD_TGTt_VERLO (t : Nat) : Nat := 0x40140048 + 0x10 * t
def UPD_TGTt_VERHI (t : Nat) : Nat := 0x4014004C + 0x10 * t
def UPD_VERv (v : Nat) : Nat := 0x40140100 + 0x4 * v
def UPD_PGRETk (k : Nat) : Nat := 0x40140200 + 0x4 * k

/-- The register table of the UPD block. -/
def updRegs : List RegSpec :=
  [ ⟨"UPD_STAT", 0x0, [], 0x0, 0x1F, 0x0, 0x0, false⟩,
    ⟨"UPD_BOOT", 0x4, [], 0x0, 0x0, 0x0, 0x0, true⟩,
    ⟨"UPD_TRIAL", 0x8, [], 0xFFFF, 0x0, 0x0, 0x258, false⟩,
    ⟨"UPD_SETGEN", 0xC, [], 0x0, 0x0, 0x0, 0x0, true⟩,
    ⟨"UPD_CMD", 0x10, [], 0x0, 0x0, 0x0, 0x0, false⟩,
    ⟨"UPD_ARG0", 0x14, [], 0xFFFFFFFF, 0x0, 0x0, 0x0, false⟩,
    ⟨"UPD_ARG1", 0x18, [], 0xFFFFFFFF, 0x0, 0x0, 0x0, false⟩,
    ⟨"UPD_CMDSTAT", 0x1C, [], 0x0, 0x0, 0x0, 0x0, false⟩,
    ⟨"UPD_NIBASE", 0x20, [], 0xFFFFFFFF, 0x0, 0x0, 0x0, false⟩,
    ⟨"UPD_RUNENT", 0x24, [], 0x0, 0x0, 0x0, 0xF, false⟩,
    ⟨"UPD_CNT", 0x28, [], 0x0, 0x0, 0xFFFFFFFF, 0x0, false⟩,
    ⟨"UPD_TGTt_STAT", 0x40, [(0x10, 6)], 0x0, 0x0, 0x0, 0x0, true⟩,
    ⟨"UPD_TGTt_NPIECE", 0x44, [(0x10, 6)], 0x0, 0x0, 0x0, 0x0, true⟩,
    ⟨"UPD_TGTt_VERLO", 0x48, [(0x10, 6)], 0x0, 0x0, 0x0, 0x0, true⟩,
    ⟨"UPD_TGTt_VERHI", 0x4C, [(0x10, 6)], 0x0, 0x0, 0x0, 0x0, true⟩,
    ⟨"UPD_VERv", 0x100, [(0x4, 8)], 0x0, 0x0, 0x0, 0x0, false⟩,
    ⟨"UPD_PGRETk", 0x200, [(0x4, 64)], 0x0, 0x0, 0x0, 0x0, true⟩ ]

/-! ### FAULT registers (17_faults_recorder_replay.md) -/

def FAULT_CTL : Nat := 0x40150000
def FAULT_STAT : Nat := 0x40150004
def FAULT_WARMCNT : Nat := 0x40150008
def FAULT_INJ : Nat := 0x4015000C
def FAULT_LAST : Nat := 0x40150010
def FAULT_ECCCNT : Nat := 0x40150014
def FAULT_OPENw (w : Nat) : Nat := 0x40150020 + 0x4 * w
def FAULT_AVCFG : Nat := 0x40150040
def FAULT_AVCLR : Nat := 0x40150044
def FAULT_AVSTART : Nat := 0x40150048
def FAULT_AVm_OUT_S (m : Nat) : Nat := 0x40150050 + 0x10 * m
def FAULT_AVm_OUT_G (m : Nat) : Nat := 0x40150054 + 0x10 * m
def FAULT_AVm_EXT_S (m : Nat) : Nat := 0x40150058 + 0x10 * m
def FAULT_AVm_EXT_G (m : Nat) : Nat := 0x4015005C + 0x10 * m
def FAULT_CLSc_CFG (c : Nat) : Nat := 0x40150100 + 0x4 * c
def FAULT_CLSc_CNT (c : Nat) : Nat := 0x40150180 + 0x4 * c

/-- The register table of the FAULT block. -/
def faultRegs : List RegSpec :=
  [ ⟨"FAULT_CTL", 0x0, [], 0xFF000000, 0x0, 0x0, 0x3000000, false⟩,
    ⟨"FAULT_STAT", 0x4, [], 0x0, 0x3F, 0x0, 0x0, false⟩,
    ⟨"FAULT_WARMCNT", 0x8, [], 0x0, 0x0, 0x0, 0x0, true⟩,
    ⟨"FAULT_INJ", 0xC, [], 0x0, 0x0, 0x0, 0x0, false⟩,
    ⟨"FAULT_LAST", 0x10, [], 0x0, 0x0, 0x0, 0x0, false⟩,
    ⟨"FAULT_ECCCNT", 0x14, [], 0x0, 0x0, 0xFFFFFFFF, 0x0, false⟩,
    ⟨"FAULT_OPENw", 0x20, [(0x4, 8)], 0x0, 0x0, 0x0, 0x0, false⟩,
    ⟨"FAULT_AVCFG", 0x40, [], 0x7FFFF, 0x0, 0x0, 0x13C, true⟩,
    ⟨"FAULT_AVCLR", 0x44, [], 0x0, 0x0, 0x0, 0x0, false⟩,
    ⟨"FAULT_AVSTART", 0x48, [], 0x0, 0x0, 0x0, 0x0, true⟩,
    ⟨"FAULT_AVm_OUT_S", 0x50, [(0x10, 3)], 0x0, 0x0, 0x0, 0x0, true⟩,
    ⟨"FAULT_AVm_OUT_G", 0x54, [(0x10, 3)], 0x0, 0x0, 0x0, 0x0, true⟩,
    ⟨"FAULT_AVm_EXT_S", 0x58, [(0x10, 3)], 0x0, 0x0, 0x0, 0x0, true⟩,
    ⟨"FAULT_AVm_EXT_G", 0x5C, [(0x10, 3)], 0x0, 0x0, 0x0, 0x0, true⟩,
    ⟨"FAULT_CLSc_CFG", 0x104, [(0x4, 19)], 0x7, 0x0, 0x0, 0x2, false⟩,
    ⟨"FAULT_CLSc_CNT", 0x184, [(0x4, 19)], 0x0, 0x0, 0xFFFFFFFF, 0x0, false⟩ ]

/-! ### DBG registers (15_lifecycle_debug.md) -/

def DBG_LC : Nat := 0x40160000
def DBG_LCCMD : Nat := 0x40160004
def DBG_LCSTAT : Nat := 0x40160008
def DBG_UID_LO : Nat := 0x4016000C
def DBG_UID_HI : Nat := 0x40160010
def DBG_CHAL_LO : Nat := 0x40160014
def DBG_CHAL_HI : Nat := 0x40160018
def DBG_OPEN : Nat := 0x4016001C
def DBG_SESS : Nat := 0x40160020
def DBG_STAT : Nat := 0x40160024
def DBG_FLAGS : Nat := 0x40160028
def DBG_CLOSE : Nat := 0x4016002C
def DBG_HALT : Nat := 0x40160030
def DBG_TAMPCFG : Nat := 0x40160040
def DBG_TAMPSTAT : Nat := 0x40160044
def DBG_TAMPCNT : Nat := 0x40160048
def DBG_TAMPSEC : Nat := 0x4016004C
def DBG_TAMPGRN : Nat := 0x40160050
def DBG_RESPk (k : Nat) : Nat := 0x40160080 + 0x4 * k

/-- The register table of the DBG block. -/
def dbgRegs : List RegSpec :=
  [ ⟨"DBG_LC", 0x0, [], 0x0, 0x0, 0x0, 0x0, true⟩,
    ⟨"DBG_LCCMD", 0x4, [], 0x0, 0x0, 0x0, 0x0, false⟩,
    ⟨"DBG_LCSTAT", 0x8, [], 0x0, 0x0, 0x0, 0x0, false⟩,
    ⟨"DBG_UID_LO", 0xC, [], 0x0, 0x0, 0x0, 0x0, true⟩,
    ⟨"DBG_UID_HI", 0x10, [], 0x0, 0x0, 0x0, 0x0, true⟩,
    ⟨"DBG_CHAL_LO", 0x14, [], 0x0, 0x0, 0x0, 0x0, false⟩,
    ⟨"DBG_CHAL_HI", 0x18, [], 0x0, 0x0, 0x0, 0x0, false⟩,
    ⟨"DBG_OPEN", 0x1C, [], 0x0, 0x0, 0x0, 0x0, false⟩,
    ⟨"DBG_SESS", 0x20, [], 0x3000000, 0x0, 0x0, 0x0, false⟩,
    ⟨"DBG_STAT", 0x24, [], 0x0, 0x0, 0x0, 0x0, false⟩,
    ⟨"DBG_FLAGS", 0x28, [], 0x0, 0x1F, 0x0, 0x0, false⟩,
    ⟨"DBG_CLOSE", 0x2C, [], 0x0, 0x0, 0x0, 0x0, false⟩,
    ⟨"DBG_HALT", 0x30, [], 0x3FFF00FF, 0x0, 0x0, 0x0, false⟩,
    ⟨"DBG_TAMPCFG", 0x40, [], 0x33F, 0x0, 0x0, 0x7C, true⟩,
    ⟨"DBG_TAMPSTAT", 0x44, [], 0x0, 0x0, 0x0, 0x0, false⟩,
    ⟨"DBG_TAMPCNT", 0x48, [], 0x0, 0x0, 0xFFFFFFFF, 0x0, false⟩,
    ⟨"DBG_TAMPSEC", 0x4C, [], 0x0, 0x0, 0x0, 0x0, false⟩,
    ⟨"DBG_TAMPGRN", 0x50, [], 0x0, 0x0, 0x0, 0x0, false⟩,
    ⟨"DBG_RESPk", 0x80, [(0x4, 32)], 0xFFFFFFFF, 0x0, 0x0, 0x0, false⟩ ]

/-! ### GPIO registers (18_pins_electrical.md) -/

def GPIO_CTL : Nat := 0x40170000
def GPIO_DIR : Nat := 0x40170004
def GPIO_OUT : Nat := 0x40170008
def GPIO_OD : Nat := 0x4017000C
def GPIO_IN : Nat := 0x40170010
def GPIO_EDGE : Nat := 0x40170014
def GPIO_FILT : Nat := 0x40170018
def GPIO_STAT : Nat := 0x4017001C
def GPIO_HELDOUT : Nat := 0x40170020
def GPIO_SYSPIN : Nat := 0x40170024

/-- The register table of the GPIO block. -/
def gpioRegs : List RegSpec :=
  [ ⟨"GPIO_CTL", 0x0, [], 0x0, 0x0, 0x0, 0x0, false⟩,
    ⟨"GPIO_DIR", 0x4, [], 0xFFFF, 0x0, 0x0, 0x0, false⟩,
    ⟨"GPIO_OUT", 0x8, [], 0xFFFF, 0x0, 0x0, 0x0, false⟩,
    ⟨"GPIO_OD", 0xC, [], 0xFFFF, 0x0, 0x0, 0x0, false⟩,
    ⟨"GPIO_IN", 0x10, [], 0x0, 0x0, 0x0, 0x0, false⟩,
    ⟨"GPIO_EDGE", 0x14, [], 0xFFFFFFFF, 0x0, 0x0, 0x0, false⟩,
    ⟨"GPIO_FILT", 0x18, [], 0xFF, 0x0, 0x0, 0x5, false⟩,
    ⟨"GPIO_STAT", 0x1C, [], 0x0, 0xFFFF, 0xFFFF0000, 0x0, false⟩,
    ⟨"GPIO_HELDOUT", 0x20, [], 0x0, 0x0, 0x0, 0x0, false⟩,
    ⟨"GPIO_SYSPIN", 0x24, [], 0x0, 0x0, 0xFF, 0x0, false⟩ ]

/-- The table of the block that holds an address of the register space (Table 19-3): the block is address bits
[31:16]. -/
def blockRegs (blk : Nat) : List RegSpec :=
  match blk with
  | 0x4000 => sysRegs
  | 0x4001 => pwrRegs
  | 0x4002 => rtcRegs
  | 0x4003 => timeRegs
  | 0x4004 => seqRegs
  | 0x4005 => cardRegs
  | 0x4006 => subtxRegs
  | 0x4007 => ismRegs
  | 0x4008 => macRegs
  | 0x4009 => qfabRegs
  | 0x400A => fwdRegs
  | 0x400B => schedRegs
  | 0x400C => keysRegs
  | 0x400D => gnssRegs
  | 0x400E => fleetRegs
  | 0x400F => netRegs
  | 0x4010 => hostRegs
  | 0x4011 => logRegs
  | 0x4012 => replayRegs
  | 0x4013 => plankRegs
  | 0x4014 => updRegs
  | 0x4015 => faultRegs
  | 0x4016 => dbgRegs
  | 0x4017 => gpioRegs
  | _ => []

/-- Does offset `d` lie on a repeat of the strides? -/
def onStride : List (Nat × Nat) → Nat → Bool
  | [], d => d == 0
  | (s, n) :: ds, d => d / s < n && onStride ds (d % s)

/-- The table line of an address; `none` for a reserved offset (R6). -/
def findReg (a : Nat) : Option RegSpec :=
  (blockRegs (a / 0x10000)).find? fun r => decide (r.off ≤ a % 0x10000) && onStride r.dims (a % 0x10000 - r.off)

/-- The reset value of the register at an address; 0 at a reserved offset (R6). -/
def regReset (a : Nat) : BitVec 32 :=
  match findReg a with
  | some r => BitVec.ofNat 32 r.reset
  | none => 0

end Sys2Proof.Machine
end

