-- ==== Sys2Proof/Machine/State.lean ====
section
/-!
DEFINITION. Sys2Proof/Machine/State.lean: everything the spec gives the machine, as plain data. Registers live in ONE
sparse table over the register space (`State.regs`), memories in ONE canonical list of (address, byte) pairs
(`State.mem`); what the spec gives a unit beyond its registers is a structure per unit. INVENTORY.md, under `## State`,
lists every piece with its rule.
-/
namespace Sys2Proof.Machine

/-- A sparse table: (index, value) pairs, indices strictly rising, no value equal to what an unlisted index reads as. -/
abbrev Tab (α : Type) := List (Nat × α)

/-- Why a run stops. No command of this block stops the machine: each rule of the spec gives an outcome, so there is no
constructor. -/
inductive Fault where
  deriving DecidableEq, Repr

/-- Why a command is refused. -/
inductive Refusal where
  /-- Raised by an arm of `exec` whose command has no meaning yet; safe, because the machine stops. -/
  | notModelled (mnemonic : String)
  deriving DecidableEq, Repr

/-- An event record before its CRC (Table 17-3). -/
structure LogRec where
  seq : Word
  sec : Word
  grn : Word
  src : Byte
  code : BitVec 16
  a0 : Word
  a1 : Word
  a2 : Word
  sw : Bool
  linked : Bool
  count : Bool
  rtct : Bool
  deriving DecidableEq, Repr

/-! ### Sequencer cores (02) -/

/-- What a core that is WAITING waits for (Table 02-17, R29); each names the register its completion word goes to. -/
inductive Wait where
  /-- TWAIT: target seconds[31:0] and grains (R32). -/
  | twait (gd : Fin 16) (sec grn : Word)
  /-- MWAIT: target cycle and angle, FREEWHEEL, and whether the axis was regained past the target (R32, R81). -/
  | mwait (gd : Fin 16) (cyc : Word) (ang : BitVec 16) (freewheel late : Bool)
  /-- PKTGET with WAIT: the queue (R187). -/
  | pktget (gd : Fin 16) (queue : Nat)
  /-- PKTPUT waiting for a credit: the queue and the descriptor index (R191). -/
  | pktput (gd : Fin 16) (queue index : Nat)
  /-- LOGW until its record is written: the record, and whether it is in the write queue, with its sequence number, or still
  waits for room there (R398). -/
  | logw (gd : Fin 16) (r : LogRec) (queued : Bool)
  /-- MODE until the edge of R17. -/
  | mode (gd : Fin 16) (target : Nat)
  /-- An immediate BLK until its bank is applied (R379). -/
  | blk (gd : Fin 16) (bank : Nat)
  /-- An access of SEQB to the shared scratch while SEQA is in RET (R23). -/
  | scratch
  /-- RESUME until the latch clears (R299). -/
  | resume (gd : Fin 16)
  deriving DecidableEq, Repr

/-- Core state (Table 02-17). -/
inductive RunState where
  | halted | running | wfe | waiting (w : Wait) | retired | loading
  deriving DecidableEq, Repr

/-- The register a wait's completion word goes to; g0 for a wait without one. -/
def Wait.gd : Wait → Fin 16
  | .twait gd _ _ => gd
  | .mwait gd _ _ _ _ => gd
  | .pktget gd _ => gd
  | .pktput gd _ _ => gd
  | .logw gd _ _ => gd
  | .mode gd _ => gd
  | .blk gd _ => gd
  | .scratch => 0
  | .resume gd => gd

/-- What the result latch holds for an interrupted level: a committed instruction still to complete, or its word. -/
inductive Latch where
  | waiting (w : Wait)
  | done (gd : Fin 16) (v : Word)
  deriving DecidableEq, Repr

/-- One armed TARM slot (R33): the next firing, its period (zero once), its line, and the pulse generator it holds. -/
structure TarmSlot where
  sec : Word
  grn : Word
  psec : Word
  pgrn : Word
  line : Fin 32
  pulse : Option (Fin 4)
  deriving DecidableEq, Repr

/-- A store held in the write buffer (R27): address, width in bytes and value. -/
structure BufStore where
  addr : Nat
  width : Nat
  val : Word
  deriving DecidableEq, Repr

/-- One sequencer core (R24, R25, R29, R33, R36, R40, R41). -/
structure Core where
  /-- g0–g15 (R24); g0 is kept zero. -/
  gpr : Vector Word 16
  /-- The L3 bank exchanged with g10–g13 (R24). -/
  l3 : Vector Word 4
  pc : Word
  run : RunState
  /-- STATUS.LEVEL and STATUS.EVEN (Table 02-3). -/
  level : Fin 4
  even : Bool
  evage : Word
  evpend : Word
  evmask : Word
  evlvl0 : Word
  evlvl1 : Word
  evvec : Word
  /-- The line whose handler runs at each level (EVLINE reads the current level's). -/
  evline : Vector (Fin 32) 4
  /-- EPC1–EPC3 and ESTAT1–ESTAT3, index 0 for level 1. -/
  epc : Vector Word 3
  estat : Vector Word 3
  /-- Arrival cycle of each pending line, and NOCLK: the event was held while the domain was not ON (R40, R41). -/
  arrival : Tab (BitVec 64 × Bool)
  /-- Events held by their sources while the domain is not ON, one bit per line (R41). -/
  held : Word
  /-- The 64-bit cycle counter and the CYCHI a read of CYCLO captured. -/
  cyc : BitVec 64
  cychi : Word
  stgmask : Word
  dmasrc : Word
  dmadst : Word
  dmalen : Word
  dmactl : Word
  /-- The 80-bit value latched by TRD (R31): seconds[47:32] is what TRD with func14 1 returns. -/
  trd : BitVec 80
  /-- The result latch of R29, one place for each level that a handler has interrupted (log entry 11). -/
  latch : Vector (Option Latch) 4
  wbuf : List BufStore
  tarm : Vector (Option TarmSlot) 8
  /-- The cycle at which the watchdog was last restarted (R25, Table 02-16). -/
  wdogAt : BitVec 64
  /-- SEQ_STATn.LASTEV. -/
  lastev : Fin 8
  /-- Halted by DBG_HALT, and a single step that DBG_HALT.STEP has asked for (R354). -/
  dbgHalt : Bool
  dbgStep : Bool
  deriving DecidableEq, Repr

/-! ### Network time (03) -/

/-- One time source k (R59, R60): its last commit, and how long it has been valid without a break (R61). -/
structure TimeSrc where
  sec : Int
  ns : Int
  committed : Bool
  valid : Bool
  ageNs : Nat
  validNs : Nat
  deriving DecidableEq, Repr

/-- One pulse generator: its next leading edge while it runs (seconds[31:0], grains), the slot of the core that holds it,
and when the pulse in progress ends on the model's clock (R69, R70). -/
structure PulseGen where
  next : Option (Word × Word)
  slot : Nat
  ends : Option Nat
  deriving DecidableEq, Repr

/-- A snapshot shadow of one agent (R58, R339): the captured words, the words read since, and whether the last release
was by time-out. -/
structure Shadow where
  live : Bool
  words : List Word
  readMask : Nat
  stale : Bool
  deriving DecidableEq, Repr

/-- The TIME block beyond its registers (R53–R87). -/
structure TimeSt where
  /-- Does the counter run? After a cold start it does not until the first RTC tick edge (R82). -/
  running : Bool
  sec : BitVec 48
  grn : Word
  /-- The fraction below the grain, in 2⁻³² grain (R54). -/
  sub : Word
  /-- SEQ cycles since the last TIME edge (R8, R31). -/
  phase : Fin 4
  /-- The residual R in 2⁻³⁸ ns, the unit in which the phase that SLEW applies on an edge is whole (R62; log entry 13). -/
  resid : Int
  /-- The slewed phase in 2⁻³⁸ ns; TIME_PHACC is its whole ns modulo 2³² (R59). -/
  phacc : Int
  /-- An armed step's offset, source, seconds and ns, waiting for the next TIME edge (R63). -/
  step : Option (Nat × Int × Int)
  src : Vector TimeSrc 4
  /-- Has a source been in use since the last cold start (R65)? -/
  everUsed : Bool
  /-- Holdover: E₀, whole seconds since entry, reading at entry and largest departure of the temperature, °C (R66). -/
  e0 : Nat
  hoSec : Nat
  hoTemp : Int
  hoDev : Nat
  /-- The core-die temperature last read, °C (R66). -/
  dieTemp : Int
  /-- TQ_OK has gone low and waits for LOCKED (R67). -/
  tqNeedLock : Bool
  pulse : Vector PulseGen 4
  /-- Snapshot shadows of the TIME group and of the mains group: cores 0–7, host 8, debug port 9. -/
  shadow : Vector Shadow 10
  mshadow : Vector Shadow 10
  /-- The cycle in which the last phase setting stands, and the TIME ticks since (R79). -/
  mCyc0 : Word
  mSince : Nat
  /-- TIME ticks since the last accepted edge (R78). -/
  mEdge : Option Nat
  /-- The last valid intervals in ticks, newest first, at most eight, and the run of valid edges while lost (R79, R80). -/
  mIvals : List Nat
  mRun : Nat
  deriving DecidableEq, Repr

/-! ### Real-time clock (14) -/

/-- The RTC beyond its registers (R337–R345, R450): the trim accumulator in 2⁻²⁴ unit, the elapsed count in 2⁻¹⁶ s, what a
pending commit loads (time, weekday), alarms found past when they were set, and the shadows of both groups for each agent. -/
structure RtcSt where
  acc : Nat
  elapsed : Nat
  commit : Bool × Bool
  late : Vector Bool 2
  shadow : Vector Shadow 10
  tshadow : Vector Shadow 10
  deriving DecidableEq, Repr

/-! ### Power (13) -/

/-- The state of a domain (Table 13-2). -/
inductive PdState where
  | off | ret | on
  deriving DecidableEq, Repr

/-- What keeps a granted or requested entry from proceeding: the DELAY wait of R313, or the WFE of the issuing core that
R36 waits for. -/
inductive DomHold where
  | delay | wfe (c : Fin 8)
  deriving DecidableEq, Repr

/-- One domain of PD1–PD14 (R310–R313). -/
structure Dom where
  /-- The state held, or left while in transition. -/
  state : PdState
  /-- The state last requested. -/
  target : PdState
  /-- In transition (PWR_DOMd_STAT.BUSY). -/
  busy : Bool
  hold : Option DomHold
  /-- PWR_DOMd_STAT.REQ. -/
  req : Fin 16
  /-- PWR_DOMd_STAT.LASTOUT, a status of Table 02-9. -/
  lastOut : Byte
  /-- The entry is the first half of a DOMCYCLE or a reset: the domain comes ON again after it (R389, R319). -/
  again : Bool
  deriving DecidableEq, Repr

/-- The power controller beyond its registers. -/
structure PowerSt where
  /-- PD0–PD14; PD0 is always ON. -/
  dom : Vector Dom 15
  /-- The VBAK cut-off has occurred in this BACKUP (R332), and BAK_LOW was already reported in it (R331). -/
  cutoff : Bool
  bakLowSeen : Bool
  /-- A VIN loss is confirmed and BACKUP has not been left (R325, R333); the restore of R333 is in progress. -/
  backup : Bool
  restoring : Bool
  /-- RTC time at the loss, and at the last WKRX wake, in 2⁻¹⁶ s (R322, R333). -/
  lossRtc : Nat
  wkrxLast : Option Nat
  /-- The wake receiver's decoder is stopped by a jam (R323). -/
  wkrxJam : Bool
  /-- The VIN warning event waits for VIN to rise 0.5 V above THR (R324). -/
  warnHeld : Bool
  /-- The backup switch holds the cell disconnected (R331, R307). -/
  cellOff : Bool
  /-- The elapsed RTC count at the last entry to RET of each domain (R139, R179). -/
  retAt : Vector Nat 15
  deriving DecidableEq, Repr

/-! ### Reports: recorder and fault manager (17) -/

/-- A rate-limited record code and key (R453): events counted since the last record, and the record of the last of them. -/
structure RateLim where
  code : BitVec 16
  key : Nat
  count : Nat
  last : LogRec
  deriving DecidableEq, Repr

/-- An open recovery window beyond FAULT_OPENw (R387, R391): the charged domains, the action under way (0 once it is
complete), and the sequence number of the FAULT record. -/
structure FaultWin where
  cls : Nat
  block : Byte
  doms : List Nat
  action : Nat
  seq : Word
  deriving DecidableEq, Repr

/-- A recovery action that is not complete (R387): the fault, the charged domains, the action, the sequence number and ARG0 of
its FAULT record, the detector's value, and whether the action has been raised one rank. -/
structure FaultAct where
  cls : Nat
  block : Byte
  doms : List Nat
  action : Nat
  seq : Word
  a0 : Word
  value : Word
  raised : Bool
  deriving DecidableEq, Repr

/-- A reset that has been decided and waits for the log queue to drain (R409). -/
structure ResetReq where
  /-- Hardware cause of Table 17-15: 4 RESET_N, 6 warm reset, 7 lifecycle command, 8 revert, 11 VIN return in BOOT. -/
  cause : Nat
  deriving DecidableEq, Repr

/-- An open outage of a service (R394): attributable to the device, and its start on the RTC (2⁻¹⁶ s) and on network time
(grains) where that runs. -/
structure Outage where
  dev : Bool
  rtc : Nat
  net : Option Nat
  deriving DecidableEq, Repr

/-- A journal entry (Tables 17-5, 17-6) with its byte offset in the ring and its 16-byte units. -/
structure JEnt where
  off : Nat
  units : Nat
  jseq : Word
  kind : Nat
  core : Nat
  cyc : Word
  arg : Word
  data : List Word
  deriving DecidableEq, Repr

/-- A checkpoint set (R403, R406): its number, the JSEQ of its first entry, the model's clock, whether a GAP lies after it, the
cores, and the bytes of their scratchpads and reserved banks. -/
structure Ckpt where
  num : Nat
  jseq : Word
  taken : Nat
  gap : Bool
  cores : List (Fin 8 × Core)
  cells : List Host.Cell
  deriving DecidableEq, Repr

/-- The replay engine (R402–R407): the entries in the ring, oldest first; the checkpoint sets they hold, oldest first, and the
next number; entries lost and not yet told of in a GAP entry; the freeze on the model's clock; in REPLAY the entries still to
come, and the LOAD or RESULT that has reached each core and that it has not taken. -/
structure ReplaySt where
  entries : List JEnt
  ckpts : List Ckpt
  ckNum : Nat
  lost : Nat
  frozenAt : Nat
  todo : List JEnt
  input : Tab (Option JEnt)
  deriving DecidableEq, Repr

/-- Recorder, fault manager and availability beyond their registers. -/
structure ReportSt where
  queue : List LogRec
  aon : List LogRec
  rates : List RateLim
  /-- Open windows by index w = 0–7, and the actions under way. -/
  wins : Tab FaultWin
  acts : List FaultAct
  /-- Cursor and END of each agent: cores 0–7, host 8, debug port 9 (R401). -/
  cursor : Vector (Nat × Bool) 10
  reset : Option ResetReq
  /-- The THROTTLE action is in force (R387). -/
  throttle : Bool
  /-- Corrected DRAM words of the last 3,600 s: 4 KB page and RTC second (R388). -/
  ecc : List (Nat × Nat)
  /-- RTC seconds of the warm resets of the last 3,600 s (R390). -/
  warmTimes : List Nat
  /-- The open outage of each service m. -/
  outage : Vector (Option Outage) 3
  /-- The last copy of the availability counters in eMRAM: the counters of service m as OUT_S, OUT_G, EXT_S, EXT_G, when it
  was made (RTC, 2⁻¹⁶ s) and the outages open then (R394). -/
  avCopy : List Word
  avAt : Nat
  avOpen : Vector (Option Outage) 3
  /-- The budget of each service has been passed in this period (R395). -/
  avPassed : Vector Bool 3
  replay : ReplaySt
  deriving DecidableEq, Repr

/-! ### Queue fabric (07) -/

/-- A word of a frame port: 64 data bits, the tag bits SOF, EOF and PA, and the parity bit the write port computed
(R184). -/
structure FWord where
  data : BitVec 64
  sof : Bool
  eof : Bool
  pa : Bool
  parity : Bool
  deriving DecidableEq, Repr

/-- What a read port is discarding: nothing, the rest of a frame that a stray SOF opened (R185), or words after a parity
error (R188). -/
inductive Discard where
  | none | frame | parity
  deriving DecidableEq, Repr

/-- A word as delivered to the consumer, with the cause line: `poison` with `pa` is POISON, else ABORT (R185). -/
structure Delivered where
  data : BitVec 64
  valid : Bool
  sof : Bool
  eof : Bool
  pa : Bool
  poison : Bool
  deriving DecidableEq, Repr

/-- A frame port q (R183–R195): its words oldest first, the producer's credits, credits in transit, whether each side is
inside a frame, the discarding in progress, the mode bits of QFAB_Qq_STAT, and the times of the poisoned words of the
last millisecond (R189). -/
structure Port where
  words : List FWord
  cred : Nat
  transit : Nat
  wIn : Bool
  rIn : Bool
  disc : Discard
  bp : Bool
  cpend : Bool
  noaud : Bool
  poison : List Nat
  out : Delivered
  /-- Leading words that came through the hold buffer of a microcode swap, whose credits are back already (R371). -/
  held : Nat
  /-- Words that the producer holds because it has no credit (R190). -/
  wait : List FWord
  /-- The data of the frame the consumer is receiving, or received last, oldest word first (R185). -/
  frame : List (BitVec 64)
  deriving DecidableEq, Repr

/-- A descriptor queue d (R183, R191): indices with their parity-error mark, credits, and mode bits. -/
structure DescQ where
  items : List (Nat × Bool)
  cred : Nat
  bp : Bool
  cpend : Bool
  deriving DecidableEq, Repr

/-- A frame fetch held for a TX token (R196): the command's T, its chain and its number. -/
structure HeldFetch where
  sec : Word
  grn : Word
  chain : Fin 3
  cmd : Nat
  deriving DecidableEq, Repr

/-- The queue fabric beyond its registers. -/
structure QfabSt where
  ports : Tab Port
  dq : Tab DescQ
  /-- Lane tokens in use, one bit per lane; TX and CH tokens in use (R196). -/
  lane : BitVec 64
  tx : Nat
  ch : Nat
  /-- The hold buffer of a microcode swap: port and word, oldest first, at most 2,048 words (R371). -/
  hold : List (Nat × FWord)
  /-- Ports whose SOF is held, and fetches held. -/
  heldCh : List Nat
  heldTx : List HeldFetch
  deriving DecidableEq, Repr

/-! ### Reception (04) -/

/-- A receive path beyond its registers (R88, R108, R109): its state without blanking (0 OFF, 1 CAL, 2 RUN, 3 RETUNE,
5 DRAIN, 6 MAPPED_OUT), the target of a DRAIN (2 CAL, 3 MAPOUT), blanking in progress, its T/R switch asserted, and when it
was last calibrated on the model's clock. -/
structure RxPath where
  st : Nat
  target : Nat
  blank : Bool
  trsw : Bool
  calAt : Option Nat
  deriving DecidableEq, Repr

/-- A qualifier (R96): idle, correlating, or searching for an SFD at a rate. -/
inductive QualSt where
  | idle | corr | sfd (rate : Fin 4)
  deriving DecidableEq, Repr

/-- The frame a lane demodulates (R98–R103): channel, rate, coded SFD, 400 kHz, TAG, window, TOFF, when it was allocated on
the model's clock; once its PHR is decoded the flags MS, FCS type and DW, the length and the measurements FOFF, RSSI and
LQ; and the evaluations below the threshold in a row. -/
structure RxFrame where
  ch : Nat
  rate : Fin 4
  fec : Bool
  w400 : Bool
  tag : Word
  win : Nat
  toff : BitVec 16
  since : Nat
  phr : Option (Nat × Nat × BitVec 16 × BitVec 12 × Nat)
  below : Nat
  deriving DecidableEq, Repr

/-- A receive window (R106, R107): open time, duration in ns, rate mask, ONE, completion line and its enable, the core that
armed it, and whether it has received or starved a frame. Its state, channel and TAG are in CARD_RXWINw. -/
structure RxWin where
  sec : Word
  grn : Word
  dur : Word
  rates : Nat
  one : Bool
  line : Fin 32
  event : Bool
  core : Fin 8
  got : Bool
  starved : Bool
  deriving DecidableEq, Repr

/-- The CARD block beyond its registers. -/
structure RxSt where
  path : Vector RxPath 2
  /-- Evaluations of each detector since its floor restarted, at most 256 (R94). -/
  evals : Tab Nat
  /-- Evaluations in a row at or above the threshold (R95). -/
  above : Tab Nat
  qual : Tab QualSt
  lane : Tab (Option RxFrame)
  /-- The TAG of the next allocation, the lane the next self-check starts from, and the windows. -/
  tag : Word
  scNext : Nat
  win : Tab (Option RxWin)
  deriving DecidableEq, Repr

/-! ### Transmission (05) -/

/-- Who sent a transmit command: a core's TXQ with its completion line, whether it is raised, CREC and TAG; the MAC's
beacon, poll, broadcast or wake entry; an Enh-Ack with its node and DSN; the fleet engine's GO and stop frames. -/
inductive TxSrc where
  | core (c : Fin 8) (line : Fin 32) (event : Bool) (crec : Word) (tag : Nat)
  | mac
  | ack (node dsn : Nat)
  | go (seq : Nat)
  | stop (n : Nat)
  deriving DecidableEq, Repr

/-- A transmit command of a chain (Table 05-2): T, LATEMAX in µs, class STOP, entry, power, rate, coding, preamble, TARGET,
the frame, key selection and counter, its place in the order of acceptance, and what has become of it: its frame is fetched,
it was displaced by an ACK or STOP, its carrier offset, and DEMOTED; and the TAG it shows. -/
structure TxCmd where
  src : TxSrc
  tag : Nat
  sec : Word
  grn : Word
  lateMax : Nat
  stop : Bool
  entry : Nat
  power : Int
  rate : Nat
  fec : Bool
  uni : Bool
  pre : Nat
  target : Word
  frame : TxFrame
  ksel : Nat
  ctr : Nat
  order : Nat
  fetched : Bool
  displaced : Bool
  off : Int
  demoted : Bool
  deriving DecidableEq, Repr

/-- The command that a synthesiser serves: its air start A once known, its band, whether listen-before-talk has found the
channel clear, and once it is on air when its ramp began on the model's clock, the µs charged so far, and the clip detail
and the power applied. -/
structure TxRun where
  cmd : TxCmd
  a : Option Nat
  band : Nat
  clear : Bool
  ramp : Option Nat
  charged : Nat
  clip : Nat
  power : Int
  deriving DecidableEq, Repr

/-- A chain with its synthesiser (R117–R127): TXA, TXB, TXI. Commands accepted; the one served; the acceptance count; the
LATE detail that a wait for the synthesiser has (1 calibration, 4 an ACK or STOP, 5 an earlier command); the CALREQ entry;
the last background calibration; TRSW_x, PA_EN_x, PA_BIAS_x and the driver level. -/
structure TxChain where
  queue : List TxCmd
  run : Option TxRun
  order : Nat
  wait : Nat
  calreq : Option Nat
  lastBg : Nat
  trsw : Bool
  paEn : Bool
  bias : Nat
  drv : Int
  deriving DecidableEq, Repr

/-- The duty account of a band (R135, R139): the current bucket, the 360 before it (newest first), both in µs, and the closed
buckets as last written to eMRAM. -/
structure Duty where
  cur : Nat
  hist : List Nat
  saved : List Nat
  deriving DecidableEq, Repr

/-- SUBTX and ISM beyond their registers. -/
structure TxSt where
  chain : Vector TxChain 3
  duty : Vector Duty 8
  /-- RTC seconds of the last bucket boundary written, for SUBTX and ISM. -/
  savedAt : Vector Nat 2
  /-- The image is being fused (R138). -/
  fusing : Bool
  deriving DecidableEq, Repr

/-! ### Mesh access (06) -/

/-- An entry of the deferred list: node, DSN, decision time on the model's clock, and the beacons it has been in (R161). -/
structure Deferred where
  node : Nat
  dsn : Nat
  since : Nat
  beacons : Nat
  deriving DecidableEq, Repr

/-- An expectation window: node, path, E and the window in grains of network time, and whether a contact fell in it
(R164, R165). -/
structure ExpWin where
  node : Nat
  path : Nat
  e : Nat
  lo : Nat
  hi : Nat
  contact : Bool
  deriving DecidableEq, Repr

/-- A frame that has passed the MAC's filter and waits for its decision (R151, R159): its fields, its node, and whether its
key index names the node's next epoch. -/
structure RxHead where
  frame : MlpFrame
  node : Option Nat
  next : Bool
  key : Bool
  deriving DecidableEq, Repr

/-- What became of the last frame decided: its port, the outcome of Table 06-8 (0 NEW, 1 DUP, 2 REPLAY, 3 MICFAIL, 4 FCS, 5
dropped before), whether it is delivered, and the mark FULL of a refused join (R177). -/
structure MacOut where
  port : Nat
  outcome : Nat
  delivered : Bool
  full : Bool
  deriving DecidableEq, Repr

/-- What a frame that the MAC has built carries in its MLP IE (Tables 06-2, 06-3): the beacon of slot `slot` with the time
after its SFD, BFLG and NACK entries of node and DSN; a poll; a broadcast with ORIGIN and SEQ; an Enh-Ack with its pending bit
and TCORR; a wake frame. -/
inductive MacFrame where
  | beacon (chain slot : Nat) (sec grn : Word) (bflg : Nat) (nack : List (Nat × Nat))
  | poll (chain node offset lastDsn maxLen : Nat)
  | broadcast (flood : Option (Nat × Nat))
  | enhAck (node dsn : Nat) (pending : Bool) (tcorr : BitVec 16)
  | wake (addr repeats : Nat)
  deriving DecidableEq, Repr

/-- A chain that runs: its start in seconds of network time, its bank, and whether it is a resynchronisation chain on each
path (R153, R155, R168). -/
structure ChainRun where
  start : Nat
  bank : Nat
  rs : Vector Bool 2
  deriving DecidableEq, Repr

/-- The MAC beyond its registers. -/
structure MacSt where
  /-- The chain in progress and the one before it. -/
  chain : Option ChainRun
  prev : Option ChainRun
  /-- The last frame the MAC built on each path. -/
  built : Vector (Option MacFrame) 2
  deferred : List Deferred
  lost : List Nat
  /-- The seen-cache, oldest first: origin, sequence, insertion on the model's clock (R170). -/
  seen : List (Nat × Nat × Nat)
  /-- Wake addresses sent, with the end of the wake frame in grains (R158). -/
  wakes : List (Nat × Nat)
  wins : List ExpWin
  /-- Contexts in QUARANTINE with the start of it on the model's clock (R177). -/
  quar : Tab Nat
  /-- Frames filtered and not decided, and the SFD instant of the last frame, by port. -/
  head : Tab (Option RxHead)
  sfd : Tab Nat
  out : Option MacOut
  /-- A BACKUP has been left and the first chain after it has not started (R169). -/
  backupExit : Bool
  deriving DecidableEq, Repr

/-! ### Forwarding (08) -/

/-- A prefix of the shadow (R204): the address with the bits below its length zero, the length, the result. -/
structure Pfx where
  addr : BitVec 128
  len : Nat
  res : Nat
  deriving DecidableEq, Repr

/-- A key of an exact-match table with its node and bucket; `none` in the overflow array (R209). -/
structure EmKey where
  key : Nat
  node : Nat
  bucket : Option Nat
  deriving DecidableEq, Repr

/-- A bridge entry (R211). -/
structure BrEnt where
  mac : BitVec 48
  vid : Nat
  port : Nat
  static : Bool
  stamp : BitVec 16
  deriving DecidableEq, Repr

/-- A prefix command in progress: its FWD_PFXSTAT and FWD_PFXRES at completion, the tables its switch edge brings, and the trie
before it (R207, R218); and whether it is REBUILD. -/
structure PfxCmd where
  status : Word
  res : Word
  shadow : List Pfx
  trie : List Pfx
  undo : List Pfx
  rebuild : Bool
  deriving DecidableEq, Repr

/-- Where the packet engine sends a frame: a frame port of Table 07-1, a descriptor queue, the scheduler's egress e for a
node, or the router side of the packet engine. -/
inductive Dest where
  | port (q : Nat)
  | queue (d : Nat)
  | egress (e node : Nat)
  | router
  deriving DecidableEq, Repr

/-- FWD beyond its registers: the shadow in DRAM, the prefixes the trie holds, the exact-match tables (EUI-64, short), the
bridge table by index, the prefix command in progress, the ticks of the current ageing second, the RTC time at the entry to
RET, and where the last frame went. -/
structure FwdSt where
  shadow : List Pfx
  trie : List Pfx
  em : Vector (List EmKey) 2
  br : Tab (Option BrEnt)
  cmd : Option PfxCmd
  ticks : Nat
  retAt : Nat
  dest : List Dest
  deriving DecidableEq, Repr

/-! ### Scheduling (09) -/

/-- A frame queued in a flow: its descriptor, scheduler word 0, AIRB, and its arrival on the model's clock (R221, R228). -/
structure SFrame where
  desc : Nat
  word0 : Word
  airb : Nat
  since : Nat
  deriving DecidableEq, Repr

/-- A flow beyond its registers (R222–R227): bound, bound by R222, its frames oldest first, S and FL, when it became IDLE or
ASLEEP and when it last woke on the model's clock, and the counts of SCHED_FLOWWINw. -/
structure Flow where
  bound : Bool
  auto : Bool
  frames : List SFrame
  start : Word
  fl : Word
  since : Nat
  woke : Option Nat
  sent : Nat
  qfull : Nat
  aged : Nat
  deriving DecidableEq, Repr

/-- A shaper (R229, R230): the CFG and BURST in force and its tokens in 2⁻¹⁶ air byte. -/
structure Shaper where
  cfg : Word
  burst : Nat
  tok : Int
  deriving DecidableEq, Repr

/-- A policer (R232): both buckets in 2⁻¹⁶ byte, its last frame on the model's clock, and its counts. -/
structure Policer where
  tc : Nat
  tp : Nat
  last : Nat
  green : Nat
  yellow : Nat
  red : Nat
  deriving DecidableEq, Repr

/-- SCHED beyond its registers: flows, shapers, policers, the largest F selected on each egress, a sweep of PEND.COUNT due
(R236), and the RTC time at the entry to RET. -/
structure SchedSt where
  flow : Tab Flow
  shp : Tab Shaper
  pol : Tab Policer
  maxF : Vector Word 4
  sweepDue : Bool
  retAt : Nat
  deriving DecidableEq, Repr

/-! ### GNSS (11) -/

/-- A GNSS channel beyond its registers (R270–R273): its last Doppler in Hz, whether its queued search is aided by it, when
its phase lock began on the model's clock, a slip since the last epoch, whether its last navigation message passed, whether
its time of week is the one of TXT, and the 20 ms coherent interval. -/
structure GnssCh where
  dop : Int
  aided : Bool
  lockAt : Nat
  slip : Bool
  navok : Bool
  byTxt : Bool
  coh20 : Bool
  deriving DecidableEq, Repr

/-- The GNSS receiver beyond its registers: the acquisition queue and the channel searched, the coordinate registers as eMRAM
holds them (R278), and when SPOOF rose and the survey began on the model's clock. -/
structure GnssSt where
  queue : List Nat
  search : Option Nat
  ch : Tab GnssCh
  ref : List Word
  spoofAt : Nat
  surveyAt : Nat
  deriving DecidableEq, Repr

/-! ### Fleet (12) -/

/-- A reservation, requested or held (R291–R293): times in grains, seconds[31:0]:grains. -/
structure Resv where
  seg : Nat
  slot : Nat
  prio : Nat
  reqid : Nat
  start : Nat
  stop : Nat
  deriving DecidableEq, Repr

/-- A result of a reservation request (FLEET_RESRES0, FLEET_RESRES1). -/
structure ResResult where
  result : Nat
  slot : Nat
  winner : Nat
  reqid : Nat
  index : Nat
  deriving DecidableEq, Repr

/-- A task (R295): state 1 QUEUED or 2 DISPATCHED (to `slot`), 4 FAILED after a slot was freed; `order` counts ADDs. -/
structure Task where
  state : Nat
  target : Nat
  prio : Nat
  body : Word
  order : Nat
  slot : Nat
  deriving DecidableEq, Repr

/-- A GO frame given to its chains (R296): SEQ, the chains still to answer, whether one has sent it, whether one has failed,
and the completion record word 0 of a failure. -/
structure GoRun where
  seq : Nat
  left : Nat
  ok : Bool
  fail : Bool
  word0 : Word
  deriving DecidableEq, Repr

/-- What the last GO or stop frame carries (Table 12-1). -/
inductive FleetOut where
  | go (seq period episode corrAge : Nat) (hold : BitVec 64)
  | stop (cause episode : Nat) (lsec lgrn : Word) (num : Nat) (rtct : Bool) (station : Nat)
  deriving DecidableEq, Repr

/-- A RESUME that has passed its checks and clears the latch on the next AON edge (R299): the core, its result register or
the mailbox request it answers, and the key object. -/
structure ClearReq where
  core : Fin 8
  gd : Fin 16
  svc : Option Word
  key : Nat
  deriving DecidableEq, Repr

/-- The fleet engine and the AON stop inputs beyond their registers. -/
structure FleetSt where
  /-- Requests in order of submission, reservations by index, results oldest first (R292, R293). -/
  pend : List Resv
  held : Tab Resv
  results : List ResResult
  tasks : Tab Task
  taskOrder : Nat
  /-- GOBASE in network seconds, set by the GO enable (R296), the instant of the last GO in grains, the GO frames that their
  chains have not all answered, and the failures in a row. -/
  goBase : Option Nat
  goLast : Option Nat
  goRuns : List GoRun
  goFails : Nat
  /-- Network time of the last CORR frame sent, grains (R296). -/
  corrAt : Option Nat
  /-- The last stop frame of the episode that was sent, and the last frame the generators built. -/
  genLast : Option Nat
  built : Option FleetOut
  /-- RTC time at the entry to RET. -/
  retAt : Nat
  /-- AON edges on which both stop inputs have been high without a break, at most 2³² − 1 ms of them (R299). -/
  high : Nat
  /-- A RESUME whose clear is due on the next AON edge. -/
  clear : Option ClearReq
  /-- The episode in which STOP_STUCK was last recorded for each input (R297). -/
  stuckEp : Vector (Option Nat) 2
  deriving DecidableEq, Repr

/-! ### Keys (10) -/

/-- A key object that is not EMPTY (Table 10-2), with its key material in octets. State 1 VALID, 2 INVALID, 3 ORPHAN. -/
structure KeyObj where
  typ : Nat
  state : Nat
  mask : Nat
  dout : Nat
  verify : Bool
  auth : Bool
  exportable : Bool
  depth : Nat
  parent : Nat
  mat : List Byte
  deriving DecidableEq, Repr

/-- A loaded key: its source object (the group object when derived), whether it is derived, and the key (R241, R242). -/
structure KeyVal where
  src : Nat
  derived : Bool
  key : BitVec 128
  deriving DecidableEq, Repr

/-- A KEYS command in progress: which, its completion, the object, and the store as it was before it. -/
structure KeyCmd where
  cmd : Nat
  status : Nat
  detail : Nat
  obj : Nat
  undo : Tab KeyObj × Word
  deriving DecidableEq, Repr

/-- The key store, engines and counters beyond their registers. -/
structure KeysSt where
  objs : Tab KeyObj
  /-- The store salt of the device area, and whether the SEK derived from it at BOOT is held (R239). -/
  salt : BitVec 128
  sek : Bool
  cmd : Option KeyCmd
  /-- The working key registers of engines 0–4 (R241). -/
  wkr : Vector (Option KeyVal) 5
  /-- Key slots: lanes 0–63, TX 64–79, CH 80–95, cores 96–103 (R242). -/
  slots : Tab KeyVal
  /-- The group-key cache: object and the use count of its last use (R246). -/
  gcache : Vector (Option (Nat × Nat)) 8
  gUse : Nat
  /-- When the grant in KEYS_AUTHSTAT was given, on the model's clock (R261). -/
  grantAt : Nat
  /-- Device counters (2³² once exhausted), their checkpoints, and those restored since the last event of R253. -/
  devCtr : Tab Nat
  devCkpt : Tab Word
  devRest : Tab Bool
  /-- Node counter checkpoints and the restored bitmap (R252, R253). -/
  nodeCkpt : Tab Word
  nodeRest : Tab Bool
  /-- Nodes whose FCOUT has consumed 0xFFFF_FFFF under their epoch (R251). -/
  nodeExh : Tab Bool
  /-- Zeroization: 0 none, 1 after step 1, 2 after step 2; its cause and source for the record (R257). -/
  zero : Nat
  zeroCause : Nat
  zeroSrc : Nat
  deriving DecidableEq, Repr

/-! ### Lifecycle, tamper and debug (15) -/

/-- The TAP instruction in force (R353, R354, R438). -/
inductive Tap where
  | bypass | idcode | sample | extest | dbgacc
  deriving DecidableEq, Repr

/-- How the last DBGACC access completed (R359). -/
inductive AccStatus where
  | ok | denied | paused | domoff
  deriving DecidableEq, Repr

/-- Lifecycle fuses, tamper and the debug port beyond their registers. -/
structure DbgSt where
  /-- The fuse programming in progress: a command of R349, or 0 for the ZEROIZED group of a tamper (R351). -/
  lcCmd : Option Nat
  /-- A lifecycle state fused that holds from the BOOT that follows (R350). -/
  lcNew : Option Nat
  /-- RTC seconds of the last RMA authorisation that completed OK (R349). -/
  rmaAt : Option Nat
  /-- The owner key hash, as fused (R349). -/
  owner : BitVec 256
  /-- An opening in progress: level, KSEL, MASK (R355). -/
  opening : Option (Nat × Bool × Word)
  /-- When the lockout in force began, on the elapsed RTC count (R355). -/
  lockAt : Nat
  /-- CRYP has passed through OFF since HALTBLK was set (R357). -/
  crypOff : Bool
  /-- The lifecycle state at the latched tamper, for its record (Table 17-15). -/
  tampLc : Nat
  tap : Tap
  acc : AccStatus
  deriving DecidableEq, Repr

/-! ### Update (16) -/

/-- What the completion of a UPD command still does (R366): nothing, or the bit of a piece: target, stream and index. -/
inductive UpdFin where
  | none | piece (t stream idx : Nat)
  deriving DecidableEq, Repr

/-- A UPD command in progress: its completion, and the mailbox request it serves (R52). -/
structure UpdCmd where
  status : Nat
  detail : Nat
  result : Nat
  fin : UpdFin
  svc : Option (Fin 8 × Word)
  deriving DecidableEq, Repr

/-- A settings block: its offset in the settings area, ID, VER, GEN and body length (R374); its octets are in memory. -/
structure SetBlk where
  off : Nat
  id : Nat
  ver : Nat
  gen : Nat
  len : Nat
  deriving DecidableEq, Repr

/-- A mailbox UPDATE ACTIVATE under way (R52): the core that serves it, its request header, and the step it waits in. -/
structure ActSvc where
  core : Fin 8
  head : Word
  step : Nat
  deriving DecidableEq, Repr

/-- The UPD block beyond its registers. -/
structure UpdSt where
  cmd : Option UpdCmd
  /-- Bits of the list and image pieces received, by target (R366). -/
  listBits : Vector (Tab Bool) 6
  imgBits : Vector (Tab Bool) 6
  /-- Erased-sector bits of each slot, and its in-progress word: stream and index (R365, R366). -/
  erased : Vector (Tab Bool) 2
  inprog : Vector (Option (Nat × Nat)) 2
  /-- Lengths of the verified images, by entry (R368). -/
  verLen : Vector Nat 8
  /-- The verified entry staged as the bundle of MODE ACTIVATE (R370). -/
  bundle : Option Nat
  /-- Header address of the program being loaded onto each core (R50). -/
  swap : Vector (Option Nat) 8
  /-- Scope-1 and scope-2 pauses in progress (R370). -/
  pktPause : Bool
  gnssPause : Bool
  settings : List SetBlk
  /-- The reset of a revert that awaits its 10 s (R373). -/
  revertDue : Bool
  activate : Option ActSvc
  deriving DecidableEq, Repr

/-- The Plank beyond its registers, by bank (R379, R381): an immediate BLK is being prepared; the time to apply lies before
the end of preparation; the BLK was the host's. -/
structure PlankSt where
  imm : Vector Bool 2
  late : Vector Bool 2
  host : Vector Bool 2
  deriving DecidableEq, Repr

/-! ### Ethernet and host interfaces (03, 18) -/

/-- A PTP event frame committed to an egress pipeline that still awaits an insertion (R76): its octets without FCS, where its
PTP message begins, and when its transmit stamp event arrived on the model's clock. -/
structure PtpFrame where
  octets : List Byte
  off : Nat
  since : Nat
  deriving DecidableEq, Repr

/-- What became of the last frame received on a port: dropped by its policer, the DSCP it was given, its stamp lost (R75, R234). -/
structure EthRx where
  dropped : Bool
  dscp : Option Nat
  unstamped : Bool
  deriving DecidableEq, Repr

/-- NET beyond its registers: by port, the frames that await an insertion, oldest first, the last frame sent with its FCS, and
the last frame received; and the MDIO frame in progress: OP, PHY, REG. -/
structure NetSt where
  wait : Vector (List PtpFrame) 2
  out : Vector (List Byte) 2
  rx : Vector (Option EthRx) 2
  mdio : Option (Nat × Nat × Nat)
  deriving DecidableEq, Repr

/-- What the device last wrote into a ring entry (Table 18-15): the ring, the entry, TRUNC, ERR, LEN and INDEX. -/
structure RingOut where
  ring : Nat
  entry : Nat
  trunc : Bool
  err : Bool
  len : Nat
  index : Nat
  deriving DecidableEq, Repr

/-- HOST and the pins beyond their registers: the PCI Express link (0 down, 1 L0, 2 L1, 3 L2), the UART FIFOs oldest first, when
the byte on the line ends on the model's clock and the last byte sent, the last ring entry written, RESET_N confirmed low,
RSTOUT_N and QSC_RST_N driven low, UART recovery in progress, and the bundle it has received (R421–R423, R434, R437). -/
structure HostSt where
  link : Nat
  uartTx : List Byte
  uartRx : List Byte
  txDone : Nat
  uartOut : Option Byte
  entry : Option RingOut
  resetLow : Bool
  rstout : Bool
  recovery : Bool
  bundle : List Byte
  deriving DecidableEq, Repr

/-! ### Modes and services (01, 02) -/

/-- A MODE in its 2 µs before the change edge (R17): the core, its result register, the target, and the mailbox request it
serves (R52) in place of an instruction. -/
structure ModeReq where
  core : Fin 8
  gd : Fin 16
  target : Nat
  svc : Option (Fin 8 × Word)
  deriving DecidableEq, Repr

/-- The whole machine. -/
structure State where
  /-- Commands that wait, first in, first out: the host's queue, no part of the spec. -/
  pending : List Instr
  /-- The model's own counter of free values (log entry 2), no part of the spec. -/
  free : Nat
  /-- The model's own clock, ns since it began: one SEQ cycle for each idle step (log entry 10), no part of the spec. -/
  clock : Nat
  /-- The word that the last register read by a command returned to its agent (R446), no part of the spec's state. -/
  bus : Word
  /-- Registers: address and value; an unlisted address reads `regReset`. -/
  regs : Tab Word
  /-- All byte memories at the addresses of Table 19-1 (scratchpads at the debug port's addresses). -/
  mem : List Host.Cell
  cores : Vector Core 8
  time : TimeSt
  rtc : RtcSt
  power : PowerSt
  rep : ReportSt
  qfab : QfabSt
  rx : RxSt
  tx : TxSt
  mac : MacSt
  fwd : FwdSt
  sched : SchedSt
  gnss : GnssSt
  fleet : FleetSt
  keys : KeysSt
  dbg : DbgSt
  upd : UpdSt
  plank : PlankSt
  net : NetSt
  host : HostSt
  /-- The mode change that is within its 2 µs (R16, R17). -/
  modeReq : Option ModeReq
  deriving DecidableEq, Repr

/-! ### Reset values -/

/-- A core after a reset: special registers at their reset values (Table 02-3), HALTED (R44; its general registers, for which
R44 gives none, are zero: log entry 36). -/
def coreReset : Core :=
  { gpr := Vector.replicate 16 0, l3 := Vector.replicate 4 0, pc := 0x01000000, run := .halted, level := 0, even := false
    evage := 0, evpend := 0, evmask := 0, evlvl0 := 0, evlvl1 := 0, evvec := 0, evline := Vector.replicate 4 0
    epc := Vector.replicate 3 0, estat := Vector.replicate 3 0, arrival := [], held := 0, cyc := 0, cychi := 0
    stgmask := 0xFFFFFFFF, dmasrc := 0, dmadst := 0, dmalen := 0, dmactl := 0, trd := 0, latch := Vector.replicate 4 none
    wbuf := [], tarm := Vector.replicate 8 none, wdogAt := 0, lastev := 0, dbgHalt := false
    dbgStep := false }

/-- A domain that is OFF and was never requested. -/
def domReset : Dom :=
  { state := .off, target := .off, busy := false, hold := none, req := 0, lastOut := 0, again := false }

/-- A snapshot shadow that nothing has captured. -/
def shadowReset : Shadow := ⟨false, [], 0, false⟩

/-- TIME after a reset: the counter holds 0 and does not run until the first RTC tick edge after TIME is ON (R82). -/
def timeReset : TimeSt :=
  { running := false, sec := 0, grn := 0, sub := 0, phase := 0, resid := 0, phacc := 0, step := none
    src := Vector.replicate 4 ⟨0, 0, false, false, 0xFFFFFF * 1000000, 0⟩
    everUsed := false, e0 := 0, hoSec := 0, hoTemp := 0, hoDev := 0, dieTemp := 0, tqNeedLock := true
    pulse := Vector.replicate 4 ⟨none, 0, none⟩, shadow := Vector.replicate 10 shadowReset
    mshadow := Vector.replicate 10 shadowReset, mCyc0 := 0, mSince := 0, mEdge := none, mIvals := [], mRun := 0 }

/-- A transmit chain with nothing to send, its background calibration about to start anew. -/
def chainReset : TxChain :=
  { queue := [], run := none, order := 0, wait := 1, calreq := none, lastBg := 1023, trsw := false, paEn := false, bias := 0
    drv := 0 }

/-- The machine right after AON power-on reset (R309, R319): every domain OFF, every core HALTED, mode BOOT, every register at
`regReset`. What the part keeps in eMRAM and fuses is as it left the factory (log entry 1). -/
def State.reset : State :=
  { pending := [], free := 0, clock := 0, bus := 0, regs := [], mem := []
    cores := Vector.replicate 8 coreReset
    time := timeReset
    rtc := { acc := 0, elapsed := 0, commit := (false, false), late := Vector.replicate 2 false
             shadow := Vector.replicate 10 shadowReset, tshadow := Vector.replicate 10 shadowReset }
    power := { dom := (Vector.replicate 15 domReset).set 0 { domReset with state := .on, target := .on }
               cutoff := false, bakLowSeen := false, backup := false, restoring := false, lossRtc := 0, wkrxLast := none
               wkrxJam := false, warnHeld := false, cellOff := false, retAt := Vector.replicate 15 0 }
    rep := { queue := [], aon := [], rates := [], wins := [], acts := [], cursor := Vector.replicate 10 (0, false)
             reset := none, throttle := false, ecc := [], warmTimes := [], outage := Vector.replicate 3 none
             avCopy := List.replicate 12 0, avAt := 0, avOpen := Vector.replicate 3 none
             avPassed := Vector.replicate 3 false
             replay := { entries := [], ckpts := [], ckNum := 0, lost := 0, frozenAt := 0, todo := [], input := [] } }
    qfab := { ports := [], dq := [], lane := 0, tx := 0, ch := 0, hold := [], heldCh := [], heldTx := [] }
    rx := { path := Vector.replicate 2 ⟨0, 2, false, false, none⟩, evals := [], above := [], qual := [], lane := [], tag := 0
            scNext := 0, win := [] }
    tx := { chain := Vector.replicate 3 chainReset, duty := Vector.replicate 8 ⟨0, [], []⟩, savedAt := Vector.replicate 2 0
            fusing := false }
    mac := { chain := none, prev := none, built := Vector.replicate 2 none, deferred := [], lost := [], seen := [], wakes := []
             wins := [], quar := [], head := [], sfd := [], out := none, backupExit := false }
    fwd := { shadow := [], trie := [], em := Vector.replicate 2 [], br := [], cmd := none, ticks := 0, retAt := 0, dest := [] }
    sched := { flow := [], shp := [], pol := [], maxF := Vector.replicate 4 0, sweepDue := true, retAt := 0 }
    gnss := { queue := [], search := none, ch := [], ref := List.replicate 7 0, spoofAt := 0, surveyAt := 0 }
    fleet := { pend := [], held := [], results := [], tasks := [], taskOrder := 0, goBase := none, goLast := none, goRuns := []
               goFails := 0, corrAt := none, genLast := none, built := none, retAt := 0, high := 0, clear := none
               stuckEp := Vector.replicate 2 none }
    keys := { objs := [], salt := 0, sek := false, cmd := none, wkr := Vector.replicate 5 none, slots := []
              gcache := Vector.replicate 8 none, gUse := 0, grantAt := 0, devCtr := [], devCkpt := [], devRest := []
              nodeCkpt := [], nodeRest := [], nodeExh := [], zero := 0, zeroCause := 0, zeroSrc := 0 }
    dbg := { lcCmd := none, lcNew := none, rmaAt := none, owner := 0, opening := none, lockAt := 0, crypOff := false
             tampLc := 0, tap := .idcode, acc := .ok }
    upd := { cmd := none, listBits := Vector.replicate 6 [], imgBits := Vector.replicate 6 []
             erased := Vector.replicate 2 [], inprog := Vector.replicate 2 none, verLen := Vector.replicate 8 0, bundle := none
             swap := Vector.replicate 8 none, pktPause := false, gnssPause := false, settings := [], revertDue := false
             activate := none }
    plank := { imm := Vector.replicate 2 false, late := Vector.replicate 2 false, host := Vector.replicate 2 false }
    net := { wait := Vector.replicate 2 [], out := Vector.replicate 2 [], rx := Vector.replicate 2 none, mdio := none }
    host := { link := 0, uartTx := [], uartRx := [], txDone := 0, uartOut := none, entry := none, resetLow := false
              rstout := true, recovery := false, bundle := [] }
    modeReq := none }

end Sys2Proof.Machine
end

