-- ==== Sys2Proof/Machine/Ops.lean ====
section
/-!
DEFINITION. Sys2Proof/Machine/Ops.lean: the named operations over the sparse tables, the register space, the byte
memory and the cores that every meaning is written in. Register access by an agent, with its access codes and side
effects, is in RegWrite.lean; here a register is read and written raw, as the hardware itself does.
-/
namespace Sys2Proof.Machine

/-! ### Sparse tables -/

/-- What index `k` of a table reads as; `d` gives the unlisted ones. -/
def tabGet {α : Type} (d : Nat → α) : Tab α → Nat → α
  | [], k => d k
  | (i, v) :: t, k => if i = k then v else tabGet d t k

/-- Index `k` unlisted. -/
def tabErase {α : Type} (t : Tab α) (k : Nat) : Tab α := t.filter fun e => e.1 != k

/-- Index `k` listed with `v`, at its place in the rising order. -/
def tabPut {α : Type} : Tab α → Nat → α → Tab α
  | [], k, v => [(k, v)]
  | (i, w) :: t, k, v =>
    if k < i then (k, v) :: (i, w) :: t else if k = i then (k, v) :: t else (i, w) :: tabPut t k v

/-- Write index `k`, keeping the canonical form: rising indices, no entry equal to what it would read as unlisted. -/
def tabSet {α : Type} [DecidableEq α] (d : Nat → α) (t : Tab α) (k : Nat) (v : α) : Tab α :=
  if v = d k then tabErase t k else tabPut t k v

/-- The canonical form of a table: strictly rising indices. -/
def tabRising {α : Type} : Tab α → Bool
  | [] => true
  | [_] => true
  | a :: b :: t => decide (a.1 < b.1) && tabRising (b :: t)

/-- The canonical form: strictly rising, and no entry equal to what its index reads as when unlisted. -/
def tabWf {α : Type} [DecidableEq α] (d : Nat → α) (t : Tab α) : Bool :=
  tabRising t && t.all fun e => decide (e.2 ≠ d e.1)

/-- The rows of a table outside the indices `p`, which so read as unlisted again. -/
def tabDrop {α : Type} (p : Nat → Bool) (t : Tab α) : Tab α := t.filter fun e => !p e.1

/-! ### Bit fields -/

/-- Bits [hi:lo] of a word as a number (00, "Bit ranges are written [high:low]"). -/
def bits (w : Word) (hi lo : Nat) : Nat := w.toNat / 2 ^ lo % 2 ^ (hi - lo + 1)

/-- Bit `i` of a word. -/
def bitAt (w : Word) (i : Nat) : Bool := w.getLsbD i

/-- A word with bits [hi:lo] replaced by `v`, cut to the width of the field. -/
def putBits (w : Word) (hi lo v : Nat) : Word :=
  let m : Word := BitVec.ofNat 32 ((2 ^ (hi - lo + 1) - 1) * 2 ^ lo)
  (w &&& ~~~m) ||| (BitVec.ofNat 32 (v % 2 ^ (hi - lo + 1) * 2 ^ lo))

/-- A word from a number, modulo 2³². -/
def word (n : Nat) : Word := BitVec.ofNat 32 n

/-- A word from a signed number, modulo 2³² (two's complement, R413). -/
def iword (i : Int) : Word := BitVec.ofInt 32 i

/-- A bit as a number. -/
def b2n (b : Bool) : Nat := if b then 1 else 0

/-! ### Registers, raw -/

/-- The value a register holds. -/
def State.rd (s : State) (a : Nat) : Word := tabGet regReset s.regs a

/-- The register set to a value. -/
def State.wr (s : State) (a : Nat) (v : Word) : State := { s with regs := tabSet regReset s.regs a v }

/-- A field of a register as a number. -/
def State.fld (s : State) (a hi lo : Nat) : Nat := bits (s.rd a) hi lo

/-- One bit of a register. -/
def State.bit (s : State) (a i : Nat) : Bool := bitAt (s.rd a) i

/-- A field of a register set. -/
def State.setFld (s : State) (a hi lo v : Nat) : State := s.wr a (putBits (s.rd a) hi lo v)

/-- One bit of a register set or cleared. -/
def State.setBit (s : State) (a i : Nat) (b : Bool) : State := s.setFld a i i (b2n b)

/-- A saturating counter field advanced by `n`. -/
def State.count (s : State) (a hi lo n : Nat) : State :=
  s.setFld a hi lo (min (s.fld a hi lo + n) (2 ^ (hi - lo + 1) - 1))

/-- A saturating counter field advanced by one. -/
def State.bump (s : State) (a hi lo : Nat) : State := s.count a hi lo 1

/-- Does the table say that the register at an address keeps its value through resets (R319, R409)? -/
def regKept (a : Nat) : Bool :=
  match findReg a with
  | some r => r.keep
  | none => false

/-- Registers of an address range set back to their reset values, but those the tables keep (R319, R409). -/
def State.resetRange (s : State) (lo hi : Nat) : State :=
  { s with regs := tabDrop (fun a => decide (lo ≤ a ∧ a < hi) && !regKept a) s.regs }

/-- The block of 64 KB at `base` reset. -/
def State.resetBlock (s : State) (base : Nat) : State := s.resetRange base (base + 0x10000)

/-- A fresh free value (log entry 2), and the state with the counter advanced. -/
def State.fresh (s : State) : Word × State := (Config.freeValue s.free, { s with free := s.free + 1 })

/-! ### Memory -/

/-- Where the model keeps the QSPI flash of Table 16-1, beyond the part's 32-bit address space. -/
def flashBase : Nat := 0x100000000

/-- What an unlisted byte reads as: the boot ROM's program (R44), an erased octet in the flash, else 0 (log entry 5). -/
def memDefault (a : Nat) : Byte :=
  if 0x01000000 ≤ a ∧ a < 0x01004000 then Config.bootRom (a - 0x01000000)
  else if flashBase ≤ a then 0xFF else 0

/-- Memory in its canonical form (log entry 5). -/
def Memory.wf (m : List Host.Cell) : Bool := tabWf memDefault m

/-- One byte of memory. -/
def State.byte (s : State) (a : Nat) : Byte := tabGet memDefault s.mem a

/-- One byte stored. -/
def State.setByte (s : State) (a : Nat) (b : Byte) : State := { s with mem := tabSet memDefault s.mem a b }

/-- `n` bytes from address `a` as a little-endian number (R447). -/
def State.loadN (s : State) (a : Nat) : Nat → Nat
  | 0 => 0
  | n + 1 => (s.byte a).toNat + 256 * s.loadN (a + 1) n

/-- The low `n` bytes of a number stored little-endian from address `a` (R447). -/
def State.storeN (s : State) (a v : Nat) : Nat → State
  | 0 => s
  | n + 1 => (s.setByte a (BitVec.ofNat 8 v)).storeN (a + 1) (v / 256) n

/-- A 32-bit word of memory. -/
def State.ldw (s : State) (a : Nat) : Word := word (s.loadN a 4)

/-- A 32-bit word stored. -/
def State.stw (s : State) (a : Nat) (v : Word) : State := s.storeN a v.toNat 4

/-- `n` octets from address `a`. -/
def State.octets (s : State) (a : Nat) : Nat → List Byte
  | 0 => []
  | n + 1 => s.byte a :: s.octets (a + 1) n

/-- Octets stored from address `a`. -/
def State.putOctets (s : State) (a : Nat) : List Byte → State
  | [] => s
  | b :: bs => (s.setByte a b).putOctets (a + 1) bs

/-- Octets stored from address `a`, but those that `keep` protects. -/
def State.putOctetsBut (s : State) (keep : Nat → Bool) (a : Nat) : List Byte → State
  | [] => s
  | b :: bs => (if keep a then s else s.setByte a b).putOctetsBut keep (a + 1) bs

/-- Words of memory from address `a`. -/
def State.words (s : State) (a : Nat) : Nat → List Word
  | 0 => []
  | n + 1 => s.ldw a :: s.words (a + 4) n

/-- Words stored from address `a`. -/
def State.putWords (s : State) (a : Nat) : List Word → State
  | [] => s
  | w :: ws => (s.stw a w).putWords (a + 4) ws

/-- The bytes of an address range forgotten, so that they read as unlisted (contents lost, Table 13-2, R44). -/
def State.dropMem (s : State) (lo hi : Nat) : State :=
  { s with mem := tabDrop (fun a => decide (lo ≤ a ∧ a < hi)) s.mem }

/-- Base of core n's instruction scratchpad in the model's one address space (Table 19-1, debug port). -/
def iscrBase (c : Fin 8) : Nat := 0x70000000 + 0x20000 * c.val

/-- Base of core n's data scratchpad. -/
def dscrBase (c : Fin 8) : Nat := iscrBase c + 0x10000

/-- Where an agent's own-scratchpad address lies in the one address space (Table 02-1). -/
def corePhys (c : Fin 8) (a : Nat) : Nat :=
  if a < 0x10000 then iscrBase c + a
  else if 0x10000000 ≤ a ∧ a < 0x10010000 then dscrBase c + (a - 0x10000000)
  else a

/-! ### Vectors with Nat indices -/

/-- Element `i` of a vector, `d` past its end. -/
def vget {α : Type} {n : Nat} (v : Vector α n) (i : Nat) (d : α) : α := v.getD i d

/-- Element `i` replaced; past the end nothing changes. -/
def vset {α : Type} {n : Nat} (v : Vector α n) (i : Nat) (x : α) : Vector α n := v.setIfInBounds i x

/-- Element `i` changed by a function; past the end nothing changes. -/
def vmod {α : Type} {n : Nat} (v : Vector α n) (i : Nat) (f : α → α) : Vector α n :=
  if h : i < n then v.set i (f v[i]) else v

/-- The first of the `n` numbers from `i` on that `p` holds of. -/
def firstNat (p : Nat → Bool) : Nat → Nat → Option Nat
  | 0, _ => none
  | n + 1, i => if p i then some i else firstNat p n (i + 1)

/-- `x` put into a list in the order `le`, after the elements it does not precede. -/
def insertBy {α : Type} (le : α → α → Bool) (x : α) : List α → List α
  | [] => [x]
  | y :: t => if le y x then y :: insertBy le x t else x :: y :: t

/-- A list sorted by `le`, equal elements in their order. -/
def sortBy {α : Type} (le : α → α → Bool) (l : List α) : List α := l.foldl (fun r x => insertBy le x r) []

/-- A number put into a rising list. -/
def insertNat (x : Nat) (l : List Nat) : List Nat := insertBy (fun a b => decide (a ≤ b)) x l

/-! ### Cores -/

/-- Core `c`. -/
def State.core (s : State) (c : Fin 8) : Core := s.cores.get c

/-- Core `c` changed. -/
def State.modCore (s : State) (c : Fin 8) (f : Core → Core) : State :=
  { s with cores := s.cores.set c.val (f (s.core c)) c.isLt }

/-- A general register; g0 reads zero (R24). -/
def State.gpr (s : State) (c : Fin 8) (r : Fin 16) : Word := if r = 0 then 0 else (s.core c).gpr.get r

/-- A general register written; a write to g0 is discarded (R24). -/
def State.setGpr (s : State) (c : Fin 8) (r : Fin 16) (v : Word) : State :=
  if r = 0 then s else s.modCore c fun k => { k with gpr := k.gpr.set r.val v r.isLt }

/-- The pc moved past the instruction. -/
def State.advance (s : State) (c : Fin 8) : State := s.modCore c fun k => { k with pc := k.pc + 4 }

/-- The block ID of a core (R37): domain 1 or 2, unit the core number modulo 4. -/
def coreBlock (c : Fin 8) : Nat := if c.val < 4 then 0x10 + c.val else 0x20 + (c.val - 4)

/-- The domain of a core: SEQA for C0–C3, SEQB for C4–C7. -/
def coreDom (c : Fin 8) : Nat := if c.val < 4 then 1 else 2

/-! ### Domains -/

/-- A domain of PD0–PD14; PD0 is always ON (R310). -/
def State.dom (s : State) (d : Nat) : Dom :=
  vget s.power.dom d { state := .on, target := .on, busy := false, hold := none, req := 15, lastOut := 0, again := false }

/-- A domain changed; PD0 never changes. -/
def State.modDom (s : State) (d : Nat) (f : Dom → Dom) : State :=
  if d = 0 then s else { s with power := { s.power with dom := vmod s.power.dom d f } }

/-- Is a domain ON, its clocks running? One in transition is not, but one whose request waits (R313, R36) still runs
(log entry 6). -/
def State.isOn (s : State) (d : Nat) : Bool :=
  d == 0 || ((s.dom d).state == .on && (!(s.dom d).busy || (s.dom d).hold.isSome))

/-- The state code of PWR_STATE (Table 13-12): 3 while in transition. -/
def State.domCode (s : State) (d : Nat) : Nat :=
  if d = 0 then 2 else if (s.dom d).busy then 3 else
    match (s.dom d).state with
    | .off => 0
    | .ret => 1
    | .on => 2

/-- The operating mode (Table 01-6). -/
def State.mode (s : State) : Nat := s.fld SYS_MODE 3 0

/-- The lifecycle state: 0 BLANK, 1 PROVISION, 2 FIELD, 3 RMA, 4 ZEROIZED (Table 15-1). -/
def State.lifecycle (s : State) : Nat := s.fld DBG_LC 2 0

/-- Does an address lie in a verified image, which is locked (R368)? -/
def State.locked (s : State) (a : Nat) : Bool :=
  (List.range 8).any fun v => s.bit (UPD_VERv v) 31 &&
    (let h := 0x80000000 + s.fld (UPD_VERv v) 27 0
     decide (h ≤ a ∧ a < h + vget s.upd.verLen v 0))

/-- Does a range meet a verified image? -/
def State.lockedRange (s : State) (a n : Nat) : Bool :=
  (List.range 8).any fun v => s.bit (UPD_VERv v) 31 &&
    (let h := 0x80000000 + s.fld (UPD_VERv v) 27 0
     decide (h < a + n ∧ a < h + vget s.upd.verLen v 0))

/-- A host or DMA write (R368): a write that meets a verified image is discarded there and counts in UPD_CNT.LOCKWR. -/
def State.dmaWrite (s : State) (a : Nat) (l : List Byte) : State :=
  if s.lockedRange a l.length then (s.putOctetsBut s.locked a l).bump UPD_CNT 31 16 else s.putOctets a l

/-! ### Checksums -/

/-- One octet into the CRC-16 of Table 11-5: polynomial 0x1021, no reflection. -/
def crc16Step (c : Nat) (b : Byte) : Nat :=
  (List.range 8).foldl (fun c _ => if c / 32768 % 2 = 1 then (c * 2 % 65536) ^^^ 0x1021 else c * 2 % 65536)
    (c ^^^ b.toNat * 256)

/-- CRC-16 with initial value 0xFFFF and no final XOR (Table 11-5). -/
def crc16 (l : List Byte) : Nat := l.foldl crc16Step 0xFFFF

/-- One octet into the CRC-32 of the Ethernet FCS: reflected polynomial 0xEDB88320. -/
def crc32Step (c : Nat) (b : Byte) : Nat :=
  (List.range 8).foldl (fun c _ => if c % 2 = 1 then (c / 2) ^^^ 0xEDB88320 else c / 2) (c ^^^ b.toNat)

/-- The CRC-32 of the Ethernet FCS (Table 17-6, R374). -/
def crc32 (l : List Byte) : Nat := l.foldl crc32Step 0xFFFFFFFF ^^^ 0xFFFFFFFF

end Sys2Proof.Machine
end

