-- ==== Sys2Proof/Machine/Report.lean ====
section
/-!
DEFINITION. Sys2Proof/Machine/Report.lean: what every unit uses to tell of itself: the time stamp of R318, the record
codes and the write queue of the event recorder (R397–R399, R453), waking a domain (R320, R321, R329), and raising an
event on the cores' lines (R40, R41) or a host interrupt (R433).
-/
namespace Sys2Proof.Machine

/-! ### Completion status codes (Table 02-9) -/

def stOK : Nat := 0
def stILLEGAL : Nat := 1
def stLIFECYCLE : Nat := 2
def stNOTREADY : Nat := 3
def stBUSY : Nat := 4
def stPREEMPTED : Nat := 5
def stLATE : Nat := 6
def stFULL : Nat := 7
def stDENIED : Nat := 8
def stMASK : Nat := 9
def stORPHAN : Nat := 10
def stNOKEY : Nat := 11
def stHALTBLK : Nat := 12
def stREFUSED : Nat := 13
def stDELAYED : Nat := 14
def stARMED : Nat := 15
def stRULE : Nat := 16
def stAUTH : Nat := 17
def stINHIBIT : Nat := 18
def stALREADY : Nat := 19
def stLOST : Nat := 20
def stRANGE : Nat := 21

/-! ### Hardware record codes (Table 17-4) -/

def recFAULT : BitVec 16 := 0x0001
def recFAULT_DONE : BitVec 16 := 0x0002
def recLOG_FULL : BitVec 16 := 0x0003
def recCLEARED : BitVec 16 := 0x0004
def recMODE_CHANGE : BitVec 16 := 0x0005
def recCORE_RETIRED : BitVec 16 := 0x0006
def recWARM_RESET : BitVec 16 := 0x0007
def recJFREEZE : BitVec 16 := 0x0008
def recAVAIL_BUDGET : BitVec 16 := 0x0009
def recREPLAY_DONE : BitVec 16 := 0x000A
def recBACKUP_ENTER : BitVec 16 := 0x1001
def recBACKUP_EXIT : BitVec 16 := 0x1002
def recPWR_REFUSE : BitVec 16 := 0x1003
def recBAK_LOW : BitVec 16 := 0x1004
def recWKRX_JAM : BitVec 16 := 0x1005
def recKEY_INVALIDATE : BitVec 16 := 0x2001
def recZEROIZE : BitVec 16 := 0x2002
def recFC_EXHAUST : BitVec 16 := 0x2003
def recEPOCH_ADV : BitVec 16 := 0x2004
def recKEY_ORPHAN_USE : BitVec 16 := 0x2005
def recAUTH_FAIL : BitVec 16 := 0x2006
def recTAMPER : BitVec 16 := 0x2007
def recTAMP_GLITCH : BitVec 16 := 0x2008
def recDBG_OPEN : BitVec 16 := 0x2009
def recDBG_CLOSE : BitVec 16 := 0x200A
def recDBG_FAIL : BitVec 16 := 0x200B
def recLC_CHANGE : BitVec 16 := 0x200C
def recREPLAY : BitVec 16 := 0x200D
def recTREARM : BitVec 16 := 0x3001
def recTADJ_CLIP : BitVec 16 := 0x3002
def recSRC_SWITCH : BitVec 16 := 0x3003
def recSTEPPED : BitVec 16 := 0x3004
def recTQ_CHANGE : BitVec 16 := 0x3005
def recLATE_STAMP : BitVec 16 := 0x3006
def recGLITCH : BitVec 16 := 0x3007
def recRANGE : BitVec 16 := 0x3008
def recMAINS_LOST : BitVec 16 := 0x3009
def recMAINS_REGAIN : BitVec 16 := 0x300A
def recRTC_XTAL : BitVec 16 := 0x300B
def recRTC_SET : BitVec 16 := 0x300C
def recPATH_STATE : BitVec 16 := 0x4001
def recCH_JAM : BitVec 16 := 0x4002
def recLANE_MAPOUT : BitVec 16 := 0x4003
def recLANE_STARVED : BitVec 16 := 0x4004
def recSYN_NOLOCK : BitVec 16 := 0x4005
def recCAL_FAIL : BitVec 16 := 0x4006
def recPWR_OVER : BitVec 16 := 0x4007
def recDUTY_EXHAUST : BitVec 16 := 0x4008
def recSAFE_USE : BitVec 16 := 0x4009
def recGRD_LOCK : BitVec 16 := 0x400A
def recNODE_LOST : BitVec 16 := 0x400B
def recJOIN_FULL : BitVec 16 := 0x400C
def recBANK_SWITCH : BitVec 16 := 0x400D
def recRESYNC : BitVec 16 := 0x400E
def recANT_FAULT : BitVec 16 := 0x400F
def recEPOCH_LOST : BitVec 16 := 0x4010
def recSPOOF_SUSPECT : BitVec 16 := 0x4011
def recSPOOF_CLEAR : BitVec 16 := 0x4012
def recREF_SET : BitVec 16 := 0x4013
def recSURVEY_DONE : BitVec 16 := 0x4014
def recSURVEY_FAIL : BitVec 16 := 0x4015
def recCREDIT_AUDIT : BitVec 16 := 0x5001
def recPFX_FULL : BitVec 16 := 0x5002
def recLEARN_LIMIT : BitVec 16 := 0x5003
def recEM_OVF : BitVec 16 := 0x5004
def recJRNL_OVF : BitVec 16 := 0x5005
def recFLOW_OVF : BitVec 16 := 0x5006
def recQFULL : BitVec 16 := 0x5007
def recSTOP_LATCH : BitVec 16 := 0x6001
def recSTOP_ALSO : BitVec 16 := 0x6002
def recSTOP_RELEASE : BitVec 16 := 0x6003
def recSTOP_DISC : BitVec 16 := 0x6004
def recSTOP_GLITCH : BitVec 16 := 0x6005
def recSTOP_STUCK : BitVec 16 := 0x6006
def recFLEET_JOIN_FULL : BitVec 16 := 0x6007
def recGO_MISS : BitVec 16 := 0x6008
def recRES_FULL : BitVec 16 := 0x6009
def recTASK_FULL : BitVec 16 := 0x600A
def recPLANK_APPLY : BitVec 16 := 0x7001
def recPLANK_ABORT : BitVec 16 := 0x7002
def recPLANK_DISARM : BitVec 16 := 0x7003
def recUPD_COMPLETE : BitVec 16 := 0x7004
def recACTIVATED : BitVec 16 := 0x7005
def recACT_FAIL : BitVec 16 := 0x7006
def recUPD_REVERT : BitVec 16 := 0x7007
def recUPD_COMMIT : BitVec 16 := 0x7008

/-! ### Time stamps -/

/-- RTC time in 2⁻¹⁶ s: RTC_SEC with RTC_FRAC (R318). -/
def State.rtcNow (s : State) : Nat :=
  (bits (s.rd RTC_SEC_HI) 15 0 * 2 ^ 32 + (s.rd RTC_SEC_LO).toNat) * 65536 + s.fld RTC_FRAC 15 0

/-- The RTC's elapsed count in 2⁻¹⁶ s, which commits and shifts do not change (R450). -/
def State.elapsed (s : State) : Nat := s.rtc.elapsed

/-- The time of an event: seconds[31:0], grains, and whether it was taken from the RTC (R318). -/
def State.stamp (s : State) : Word × Word × Bool :=
  if s.isOn 12 then (word s.time.sec.toNat, s.time.grn, false)
  else (s.rd RTC_SEC_LO, word (s.fld RTC_FRAC 15 0 * 65536), true)

/-- A hardware record with the time of now (Table 17-3). -/
def State.mkRec (s : State) (src : Nat) (code : BitVec 16) (a0 a1 a2 : Word) : LogRec :=
  { seq := 0, sec := s.stamp.1, grn := s.stamp.2.1, src := BitVec.ofNat 8 src, code := code, a0 := a0, a1 := a1,
    a2 := a2, sw := false, linked := false, count := false, rtct := s.stamp.2.2 }

/-! ### The recorder's write queue -/

/-- The LOG_LOSTk index of a record code (R398): its class, 8 for every software class. -/
def lostIndex (code : BitVec 16) : Nat := min (code.toNat / 4096) 8

/-- A record counted as lost. -/
def State.lose (s : State) (code : BitVec 16) : State := s.bump (LOG_LOSTk (lostIndex code)) 31 0

/-- Recording has stopped (R399). -/
def State.logFull (s : State) : Bool := s.bit LOG_STAT 31

/-- A record put into the 64-record write queue, taking the next sequence number; with the queue full, or recording
stopped, it is lost (R398, R399; log entry 7). -/
def State.enqueue (s : State) (r : LogRec) : State :=
  if s.logFull then s.lose r.code
  else if s.rep.queue.length < 64 then
    let q := s.rep.queue ++ [{ r with seq := s.rd LOG_SEQ }]
    let s := { s with rep := { s.rep with queue := q } }
    let s := s.wr LOG_SEQ (s.rd LOG_SEQ + 1)
    let s := s.setFld LOG_QUEUE 6 0 q.length
    s.setFld LOG_QUEUE 22 16 (max (s.fld LOG_QUEUE 22 16) q.length)
  else s.lose r.code

/-- A record raised: into the write queue, or into the 16-record AON buffer while LOG is not ON or a decided reset
waits (R398, R409). -/
def State.log (s : State) (r : LogRec) : State :=
  if s.isOn 14 && s.rep.reset.isNone then s.enqueue r
  else if s.rep.aon.length < 16 then { s with rep := { s.rep with aon := s.rep.aon ++ [r] } }
  else s.lose r.code

/-- A hardware record of this instant (Table 17-15 gives its arguments). -/
def State.record (s : State) (src : Nat) (code : BitVec 16) (a0 a1 a2 : Word) : State :=
  s.log (s.mkRec src code a0 a1 a2)

/-- The AON buffer moved into the write queue when LOG is next ON (R398). -/
def State.flushAon (s : State) : State :=
  s.rep.aon.foldl (fun s r => s.enqueue r) { s with rep := { s.rep with aon := [] } }

/-- An event of a rate-limited code and key (R453): recorded at once when no interval is open, else counted with its
arguments kept. `cnt` says that ARG0 is (COUNT). -/
def State.rated (s : State) (src : Nat) (code : BitVec 16) (key : Nat) (a0 a1 a2 : Word) (cnt : Bool) : State :=
  let r := s.mkRec src code (if cnt then 1 else a0) a1 a2
  let r := { r with count := cnt }
  match s.rep.rates.find? fun l => l.code == code && l.key == key with
  | some _ =>
    { s with rep := { s.rep with rates := s.rep.rates.map fun l =>
        if l.code == code && l.key == key then { l with count := l.count + 1, last := r } else l } }
  | none =>
    let s := { s with rep := { s.rep with rates := s.rep.rates ++ [(⟨code, key, 0, r⟩ : RateLim)] } }
    s.log r

/-! ### Waking a domain -/

/-- The dependencies of Table 13-4. -/
def domDeps (d : Nat) : List Nat :=
  match d with
  | 7 => [9]
  | 6 => [9]
  | 13 => [9]
  | 8 => [14]
  | _ => []

/-- The budget weight of a domain in 0.1 mW (Table 13-9). -/
def domWeight (d : Nat) : Nat :=
  match d with
  | 1 => 2700 | 2 => 2700 | 3 => 20500 | 4 => 1600 | 5 => 1300 | 6 => 3000 | 7 => 4900 | 8 => 900 | 9 => 3800
  | 10 => 3200 | 11 => 1600 | 12 => 448 | 13 => 550 | 14 => 650
  | _ => 0

/-- Is a domain ON or coming ON? -/
def State.onOrComing (s : State) (d : Nat) : Bool :=
  d == 0 || (if (s.dom d).busy && (s.dom d).hold.isNone then (s.dom d).target == .on || (s.dom d).again
             else (s.dom d).state == .on)

/-- The sum of the weights of the domains ON or coming ON, 0.1 mW (R329). -/
def State.load (s : State) : Nat :=
  ((List.range 15).map fun d => if s.onOrComing d then domWeight d else 0).sum

/-- A refusal, abort or override accounted (R318): PWR_DOMd_LAST, its time, its count, and for a refusal or an abort the
PWR_REFUSE record, at most one per second per domain. `kind`: 1 REFUSE, 2 ABORT, 3 OVERRIDDEN. -/
def State.noteRefusal (s : State) (d block reason kind : Nat) : State :=
  let st := s.stamp
  let s := s.wr (PWR_DOMd_LAST d)
    (putBits (putBits (putBits (putBits 0 31 24 block) 23 16 reason) 15 14 kind) 13 13 (b2n st.2.2))
  let s := (s.wr (PWR_DOMd_LSEC d) st.1).wr (PWR_DOMd_LGRN d) st.2.1
  match kind with
  | 1 => (s.bump (PWR_DOMd_CNT d) 31 16).rated 0x01 recPWR_REFUSE d 0 (word d) (s.rd (PWR_DOMd_LAST d)) true
  | 2 => (s.bump (PWR_DOMd_CNT d) 15 0).rated 0x01 recPWR_REFUSE d 0 (word d) (s.rd (PWR_DOMd_LAST d)) true
  | _ => (s.bump (PWR_DOMd_OVR d) 15 0).setBit PWR_FLAGS 1 true

/-- A domain starts to come ON: a DELAY wait is aborted with reason WAKE (R313); an entry under way completes first (log entry
6). -/
def State.startOn (s : State) (d req : Nat) : State :=
  let s := if (s.dom d).hold.isSome then s.noteRefusal d 0x01 12 2 else s
  s.modDom d fun k =>
    if k.hold.isSome then { k with busy := false, hold := none, lastOut := 13, target := .on }
    else if k.busy && k.target != .on then { k with again := true }
    else { k with target := .on, busy := !(k.state == .on && !k.busy), req := Fin.ofNat 16 req }

/-- A domain with the dependency that has to come ON ahead of it (R321), the dependency first. -/
def State.wakeNeed (s : State) (d : Nat) : List Nat :=
  (domDeps d).filter (fun e => !s.onOrComing e || (s.dom e).hold.isSome) ++ [d]

/-- Would these domains take the sum of the domains ON over the budget of 750 mW (R329)? Only BACKUP has one. -/
def State.overBudget (s : State) (ds : List Nat) : Bool :=
  s.power.backup && !s.power.restoring && s.mode != 11 &&
    decide (7500 < s.load + ((ds.filter fun e => !s.onOrComing e).map domWeight).sum)

/-- Does ZEROIZED keep one of these domains from coming ON (R327)? -/
def State.zeroBarred (s : State) (ds : List Nat) : Bool := s.mode == 11 && ds.any fun e => e != 1 && e != 11 && e != 14

/-- PWR_WAKESRC with its time (R320): source, detail, and the first domain woken. -/
def State.noteWake (s : State) (src detail first : Nat) : State :=
  let st := s.stamp
  let s := s.wr PWR_WAKESRC
    (putBits (putBits (putBits (putBits 0 31 31 (b2n st.2.2)) 27 24 first) 19 16 src) 7 0 detail)
  (s.wr PWR_WAKESEC st.1).wr PWR_WAKEGRN st.2.1

/-- What a wake has done so far: the state, the first domain woken, and whether the budget has stopped it. -/
abbrev WakeRun := State × Option Nat × Bool

/-- A wake of one domain (R321): ahead of it its dependency; nothing for a domain ON or coming ON. ZEROIZED keeps it from
coming ON, but the wake is recorded; the budget stops the wake and sets PWR_FLAGS.BUDGET; with the cell disconnected
nothing comes ON. -/
def wakeOne (exempt : Bool) (req : Nat) (a : WakeRun) (d : Nat) : WakeRun :=
  let s := a.1
  let need := s.wakeNeed d
  if a.2.2 ∨ d = 0 then a
  else if s.onOrComing d then (if (s.dom d).hold.isSome then (s.startOn d req, a.2) else a)
  else if s.zeroBarred need then (s, a.2.1.or (some d), false)
  else if s.power.backup && s.power.cutoff && !s.power.restoring then a
  else if !exempt && s.overBudget need then (s.setBit PWR_FLAGS 7 true, a.2.1, true)
  else (need.foldl (fun s e => s.startOn e req) s, a.2.1.or need.head?, false)

/-- A wake (R320, R321) of domains that are in no DELAY wait, in ascending order. Sources 7 and 8 are exempt from the budget
(R329). -/
def State.wakeOff (s : State) (src detail : Nat) (doms : List Nat) (req : Nat := 15) : State :=
  let r := doms.foldl (wakeOne (src == 7 || src == 8) req) (s, none, false)
  match r.2.1 with
  | some f => r.1.noteWake src detail f
  | none => r.1

/-- The domains of a wake map (PWR_WAKEMAPs), ascending. -/
def State.wakeMap (s : State) (i : Nat) : List Nat :=
  (List.range 15).filter fun d => d != 0 && s.bit (PWR_WAKEMAPs i) d

/-! ### Events -/

/-- One line of a core raised by its source: pending with its arrival cycle, or an overrun; held while the core's domain
is not ON, with the wake of R41. -/
def State.deliver (s : State) (c : Fin 8) (line : Fin 32) : State :=
  let k := s.core c
  if s.isOn (coreDom c) then
    if bitAt k.evpend line then s.setBit (SEQ_EVOVRn c) line true
    else s.modCore c fun k => { k with
      evpend := k.evpend ||| word (2 ^ line.val)
      arrival := tabSet (fun _ => (0, false)) k.arrival line (k.cyc, false)
      run := if k.run = .wfe ∧ bitAt k.evmask line then .running else k.run }
  else if bitAt k.held line then s.setBit (SEQ_EVOVRn c) line true
  else
    let s := s.modCore c fun k => { k with held := k.held ||| word (2 ^ line.val) }
    if s.bit (SEQ_EVWAKEn c) line then s.wakeOff 2 (c.val * 32 + line.val) [coreDom c] else s

/-- An event raised by a source (block ID : event number): every line of every core that selects it (R40; SEQ_EVSELn_m).
0x00 : 0x00 is no source. -/
def State.raise (s : State) (block event : Nat) : State :=
  let src := block * 256 + event
  if src = 0 then s else
  (List.finRange 8).foldl (fun (s : State) (c : Fin 8) => (List.finRange 32).foldl (fun (s : State) (m : Fin 32) =>
    if s.fld (SEQ_EVSELn_m c.val m.val) 15 0 = src then s.deliver c m else s) s) s

/-- A wake (R320, R321, R329). A domain in the DELAY wait of a request leaves it with reason WAKE, which raises the event of
R313. -/
def State.wake (s : State) (src detail : Nat) (doms : List Nat) (req : Nat := 15) : State :=
  let held := doms.filter fun d => (s.dom d).hold.isSome
  held.foldl (fun s _ => s.raise 0x01 0x01) (s.wakeOff src detail doms req)

/-- A host interrupt source latched (R433): 0–7 MBOUTn, 8–15 rings, 16 QSTERR. The register lies in HOST. -/
def State.hostIrq (s : State) (src : Nat) : State := if s.isOn 11 then s.setBit HOST_IRQSTAT src true else s

/-- A 16-byte unit written to the replay output ring, which stops when full (R407). -/
def State.replayUnit (s : State) (ws : List Word) : State :=
  let off := (s.rd REPLAY_OWR).toNat
  if off < (s.rd REPLAY_OLEN).toNat then
    (s.putWords ((s.rd REPLAY_OBASE).toNat + 16 * off) ws).wr REPLAY_OWR (word (off + 1))
  else s.setBit REPLAY_STAT 26 true

/-- A device instruction recorded as an output in REPLAY (Table 02-12). The spec gives the unit no layout, so its four words
are free values (log entry 17). -/
def State.replayOutput (s : State) : State :=
  let a := s.fresh
  let b := a.2.fresh
  let c := b.2.fresh
  let d := c.2.fresh
  d.2.replayUnit [a.1, b.1, c.1, d.1]

/-- A core event (Table 02-17): LASTEV and the event of the core's block ID, whose number is free (log entry 4). -/
def State.coreEvent (s : State) (c : Fin 8) (code : Fin 8) : State :=
  (s.modCore c fun k => { k with lastev := code }).raise (coreBlock c) (Config.coreEventNumber code).toNat

end Sys2Proof.Machine
end

