-- ==== Sys2Proof/Machine/Fault.lean ====
section
/-!
DEFINITION. Sys2Proof/Machine/Fault.lean: the fault manager (R387–R391, R451, R452): the classes of Table 17-1, windows
that coincide, and the actions as far as they change state at once; with what an action needs of other units: emptying a
port (PORTRESET), retiring a page (PGRET), cycling domains (DOMCYCLE), a warm reset (WARM), and freezing the journal
(R405).
-/
namespace Sys2Proof.Machine

/-! ### The journal (R402, R405) -/

/-- A change of the replay engine's own state. -/
def State.modReplay (s : State) (f : ReplaySt → ReplaySt) : State :=
  { s with rep := { s.rep with replay := f s.rep.replay } }

/-- Words put into the ring from byte offset `off` (R402). -/
def State.ringWords (s : State) (off : Nat) : List Word → State
  | [] => s
  | w :: ws => (s.stw ((s.rd REPLAY_JBASE).toNat + off % 2 ^ 26) w).ringWords (off + 4) ws

/-- Entries dropped from the front of the ring until the others fit its 64 MB (R402). -/
def fitRing : List JEnt → List JEnt
  | [] => []
  | e :: t => if (t.map fun x => 16 * (x.units + 1)).sum + 16 * (e.units + 1) ≤ 2 ^ 26 then e :: t else fitRing t

/-- The oldest entries gone, with the checkpoints they held; REPLAY_JOLD follows. -/
def State.trimRing (s : State) : State :=
  let l := fitRing s.rep.replay.entries
  let gone := s.rep.replay.entries.take (s.rep.replay.entries.length - l.length)
  let s := s.modReplay fun r => { r with
    entries := l, ckpts := r.ckpts.filter fun c => !gone.any fun e => e.jseq == c.jseq }
  s.setFld REPLAY_JOLD 25 0 ((l.head?.map (·.off)).getD (s.fld REPLAY_JWR 25 0))

/-- A journal entry appended (Table 17-5): the header, then `units` units of 16 bytes, of which `data` gives the first words;
the oldest entries give way when the ring wraps onto them. -/
def State.journal (s : State) (kind core : Nat) (cyc arg : Word) (data : List Word) (units : Nat := (data.length + 3) / 4) :
    State :=
  let off := s.fld REPLAY_JWR 25 0
  let seq := s.rd REPLAY_JSEQ
  let pad := List.replicate ((data.length + 3) / 4 * 4 - data.length) 0
  let s := s.ringWords off ([word (kind * 2 ^ 28 + core * 2 ^ 24 + units), seq, cyc, arg] ++ data ++ pad)
  let s := s.setFld REPLAY_JWR 25 0 (off + 16 * (units + 1))
  let s := s.wr REPLAY_JSEQ (seq + 1)
  let e : JEnt := { off := off, units := units, jseq := seq, kind := kind, core := core, cyc := cyc, arg := arg, data := data }
  (s.modReplay fun r => { r with entries := r.entries ++ [e] }).trimRing

/-- A freeze of the journal (R405): a FREEZE entry, FROZEN with its cause, the JFREEZE record and 0xE2 : 0x01; a trigger
while frozen changes nothing. Cause 1 fault (with its record's number), 2 LOGW, 3 REPLAY_CMD. -/
def State.freezeJournal (s : State) (cause : Nat) (faultSeq : Word) : State :=
  if s.bit REPLAY_STAT 31 then s else
  let jseq := s.rd REPLAY_JSEQ
  let s := if s.isOn 9 then s.journal 14 15 (word (s.clock / 4)) (s.rd LOG_SEQ) [] else s
  let s := s.modReplay fun r => { r with frozenAt := s.clock }
  let s := s.wr REPLAY_TRIG jseq
  let s := (s.setBit REPLAY_STAT 31 true).setFld REPLAY_STAT 3 0 cause
  let r := s.mkRec 0xE2 recJFREEZE (word cause) jseq (if cause = 1 then faultSeq else 0)
  let s := s.log { r with linked := cause == 1 }
  s.raise 0xE2 0x01

/-! ### Ports and pages -/

/-- The depth of frame port q in words (Table 07-1). -/
def portDepth (q : Nat) : Nat := if q ≤ 64 then 8 else if q ≤ 69 then 32 else 64

/-- A frame port after reset: empty, its credits equal to its depth (R199). -/
def portReset (q : Nat) : Port :=
  { words := [], cred := portDepth q, transit := 0, wIn := false, rIn := false, disc := .none, bp := false, cpend := false,
    noaud := false, poison := [], out := ⟨0, false, false, false, false, false⟩
    held := 0, wait := [], frame := [] }

/-- A descriptor queue after reset (R199). -/
def dqReset : DescQ := { items := [], cred := 16384, bp := false, cpend := false }

/-- Frame port q. -/
def State.port (s : State) (q : Nat) : Port := tabGet portReset s.qfab.ports q

/-- Frame port q replaced. -/
def State.setPort (s : State) (q : Nat) (p : Port) : State :=
  { s with qfab := { s.qfab with ports := tabSet portReset s.qfab.ports q p } }

/-- Descriptor queue d. -/
def State.descq (s : State) (d : Nat) : DescQ := tabGet (fun _ => dqReset) s.qfab.dq d

/-- Descriptor queue d replaced. -/
def State.setDescq (s : State) (d : Nat) (q : DescQ) : State :=
  { s with qfab := { s.qfab with dq := tabSet (fun _ => dqReset) s.qfab.dq d q } }

/-- PORTRESET (R387): the port is emptied, its credits reset to the depth, and a frame in progress on the read side ends
with ABORT. -/
def State.resetPort (s : State) (q : Nat) : State :=
  let p := s.port q
  let s := s.setPort q { portReset q with
    bp := p.bp
    out := if p.rIn then ⟨0, true, false, true, true, false⟩ else p.out }
  if p.rIn then s.bump (QFAB_Qq_CNT q) 23 16 else s

/-- PGRET (R382): the page of a DRAM address remapped to the lowest free spare. The answer is the status: ALREADY, FULL or
OK. The page's contents go with it, so memory reads as before. -/
def State.retirePage (s : State) (addr : Nat) : Nat × State :=
  let page := addr / 4096 % 65536
  if (List.range 64).any fun k => s.rd (UPD_PGRETk k) == word (2 ^ 31 + page) then (stALREADY, s) else
  match (List.range 64).find? fun k => !s.bit (UPD_PGRETk k) 31 with
  | some k => (stOK, s.wr (UPD_PGRETk k) (word (2 ^ 31 + page)))
  | none => (stFULL, s)

/-! ### Domains cycled, and the warm reset -/

/-- The domains that depend on a domain (Table 13-4). -/
def dependents (d : Nat) : List Nat :=
  match d with
  | 9 => [6, 7, 13]
  | 14 => [8]
  | _ => []

/-- Domains with their dependents, in domain order. -/
def withDependents (ds : List Nat) : List Nat :=
  (List.range 15).filter fun d => ds.contains d || ds.any fun e => (dependents e).contains d

/-- The entry to OFF of a domain forced by the controller, to come ON again after it when `again` holds. A domain already
OFF just comes ON. -/
def State.forceOff (s : State) (d : Nat) (again : Bool) : State :=
  s.modDom d fun k =>
    if k.state == .off && !k.busy then (if again then { k with target := .on, busy := true, hold := none, req := 15 } else k)
    else { k with target := .off, busy := true, hold := none, req := 15, again := again }

/-- Is a debug session open? -/
def State.session (s : State) : Bool := s.fld DBG_SESS 31 30 != 0

/-- An opening in progress ends without a session (R360): it fails with a status. -/
def State.openFailed (s : State) (status : Nat) (level : Nat) : State :=
  let fails := min (s.fld DBG_STAT 31 24 + 1) 255
  let s := (s.setFld DBG_STAT 31 24 fails).setFld DBG_STAT 7 0 status
  let s := if status = stAUTH then s.setBit DBG_FLAGS 2 true else s
  let s := if status = stDENIED then s.setBit DBG_FLAGS 1 true else s
  let s := if 8 ≤ fails ∧ s.fld DBG_STAT 23 8 = 0 then
      let s := { s with dbg := { s.dbg with lockAt := s.elapsed } }
      (s.setFld DBG_STAT 23 8 600).setBit DBG_FLAGS 4 true
    else s
  (s.raise 0x0D 0x03).record 0x0D recDBG_FAIL (word status) (word fails) (word level)

/-- A new debug challenge (R355). -/
def State.dbgChallenge (s : State) : State :=
  let a := s.fresh
  let b := a.2.fresh
  (b.2.wr DBG_CHAL_LO a.1).wr DBG_CHAL_HI b.1

/-- An opening in progress is abandoned by a tamper or a VIN loss, which precede its completion (R360). -/
def State.preemptOpening (s : State) : State :=
  match s.dbg.opening with
  | none => s
  | some o =>
    let s := { s with dbg := { s.dbg with opening := none } }
    (s.dbgChallenge.setBit DBG_SESS 28 false).openFailed stPREEMPTED o.1

/-- A debug session closed (R356): halted cores resume, frozen domains are unfrozen, 0x0D : 0x02 and its record; HALTBLK clears
where CRYP has passed through OFF since it was set (R357). Cause
0 DBG_CLOSE, 1 VIN loss, 2 tamper, 3 reset, 4 ZEROIZED, 5 DOMCYCLE. -/
def State.closeSession (s : State) (cause : Nat) : State :=
  if !s.session then s else
  let level := s.fld DBG_SESS 31 30
  let attach := s.fld DBG_SESS 14 1 * 2
  let s := { s with cores := s.cores.map fun (k : Core) => { k with dbgHalt := false, dbgStep := false } }
  let s := (((s.wr DBG_HALT 0).setFld DBG_SESS 31 30 0).setBit DBG_SESS 29 false).setFld DBG_SESS 14 1 0
  let s := if cause = 0 then s else s.setBit DBG_FLAGS 3 true
  let s := if s.dbg.crypOff then s.setBit KEYS_STAT 2 false else s
  (s.raise 0x0D 0x02).record 0x0D recDBG_CLOSE (word cause) (word level) (word attach)

/-- Is a domain attached to the session? -/
def State.attached (s : State) (d : Nat) : Bool := d != 0 && s.bit DBG_SESS d

/-- DOMCYCLE (R389): the charged domains and their dependents are forced OFF together and come ON again; a session attached
to one of them closes (R356). The answers it overrides are counted as the entry completes (log entry 35). -/
def State.domCycle (s : State) (ds : List Nat) : State :=
  let all := withDependents ds
  let s := if all.any s.attached then s.closeSession 5 else s
  all.foldl (fun s d => if d = 0 ∨ (s.dom d).state == .off && !(s.dom d).busy then s else s.forceOff d true) s

/-- WARM (R390): the warm reset is decided. FAULT_WARMCNT counts it, the WARM_RESET record is written, and the reset is
applied once the write queue has drained (R409). -/
def State.warm (s : State) (cls : Nat) (seq : Word) : State :=
  let now := s.elapsed / 65536
  let times := s.rep.warmTimes.filter (fun t => decide (now < t + 3600)) ++ [now]
  let s := { s with rep := { s.rep with warmTimes := times } }
  let s := (s.bump FAULT_WARMCNT 15 0).setFld FAULT_WARMCNT 31 16 (min times.length 65535)
  let r := s.mkRec 0xE0 recWARM_RESET (word cls) (s.rd FAULT_WARMCNT) seq
  let s := s.log { r with linked := true }
  { s with rep := { s.rep with reset := some (s.rep.reset.getD ⟨6⟩) } }

/-! ### Availability (R394, R395) -/

/-- The domains of service m, 0 MESH, 1 FLEET, 2 TIME (Table 01-4): receive and transmit for MESH; SUBTX for FLEET when a
sub-GHz fleet channel is assigned. -/
def State.serviceDoms (s : State) (m : Nat) : List Nat :=
  match m with
  | 0 => [1, 3, 4, 7, 8, 9, 12]
  | 1 => [2, 5, 8, 12, 13] ++ (if s.bit FLEET_SUBCH 31 then [4] else [])
  | _ => [2, 10, 12]

/-- Is service m out, were it expected (R394)? -/
def State.serviceOut (s : State) (m : Nat) : Bool :=
  (s.serviceDoms m).any (fun d => !s.isOn d) || s.mode == 0 || s.mode == 8
    || (m == 0 && s.upd.pktPause) || (m == 1 && s.upd.gnssPause)

/-- The network clock runs: TIME is ON and its counter loaded. -/
def State.timeRuns (s : State) : Bool := s.isOn 12 && s.time.running

/-- Network time in grains, seconds[31:0] (R56). -/
def State.netGrains (s : State) : Nat := (s.time.sec.toNat % 2 ^ 32) * 2 ^ 32 + s.time.grn.toNat

/-- An interval in grains added to FAULT_AVm_OUT or FAULT_AVm_EXT; the first passing of the budget in a period is told. -/
def State.addOutage (s : State) (m : Nat) (dev : Bool) (grains : Nat) : State :=
  let ra := if dev then FAULT_AVm_OUT_S m else FAULT_AVm_EXT_S m
  let rg := if dev then FAULT_AVm_OUT_G m else FAULT_AVm_EXT_G m
  let v := (s.rd ra).toNat * 2 ^ 32 + (s.rd rg).toNat + grains
  let s := (s.wr ra (word (v / 2 ^ 32))).wr rg (word v)
  if dev && decide (s.fld FAULT_AVCFG 15 0 * 2 ^ 32 < 10 * v) && !vget s.rep.avPassed m true then
    let s := { s with rep := { s.rep with avPassed := vset s.rep.avPassed m true } }
    let s := (s.setBit FAULT_STAT (3 + m) true).raise 0xE0 0x03
    s.record 0xE0 recAVAIL_BUDGET (word m) (s.rd ra) (s.rd rg)
  else s

/-- The length of an outage up to now, in grains: on network time where that has run throughout, else on the RTC. -/
def State.outageLen (s : State) (o : Outage) : Nat :=
  match o.net with
  | some t => (s.netGrains + 2 ^ 64 - t) % 2 ^ 64
  | none => (s.elapsed - o.rtc) * 65536

/-- Outages opened and closed as the services now stand; `dev`: what has just happened is device-attributable. -/
def State.avail (s : State) (dev : Bool) : State :=
  (List.range 3).foldl (fun (s : State) m =>
    let out := s.bit FAULT_AVCFG (16 + m) && s.serviceOut m
    let set (o : Option Outage) (s : State) : State := { s with rep := { s.rep with outage := vset s.rep.outage m o } }
    match vget s.rep.outage m none with
    | none => if out then
        set (some { dev := dev, rtc := s.elapsed, net := if s.timeRuns then some s.netGrains else none }) s
      else s
    | some o =>
      if out then (if s.timeRuns then s else set (some { o with net := none }) s)
      else set none (s.addOutage m o.dev (s.outageLen o))) s

/-! ### Classes (Table 17-1) -/

/-- The action of a class, as FAULT_LAST.ACTION codes it: 0 RECORD, 1 RETRY, 2 MAPOUT, 3 PORTRESET, 4 RELOAD, 5 PGRET,
6 THROTTLE, 7 DOMCYCLE, 8 WARM. -/
def classAction (c : Nat) : Nat :=
  match c with
  | 1 => 4 | 2 => 4 | 3 => 3 | 4 => 5 | 5 => 2 | 6 => 1 | 7 => 1 | 8 => 7 | 9 => 7 | 10 => 6 | 11 => 8 | 12 => 7 | 13 => 1
  | 14 => 8 | 15 => 8
  | _ => 0

/-- The recovery window of a class in 10 ms units; 0 for none. -/
def classWindow (c : Nat) : Nat :=
  match c with
  | 1 => 1000 | 2 => 1000 | 3 => 100 | 4 => 1000 | 5 => 6000 | 6 => 12000 | 7 => 100 | 8 => 100 | 9 => 100 | 10 => 6000
  | 12 => 100 | 13 => 100
  | _ => 0

/-- The domains a fault of a class is charged to, from the block ID it is raised against (Table 17-1, R452): none for
External, PD0 for AON. -/
def classCharge (c block : Nat) : List Nat :=
  match c with
  | 10 => [4] | 11 => [0] | 13 => [14] | 14 => [14] | 15 => [0] | 16 => [] | 17 => [] | 18 => [] | 19 => []
  | _ => [block / 16]

/-- The rank of an action (R387). -/
def actionRank (a : Nat) : Nat := if a = 0 then 0 else if a ≤ 6 then 1 else if a = 7 then 2 else 3

/-- An action raised by one rank (R451): RECORD and WARM are never raised. -/
def raiseAction (a : Nat) : Nat := if a = 0 then 0 else if a ≤ 6 then 7 else 8

/-- The more severe of two actions. -/
def severer (a b : Nat) : Nat := if actionRank a < actionRank b then b else a

/-- The action that results from a new fault and one open window (R391); `none` when the pair does not interact. -/
def pairAction (cls block : Nat) (doms : List Nat) (act : Nat) (w : FaultWin) : Option Nat :=
  if doms.contains 0 || cls = 14 || block = 0x01 || w.doms.contains 0 || w.cls = 14 || w.block = 0x01 then some 8
  else if doms.any fun d => w.doms.contains d then
    (if actionRank w.action ≥ 2 then some 8 else some (severer 7 act))
  else none

/-- The core of a core's block ID. -/
def blockCore (block : Nat) : Fin 8 := Fin.ofNat 8 (if block / 16 = 1 then block % 16 % 4 else 4 + block % 16 % 4)

/-- A core taken out of service to be loaded: TARM slots cancelled, LOADING (Table 02-14, step 2). -/
def State.beginLoad (s : State) (c : Fin 8) : State :=
  s.modCore c fun k => { k with run := .loading, tarm := Vector.replicate 8 none, latch := Vector.replicate 4 none }

/-- The state an action changes at once (R387). -/
def State.startAction (s : State) (cls block detail : Nat) (value : Word) (doms : List Nat) (act : Nat) (seq : Word) :
    State :=
  match act with
  | 3 => s.resetPort detail
  | 4 => s.beginLoad (blockCore block)
  | 5 => (s.retirePage value.toNat).2
  | 6 => { s with rep := { s.rep with throttle := true } }
  | 7 => s.domCycle doms
  | 8 => s.warm cls seq
  | _ => s

/-- A fault detected (R387, R391, R451): class, block ID it is raised against, detector detail and value, the domains
charged and the class's action before any raise. The fault manager lies in LOG and works while LOG is ON. -/
def State.faultWith (s : State) (cls block detail : Nat) (value : Word) (doms : List Nat) (act0 : Nat) : State :=
  if !s.isOn 14 then s else
  let act1 := if s.bit (FAULT_CLSc_CFG cls) 0 then (if act0 = 0 then 0 else raiseAction act0) else act0
  let act2 := if act1 = 4 ∧ s.fld UPD_RUNENT 3 0 = 15 then 7 else act1
  let pairs := s.rep.wins.filter fun e => !doms.isEmpty && (pairAction cls block doms act2 e.2).isSome
  let act3 := pairs.foldl (fun a e => severer a ((pairAction cls block doms act2 e.2).getD a)) act2
  let act4 := if act3 ≠ 0 ∧ s.rep.wins.length = 8 then 8 else act3
  let cyc := withDependents doms
  let act := if act4 = 7 ∧ (cyc.contains 14 ∨ cyc.contains 9 ∨ ((cyc.contains 1 ∨ cyc.contains 2) ∧ s.fld UPD_RUNENT 3 0 = 15))
    then 8 else act4
  let seq := s.rd LOG_SEQ
  let a0 := word (cls * 2 ^ 24 + block % 256 * 2 ^ 16 + act * 2 ^ 8 + detail % 256)
  let first := pairs.foldl (fun (m : Option Word) e => some (match m with
    | none => e.2.seq
    | some q => if e.2.seq.toNat < q.toNat then e.2.seq else q)) none
  let r := s.mkRec 0xE0 recFAULT a0 value (first.getD 0)
  let s := s.log { r with linked := first.isSome }
  let s := (s.bump (FAULT_CLSc_CNT cls) 31 0).setBit FAULT_STAT 0 true
  let s := if first.isSome then s.setBit FAULT_STAT 1 true else s
  let s := s.wr FAULT_LAST (word (cls * 2 ^ 24 + block % 256 * 2 ^ 16 + act * 2 ^ 8))
  let s := if classWindow cls = 0 then s else
    match (List.range 8).find? fun w => !s.bit (FAULT_OPENw w) 31 with
    | none => s
    | some w =>
      let s := s.wr (FAULT_OPENw w) (word (2 ^ 31 + cls * 2 ^ 24 + block % 256 * 2 ^ 16 + classWindow cls))
      let f : FaultWin := { cls := cls, block := BitVec.ofNat 8 block, doms := doms, action := act, seq := seq }
      { s with rep := { s.rep with wins := s.rep.wins.filter (fun e => e.1 != w) ++ [(w, f)] } }
  let s := if s.bit (FAULT_CLSc_CFG cls) 1 then s.raise 0xE0 0x01 else s
  let s := if s.bit (FAULT_CLSc_CFG cls) 2 then s.freezeJournal 1 seq else s
  let a : FaultAct := { cls := cls, block := BitVec.ofNat 8 block, doms := doms, action := act, seq := seq, a0 := a0
                        value := value, raised := false }
  let s := { s with rep := { s.rep with acts := s.rep.acts ++ [a] } }
  (s.startAction cls block detail value doms act seq).avail true

/-- A fault of a class with the charge and action of Table 17-1. -/
def State.fault (s : State) (cls block detail : Nat) (value : Word) : State :=
  s.faultWith cls block detail value (classCharge cls block) (classAction cls)

end Sys2Proof.Machine
end

