-- ==== Sys2Proof/Machine/Operands.lean ====
section
/-!
DEFINITION. Sys2Proof/Machine/Operands.lean: the operand forms of the Lupra instructions (R26, Table 02-4): immediates,
branch targets, effective addresses, and the conditions under which a core issues an instruction at all.
-/
namespace Sys2Proof.Machine

/-- An 18-bit immediate sign-extended (R26). -/
def simm (imm : BitVec 18) : Word := imm.signExtend 32

/-- An 18-bit immediate zero-extended (ANDI, ORI, XORI; R26). -/
def zimm (imm : BitVec 18) : Word := imm.zeroExtend 32

/-- A 14-bit signed word offset as a byte displacement (format B). -/
def boff (off : BitVec 14) : Word := (off.signExtend 32) <<< 2

/-- The effective byte address of a load or store: ga + imm18 (Table 02-6). -/
def State.ea (s : State) (c : Fin 8) (ga : Fin 16) (imm : BitVec 18) : Nat := (s.gpr c ga + simm imm).toNat

/-- May the core fetch from an address: its instruction scratchpad or the boot ROM (R20)? -/
def fetchable (a : Nat) : Bool := a < 0x10000 || (0x01000000 ≤ a && a < 0x01004000)

/-- Are the clocks of a domain frozen through DBG_HALT (R354)? -/
def State.frozen (s : State) (d : Nat) : Bool := d != 0 && s.bit DBG_HALT (15 + d)

/-- Does core `c` issue instructions now: RUNNING, its domain ON and not frozen, and not halted by the debugger but for a single
step (Table 02-17, R45, R354)? -/
def State.issues (s : State) (c : Fin 8) : Bool :=
  (s.core c).run = .running && s.isOn (coreDom c) && !s.frozen (coreDom c) && (!(s.core c).dbgHalt || (s.core c).dbgStep)

/-- An instruction issued by core `c`: nothing happens unless the core issues (log entry 8); a pc outside the fetch
windows raises ACCESS (R20). -/
def State.issue (s : State) (c : Fin 8) (f : State → State) : State :=
  if s.issues c then
    let s := if (s.core c).dbgStep then s.modCore c fun k => { k with dbgStep := false } else s
    if fetchable (s.core c).pc.toNat then f s else s.coreEvent c 1
  else s

/-- A result written to gd and the pc moved on. -/
def State.result (s : State) (c : Fin 8) (gd : Fin 16) (v : Word) : State := (s.setGpr c gd v).advance c

/-- ILLEGAL_INSN: no state of the instruction changes, and execution goes on at the next word (R26; log entry 9). -/
def State.illegal (s : State) (c : Fin 8) : State := (s.advance c).coreEvent c 3

/-- An instruction that is illegal when `bad` holds, checked before any state changes (R26). -/
def State.legal (s : State) (c : Fin 8) (bad : Bool) (f : State → State) : State := if bad then s.illegal c else f s

/-- A completion word (R28): status in [7:0], detail in [15:8], value in [31:16]. -/
def completion (status : Nat) (detail : Nat := 0) (value : Nat := 0) : Word :=
  word (status % 256 + 256 * (detail % 256) + 65536 * (value % 65536))

/-- In REPLAY, the recorded RESULT that has reached core c of the replay set and that it has not taken (R407). -/
def State.recorded (s : State) (c : Fin 8) (kind : Nat) : Option JEnt :=
  if s.mode = 9 && s.bit REPLAY_CTL c.val then
    (tabGet (fun _ => none) s.rep.replay.input c.val).filter fun (e : JEnt) => e.kind == kind
  else none

/-- The recorded input of core c taken. -/
def State.takeInput (s : State) (c : Fin 8) : State :=
  { s with rep := { s.rep with replay := { s.rep.replay with
    input := tabSet (fun _ => none) s.rep.replay.input c.val none } } }

/-- The word an instruction returns: in REPLAY the recorded one, where one has come (R407). -/
def State.replayed (s : State) (c : Fin 8) (v : Word) : Word × State :=
  match s.recorded c 5 with
  | some e => (e.data.headD v, s.takeInput c)
  | none => (v, s)

/-- A device instruction completes with a status (R28). -/
def State.complete (s : State) (c : Fin 8) (gd : Fin 16) (status : Nat) (detail : Nat := 0) (value : Nat := 0) : State :=
  let r := s.replayed c (completion status detail value)
  r.2.result c gd r.1

/-- A core that issued a device instruction waits for its completion; the instruction has committed, so the pc already
stands at the next one (R29). -/
def State.waitOn (s : State) (c : Fin 8) (w : Wait) : State :=
  (s.advance c).modCore c fun k => { k with run := .waiting w }

/-- A core that waits at TWAIT, MWAIT, PKTGET or PKTPUT: nothing is committed, and the pc stays at the instruction (R29,
R191). -/
def State.waitAt (s : State) (c : Fin 8) (w : Wait) : State := s.modCore c fun k => { k with run := .waiting w }

/-- The word of a wait at the instruction itself arrives: gd written, pc moved on, the core runs. -/
def State.finishAt (s : State) (c : Fin 8) (v : Word) : State :=
  match (s.core c).run with
  | .waiting w =>
    let r := s.replayed c v
    (r.2.result c w.gd r.1).modCore c fun k => { k with run := .running }
  | _ => s

/-- The completion word of a committed instruction arrives (R29): written to gd when the core still waits, else kept in
the result latch until the RETE that returns there. `p` picks the instruction. -/
def State.finish (s : State) (c : Fin 8) (p : Wait → Bool) (v : Word) : State :=
  let r := s.replayed c v
  let late (s : State) : State := s.modCore c fun k => { k with latch := k.latch.map fun l =>
    match l with
    | some (.waiting w) => if p w then some (.done w.gd r.1) else l
    | _ => l }
  let held : Bool := (s.core c).latch.toList.any fun l => match l with
    | some (.waiting w) => p w
    | _ => false
  match (s.core c).run with
  | .waiting w => if p w then (r.2.setGpr c w.gd r.1).modCore c fun k => { k with run := .running }
    else if held then late r.2 else s
  | _ => if held then late r.2 else s

/-- A device instruction acts only while the domains that serve it are ON; else it completes NOTREADY with the first
such domain (R30). -/
def State.serve (s : State) (c : Fin 8) (gd : Fin 16) (doms : List Nat) (f : State → State) : State :=
  match doms.find? fun d => !s.isOn d with
  | some d => s.complete c gd stNOTREADY d
  | none => f s

/-- Shadow index of an agent: cores 0–7, the host 8, the debug port 9. -/
def agentIdx : Agent → Nat
  | .core c => c.val
  | .host => 8
  | .qspi => 8
  | .debug => 9

/-- Does the KEYS block hold a grant of a purpose (R261)? -/
def State.granted (s : State) (purpose : Nat) : Bool := s.fld KEYS_AUTHSTAT 3 0 == purpose && s.fld KEYS_AUTHSTAT 31 16 != 0

/-- The grant consumed (R34, R261, R400). -/
def State.consumeGrant (s : State) : State := s.wr KEYS_AUTHSTAT 0

/-- The words of a descriptor that an instruction reads at issue, at an address of the core's own map (Table 02-1). -/
def State.desc (s : State) (c : Fin 8) (a : Word) (n : Nat) : List Word := s.words (corePhys c a.toNat) n

end Sys2Proof.Machine
end

