-- ==== Sys2Proof/Machine/Qfab.lean ====
section
/-!
DEFINITION. Sys2Proof/Machine/Qfab.lean: the queue fabric (07): frame ports, parity and poison, credits and their audit,
descriptor queues, tokens, host windows, and the instructions PKTGET and PKTPUT. The crossing latencies of Table 07-3
are left out (timing, log entry 12); a credit in transit returns by CREDIT_RETURN.
-/
namespace Sys2Proof.Machine

/-- Even parity over the 64 data bits with SOF, EOF and PA (R184): the parity bit that makes the count of ones even. -/
def fwordParity (d : BitVec 64) (sof eof pa : Bool) : Bool :=
  ((List.range 64).foldl (fun p i => p ^^ d.getLsbD i) false) ^^ sof ^^ eof ^^ pa

/-- The word a write port forms: EOF goes with PA, and the parity is computed (R184). -/
def mkFWord (d : BitVec 64) (sof eof pa : Bool) : FWord :=
  { data := d, sof := sof, eof := eof || pa, pa := pa, parity := fwordParity d sof (eof || pa) pa }

/-- Is the parity of a stored word right? -/
def FWord.ok (w : FWord) : Bool := w.parity == fwordParity w.data w.sof w.eof w.pa

/-- May the producer of a port write now: a credit in credit mode, room in back-pressure mode (R190, R193)? -/
def Port.room (p : Port) (q : Nat) : Bool := if p.bp then p.words.length < portDepth q else p.cred > 0

/-- A word appended to a port, spending a credit in credit mode (R190). -/
def Port.push (p : Port) (w : FWord) : Port :=
  { p with words := p.words ++ [w], cred := if p.bp then p.cred else p.cred - 1, wIn := !w.eof }

/-- A word of a lane or of the ISM receiver put into the hold buffer of a microcode swap, its credit returned (R371). With
the 16 KB full the word waits at its producer. -/
def State.holdWord (s : State) (q : Nat) (w : FWord) : State :=
  if s.qfab.hold.length < 2048 then
    let s := { s with qfab := { s.qfab with hold := s.qfab.hold ++ [(q, w)] } }
    s.setPort q { s.port q with wIn := !w.eof }
  else s

/-- Words that the producer holds go into the port while it has room (R190). -/
def Port.feed (p : Port) (q : Nat) : Nat → Port
  | 0 => p
  | n + 1 => match p.wait with
    | [] => p
    | w :: t => if p.room q then ({ p with wait := t }.push w).feed q n else p

/-- A word that an engine delivers to its port: written when the port has room, else held by the engine (R190); discarded
while PKT is not ON (R199). -/
def State.produce (s : State) (q : Nat) (w : FWord) : State :=
  if !s.isOn 7 then s
  else if s.upd.pktPause ∧ q ≤ 64 then s.holdWord q w
  else let p := s.port q
    s.setPort q ({ p with wait := p.wait ++ [w] }.feed q 64)

/-- PORT_WRITE (R184, R190, R193): the producer of port q writes a word; with no credit or no room it holds the word until
there is (R190), and while PKT is not ON the word is discarded (R199). -/
def execPortWrite (q : Nat) (data : BitVec 64) (sof eof pa : Bool) (s : State) : Host.Outcome State Fault Refusal :=
  .next (if q < 76 then s.produce q (mkFWord data sof eof pa) else s)

/-- The hold buffer drained into its ports ahead of what they hold, in arrival order (R371). -/
def State.drainHold (s : State) : State :=
  let s' := { s with qfab := { s.qfab with hold := [] } }
  (List.range 65).foldl (fun (t : State) q =>
    let ws := (s.qfab.hold.filter fun e => e.1 == q).map (·.2)
    if ws = [] then t else
      let p := t.port q
      t.setPort q { p with words := ws ++ p.words, held := p.held + ws.length }) s'

/-! ### Reading a port -/

/-- A place freed: in credit mode its credit is in transit to the producer (R190). -/
def Port.free (p : Port) : Port :=
  if 0 < p.held then { p with held := p.held - 1 } else if p.bp then p else { p with transit := p.transit + 1 }

/-- Is the port one of those that share the CH tokens (R196)? -/
def chPort (q : Nat) : Bool := q = 64 || (68 ≤ q && q ≤ 71) || q = 74

/-- A poisoned word counted, and the storm of R189 when more than PSTORM fall within 1 ms. -/
def State.poisoned (s : State) (q : Nat) : State :=
  let p := s.port q
  let ts := p.poison.filter (fun t => decide (s.clock < t + 1000000)) ++ [s.clock]
  let s := s.setPort q { p with poison := ts }
  let s := (s.bump (QFAB_Qq_CNT q) 31 24).setBit QFAB_STAT 1 true
  if s.fld QFAB_CTL 23 16 < ts.length then
    ((s.raise 0x74 0x02).setBit QFAB_STAT 2 true).fault 3 0x74 q 0
  else s

/-- What the read port does with its head word `w` (R185, R188): the port after it, and what is delivered. -/
def Port.take (p : Port) (w : FWord) : Port × Delivered :=
  let nothing : Delivered := ⟨0, false, false, false, false, false⟩
  let p := { p with words := p.words.tail }.free
  if !w.ok then
    (if p.disc = .none then ({ p with rIn := false, disc := .parity }, ⟨w.data, true, !p.rIn, true, true, true⟩)
     else ({ p with disc := .parity }, nothing))
  else match p.disc with
  | .parity =>
    if w.sof then ({ p with disc := .none, rIn := !w.eof }, ⟨w.data, true, true, w.eof, w.pa, false⟩)
    else ({ p with disc := if w.eof then .none else .parity }, nothing)
  | .frame => ({ p with disc := if w.eof then .none else .frame }, nothing)
  | .none =>
    if !p.rIn && !w.sof then (p, nothing)
    else if p.rIn && w.sof then
      ({ p with rIn := false, disc := if w.eof then .none else .frame }, ⟨0, true, false, true, true, true⟩)
    else ({ p with rIn := !w.eof }, ⟨w.data, true, w.sof, w.eof, w.pa, false⟩)

/-- The counters of a delivered word (R185, R188, R195): POISON and the storm, FRAMING, ABORT, frames passed. -/
def State.countTake (s : State) (q : Nat) (p : Port) (w : FWord) (d : Delivered) : State :=
  let stray := w.ok && p.disc == .none && !p.rIn && !w.sof
  let inside := w.ok && p.disc == .none && p.rIn && w.sof
  let s := if !w.ok then s.poisoned q else s
  let s := if stray || inside then s.bump (QFAB_Qq_CNT q) 15 8 else s
  let s := if d.valid && d.pa && !d.poison then s.bump (QFAB_Qq_CNT q) 23 16 else s
  if d.valid && d.eof then s.bump (QFAB_Qq_FRM q) 31 0 else s

/-- The token that the SOF of a frame takes (R196): lane q's own for ports 0–63, a CH token for the shared ports. `none`
when no CH token is free and the SOF is held. -/
def State.takeToken (s : State) (q : Nat) : Option State :=
  if q < 64 then some { s with qfab := { s.qfab with lane := s.qfab.lane ||| (1 <<< q) } }
  else if chPort q then
    (if s.qfab.ch < 16 then some { s with qfab := { s.qfab with ch := s.qfab.ch + 1 } } else none)
  else some s

/-- A frame held for want of a token, counted: FLIGHTCNT, FLIGHTFULL, and 0x74 : 0x03 at the first (R196). -/
def State.heldCount (s : State) (hi lo : Nat) : State :=
  let s := s.bump QFAB_FLIGHTCNT hi lo
  if s.bit QFAB_STAT 3 then s else (s.setBit QFAB_STAT 3 true).raise 0x74 0x03

/-- The consumer reads the head word of port q (R185–R188, R196). `upset`: the word's stored parity was disturbed. -/
def State.portRead (s : State) (q : Nat) (upset : Bool) : State :=
  let p := s.port q
  match p.words with
  | [] => s.setPort q { p with out := ⟨0, false, false, false, false, false⟩ }
  | w :: _ =>
    let w := if upset then { w with parity := !w.parity } else w
    let opens := w.ok && w.sof && !p.rIn && p.disc != .frame
    match (if opens then s.takeToken q else some s) with
    | none =>
      let s := if s.qfab.heldCh.contains q then s
        else { s with qfab := { s.qfab with heldCh := insertNat q s.qfab.heldCh } }
      (s.setPort q { p with out := ⟨0, false, false, false, false, false⟩ }).heldCount 15 0
    | some s =>
      let r := p.take w
      let f := if !r.2.valid then p.frame else if r.2.sof then [r.2.data] else p.frame ++ [r.2.data]
      (s.setPort q ({ r.1 with out := r.2, frame := f }.feed q 64)).countTake q p w r.2

/-- Does the packet engine read the port (Table 07-1)? It reads none in a scope-1 pause (R371). -/
def enginePort (q : Nat) : Bool := q ≤ 64 || (69 ≤ q && q ≤ 71) || q == 74

/-- PORT_READ (R185): a consumer reads a word; while PKT is not ON nothing is read. -/
def execPortRead (q : Nat) (upset : Bool) (s : State) : Host.Outcome State Fault Refusal :=
  .next (if q < 76 ∧ s.isOn 7 ∧ !(s.upd.pktPause && enginePort q) then s.portRead q upset else s)

/-! ### Credits -/

/-- A PKTPUT waiting at the queue gets its turn, in core order (R191, R198). -/
def State.servePuts (s : State) (d : Nat) : State :=
  (List.finRange 8).foldl (fun (s : State) (c : Fin 8) =>
    match (s.core c).run with
    | .waiting (.pktput _ q i) =>
      if q = d ∧ s.isOn 7 ∧ ((s.descq d).cred > 0 ∨ ((s.descq d).bp ∧ (s.descq d).items.length < s.fld (QFAB_DQLIMd d) 14 0)) then
        let x := s.descq d
        (s.setDescq d { x with items := x.items ++ [(i, false)], cred := x.cred - 1 }).finishAt c (completion stOK)
      else s
    | _ => s) s

/-- CREDIT_RETURN (R190): a freed place of port q returns its credit to the producer. -/
def execCreditReturn (q : Nat) (s : State) : Host.Outcome State Fault Refusal :=
  let p := s.port q
  .next (if q < 76 ∧ 0 < p.transit then
      s.setPort q ({ p with transit := p.transit - 1, cred := p.cred + 1 }.feed q 64) else s)

/-- A failed audit (R192): back-pressure mode, CREDIT cleared, flags, count, event and record. `port`: the record's
ARG0. -/
def State.auditFailed (s : State) (port cfg expected found : Nat) : State :=
  let s := (s.setBit cfg 31 false).setBit QFAB_STAT 0 true
  (s.raise 0x74 0x01).record 0x74 recCREDIT_AUDIT (word port) (word expected) (word found)

/-- CREDIT_AUDIT (R192) of port `i`, or of descriptor queue `i` with `dq`. `found`: the count an upset has left in the
producer's credit counter, when it has changed it. -/
def execCreditAudit (dq : Bool) (i : Nat) (found : Option Nat) (s : State) : Host.Outcome State Fault Refusal :=
  .next (if ¬ s.bit QFAB_CTL 0 ∨ ¬ s.isOn 7 then s
    else if dq then
      (if 256 ≤ i then s else
        let x := s.descq i
        let x := { x with cred := found.getD x.cred }
        let lim := s.fld (QFAB_DQLIMd i) 14 0
        if x.bp ∨ x.cred + x.items.length = lim then s.setDescq i x
        else (s.setDescq i { x with bp := true }).auditFailed (0x100 + i) (QFAB_DQLIMd i) (lim - x.items.length) x.cred)
    else if 76 ≤ i then s else
      let p := s.port i
      if p.bp then s
      else if p.words ≠ [] ∨ 0 < p.transit then s.setPort i { p with noaud := true }
      else
        let p := { p with cred := found.getD p.cred, noaud := false }
        if p.cred = portDepth i then s.setPort i p
        else ((s.setPort i { p with bp := true }).bump (QFAB_Qq_CNT i) 7 0).auditFailed i (QFAB_Qq_CFG i) (portDepth i) p.cred)

/-- CREDIT_MODE_RESTORE (R193): a pending return to credit mode takes effect while the port is empty. -/
def execCreditModeRestore (dq : Bool) (i : Nat) (s : State) : Host.Outcome State Fault Refusal :=
  .next (if dq then
      (let x := s.descq i
       if i < 256 ∧ x.cpend ∧ x.items = [] then
         s.setDescq i { x with bp := false, cpend := false, cred := s.fld (QFAB_DQLIMd i) 14 0 }
       else s)
    else
      let p := s.port i
      if i < 76 ∧ p.cpend ∧ p.words = [] then
        s.setPort i { p with bp := false, cpend := false, cred := portDepth i, transit := 0 }
      else s)

/-- A write of QFAB_Qq_CFG (R193, R194): CREDIT 0 puts the port in back-pressure mode, CREDIT 1 there makes the return
pending; CTHR is RO on ports 0–67, 0 is written as 1 and above the depth as the depth. -/
def State.writePortCfg (s : State) (q : Nat) (v : Word) : State :=
  let c := if q ≤ 67 then s.fld (QFAB_Qq_CFG q) 6 0 else max 1 (min (bits v 6 0) (portDepth q))
  let p := s.port q
  let s := s.wr (QFAB_Qq_CFG q) (word (b2n (bitAt v 31) * 2 ^ 31 + c))
  if bitAt v 31 then (if p.bp then s.setPort q { p with cpend := true } else s)
  else s.setPort q { p with bp := true, cpend := false }

/-- A write of QFAB_DQLIMd (R191, R193): LIM 1–16,384, 0 written as 1; the credits follow the limit. -/
def State.writeDqLim (s : State) (d : Nat) (v : Word) : State :=
  let lim := max 1 (min (bits v 14 0) 16384)
  let x := s.descq d
  let s := s.wr (QFAB_DQLIMd d) (word (b2n (bitAt v 31) * 2 ^ 31 + lim))
  let x := { x with cred := lim - x.items.length }
  if bitAt v 31 then s.setDescq d (if x.bp then { x with cpend := true } else x)
  else s.setDescq d { x with bp := true, cpend := false }

/-! ### Descriptor queues -/

/-- The head of descriptor queue d taken: index and parity-error mark (R187, R189). `upset`: the link memory reads with a
parity error. -/
def State.dqPop (s : State) (d : Nat) (upset : Bool) : Option (Nat × Bool) × State :=
  let x := s.descq d
  match x.items with
  | [] => (none, s)
  | (i, e) :: t =>
    let s := s.setDescq d { x with items := t, cred := if x.bp then x.cred else x.cred + 1 }
    let e := e || upset
    (some (i, e), (if e then s.bump QFAB_DQERR 31 0 else s).servePuts d)

/-- May a descriptor be appended to queue d now (R191, R193)? -/
def State.dqRoom (s : State) (d : Nat) : Bool :=
  let x := s.descq d
  if x.bp then x.items.length < s.fld (QFAB_DQLIMd d) 14 0 else x.cred > 0

/-- The word PKTGET returns for a descriptor: VALID, the parity error in bit 30, the index (R189, Table 02-8). -/
def pktWord (i : Nat) (e : Bool) : Word := word (2 ^ 31 + b2n e * 2 ^ 30 + i % 2 ^ 24)

/-- A descriptor appended; a core waiting at PKTGET for the queue completes by PKTGET_WAIT_DONE. -/
def State.dqPush (s : State) (d i : Nat) : State :=
  let x := s.descq d
  s.setDescq d { x with items := x.items ++ [(i, false)], cred := x.cred - 1 }

/-- PKTGET (R187, R30): imm18[7:0] the queue, [8] WAIT; other bits reserved, ga must be g0. While PKT is not ON it returns
gd[31] clear. `upset` as in `State.dqPop`. -/
def execPktget (c : Fin 8) (gd ga : Fin 16) (imm : BitVec 18) (upset : Bool) (s : State) :
    Host.Outcome State Fault Refusal :=
  .next (s.issue c fun s => s.legal c (ga != 0 || imm.toNat / 512 != 0) fun s =>
    let d := imm.toNat % 256
    if let some e := s.recorded c 5 then ((s.dqPop d upset).2.takeInput c).result c gd (e.data.headD 0)
    else if !s.isOn 7 then s.result c gd 0
    else match s.dqPop d upset with
    | (some (i, e), s) => s.result c gd (pktWord i e)
    | (none, s) => if imm.getLsbD 8 then s.waitAt c (.pktget gd d) else s.result c gd 0)

/-- PKTGET_WAIT_DONE (R29, R187): the waiting PKTGET of core c takes the descriptor that has become available. -/
def execPktgetWaitDone (c : Fin 8) (upset : Bool) (s : State) : Host.Outcome State Fault Refusal :=
  .next (match (s.core c).run with
    | .waiting (.pktget _ d) =>
      if !s.isOn 7 then s else
      match s.dqPop d upset with
      | (some (i, e), s) => s.finishAt c (pktWord i e)
      | (none, s) => s
    | _ => s)

/-- PKTPUT (R191, R30): appends the index in ga to queue imm18[7:0]; without a credit the core waits at it. -/
def execPktput (c : Fin 8) (gd ga : Fin 16) (imm : BitVec 18) (s : State) : Host.Outcome State Fault Refusal :=
  .next (s.issue c fun s => s.legal c (imm.toNat / 256 != 0) fun s => s.serve c gd [7] fun s =>
    let d := imm.toNat % 256
    let i := bits (s.gpr c ga) 23 0
    if s.dqRoom d then (s.dqPush d i).complete c gd stOK else s.waitAt c (.pktput gd d i))

/-! ### Host windows (R197) -/

/-- HRX_POP: a read of QFAB_HRX_STAT pops the head word of port 75 into HRX_LO and HRX_HI and returns its status; an empty
port returns bit 31 set and changes nothing. -/
def State.hrxPop (s : State) (upset : Bool) : State :=
  if (s.port 75).words = [] then { s with bus := 0x80000000 } else
  let s := s.portRead 75 upset
  let o := (s.port 75).out
  let s := (s.wr QFAB_HRX_LO (o.data.setWidth 32)).wr QFAB_HRX_HI ((o.data >>> 32).setWidth 32)
  { s with bus := word (b2n o.poison * 16 + b2n o.valid * 8 + b2n o.sof * 4 + b2n o.eof * 2 + b2n o.pa) }

/-- HRX_POP (R197). -/
def execHrxPop (upset : Bool) (s : State) : Host.Outcome State Fault Refusal :=
  .next (if s.isOn 7 then s.hrxPop upset else { s with bus := 0 })

/-- A write of QFAB_HTX_TAG pushes the word of HTX_LO and HTX_HI into port 74; with no credit it is ignored and counts in
QFAB_HTXOVR. -/
def State.htxPush (s : State) (v : Word) : State :=
  let p := s.port 74
  if p.room 74 then
    s.setPort 74 (p.push (mkFWord ((s.rd QFAB_HTX_HI) ++ (s.rd QFAB_HTX_LO)) (bitAt v 2) (bitAt v 1) (bitAt v 0)))
  else if p.bp then s else s.bump QFAB_HTXOVR 31 0

/-- HTX_PUSH (R197): in back-pressure mode a push to a full port is held, so the word is not taken yet. -/
def execHtxPush (tag : Word) (s : State) : Host.Outcome State Fault Refusal :=
  .next (if s.isOn 7 then s.htxPush tag else s)

/-- A read of QFAB_HDQPOP takes the head of the queue QFAB_HDQSEL names. -/
def State.hdqPop (s : State) (upset : Bool) : State :=
  match s.dqPop (s.fld QFAB_HDQSEL 7 0) upset with
  | (some (i, e), s) => { s with bus := word (b2n e * 2 ^ 30 + i % 2 ^ 24) }
  | (none, s) => { s with bus := 0x80000000 }

/-- HDQ_POP (R197). -/
def execHdqPop (upset : Bool) (s : State) : Host.Outcome State Fault Refusal :=
  .next (if s.isOn 7 then s.hdqPop upset else { s with bus := 0 })

/-- A write of QFAB_HDQPUSH appends to the selected queue; an index above 16,383, or a push without credit, is ignored and
counts in QFAB_HTXOVR. -/
def State.hdqPush (s : State) (v : Word) : State :=
  let d := s.fld QFAB_HDQSEL 7 0
  let i := bits v 23 0
  if i ≤ 16383 ∧ s.dqRoom d then s.dqPush d i else s.bump QFAB_HTXOVR 31 0

/-- HDQ_PUSH (R197). -/
def execHdqPush (v : Word) (s : State) : Host.Outcome State Fault Refusal :=
  .next (if s.isOn 7 then s.hdqPush v else s)

/-! ### Power and reset (R199) -/

/-- Every frame port and descriptor list emptied, every token returned. -/
def State.qfabEmpty (s : State) : State :=
  { s with qfab := { ports := [], dq := [], lane := 0, tx := 0, ch := 0, hold := [], heldCh := [], heldTx := [] } }

/-- A producer that leaves ON in mid-frame: the fabric writes an ABORT word and the port's credits go back to the depth
(R195, R199; log entry 12). -/
def State.producerOff (s : State) (q : Nat) : State :=
  let p := s.port q
  let p := if p.wIn then { p with words := p.words ++ [mkFWord 0 false true true], wIn := false } else p
  s.setPort q { p with wait := [], cred := portDepth q - p.words.length, transit := 0 }

end Sys2Proof.Machine
end

