-- ==== Sys2Proof/Machine/Flags.lean ====
section
/-!
DEFINITION. Sys2Proof/Machine/Flags.lean: the Lupra cores have no condition-code register (Table 02-3 lists every special
register), so no instruction sets a flag; conditions are computed from operands where they are used. The comparisons and
bit tests of the set and branch instructions (Tables 02-5 and 02-7) stand here.
-/
namespace Sys2Proof.Machine

/-- SLT: 1 when ga is less than gb as signed numbers, else 0. -/
def setLt (a b : Word) : Word := if a.slt b then 1 else 0

/-- SLTU: 1 when ga is less than gb as unsigned numbers, else 0. -/
def setLtu (a b : Word) : Word := if a.ult b then 1 else 0

/-- The condition of BCS by cond2: 0 EQ, 1 NE, 2 LT, 3 GE, signed (Table 02-7). -/
def condBcs (cond : BitVec 2) (a b : Word) : Bool :=
  match cond.toNat with
  | 0 => a == b
  | 1 => a != b
  | 2 => a.slt b
  | _ => !a.slt b

/-- The condition of BCU by cond2: 0 LTU, 1 GEU, 2 BTST, 3 BTCLR (Table 02-7). -/
def condBcu (cond : BitVec 2) (a b : Word) : Bool :=
  match cond.toNat with
  | 0 => a.ult b
  | 1 => !a.ult b
  | 2 => (a &&& b) != 0
  | _ => (a &&& b) == 0

end Sys2Proof.Machine
end

