-- ==== Sys2Proof/Machine/Seq.lean ====
section
/-!
DEFINITION. Sys2Proof/Machine/Seq.lean: the sequencer cores (02): branches and jumps, the SYS group, special registers,
events and handlers, the watchdog, the DMA channels, mailbox rings and retirement.
-/
namespace Sys2Proof.Machine

/-! ### Branches and jumps (Table 02-7) -/

/-- A taken or not taken branch: the branch's own address plus 4 × off14, or the next word (R26). -/
def State.branch (s : State) (c : Fin 8) (taken : Bool) (off : BitVec 14) : State :=
  if taken then s.modCore c fun k => { k with pc := k.pc + boff off } else s.advance c

/-- BCS (R27): signed conditions. -/
def execBcs (c : Fin 8) (ga gb : Fin 16) (cond rsv : BitVec 2) (off : BitVec 14) (s : State) :
    Host.Outcome State Fault Refusal :=
  .next (s.issue c fun s => s.legal c (rsv != 0) fun s => s.branch c (condBcs cond (s.gpr c ga) (s.gpr c gb)) off)

/-- BCU (R27): unsigned conditions and bit tests. -/
def execBcu (c : Fin 8) (ga gb : Fin 16) (cond rsv : BitVec 2) (off : BitVec 14) (s : State) :
    Host.Outcome State Fault Refusal :=
  .next (s.issue c fun s => s.legal c (rsv != 0) fun s => s.branch c (condBcu cond (s.gpr c ga) (s.gpr c gb)) off)

/-- JAL (R27): gd ← pc + 4, pc ← pc + 4 × imm18; ga must be g0 (R26). -/
def execJal (c : Fin 8) (gd ga : Fin 16) (imm : BitVec 18) (s : State) : Host.Outcome State Fault Refusal :=
  .next (s.issue c fun s => s.legal c (ga != 0) fun s =>
    let pc := (s.core c).pc
    (s.setGpr c gd (pc + 4)).modCore c fun k => { k with pc := pc + (simm imm <<< 2) })

/-- JALR (R27): gd ← pc + 4, pc ← ga + imm18 with bits [1:0] of the sum cleared. -/
def execJalr (c : Fin 8) (gd ga : Fin 16) (imm : BitVec 18) (s : State) : Host.Outcome State Fault Refusal :=
  .next (s.issue c fun s =>
    let pc := (s.core c).pc
    let t := (s.gpr c ga + simm imm) &&& ~~~(3 : Word)
    (s.setGpr c gd (pc + 4)).modCore c fun k => { k with pc := t })

/-! ### Special registers (R25, Table 02-3) -/

/-- STATUS as MFS reads it. -/
def Core.status (k : Core) : Word := word (k.level.val * 16 + b2n k.even)

/-- The value of a special register, and the core after the read (a read of CYCLO captures CYCHI). -/
def Core.readSpr (k : Core) (c : Fin 8) (n : Nat) : Word × Core :=
  match n with
  | 0x000 => (word c.val, k)
  | 0x001 => (k.status, k)
  | 0x002 => (k.evage, k)
  | 0x003 => (k.evpend, k)
  | 0x004 => (k.evmask, k)
  | 0x005 => (k.evlvl0, k)
  | 0x006 => (k.evlvl1, k)
  | 0x007 => (k.evvec, k)
  | 0x008 => (word (k.evline.get k.level).val, k)
  | 0x010 => (k.epc.get 0, k)
  | 0x011 => (k.epc.get 1, k)
  | 0x012 => (k.epc.get 2, k)
  | 0x014 => (k.estat.get 0, k)
  | 0x015 => (k.estat.get 1, k)
  | 0x016 => (k.estat.get 2, k)
  | 0x020 => (k.cyc.setWidth 32, { k with cychi := (k.cyc >>> 32).setWidth 32 })
  | 0x021 => (k.cychi, k)
  | 0x024 => (k.stgmask, k)
  | 0x030 => (k.dmasrc, k)
  | 0x031 => (k.dmadst, k)
  | 0x032 => (k.dmalen, k)
  | 0x033 => (k.dmactl, k)
  | _ => (0, k)

/-- MFS (R25): gd ← special register imm18. -/
def execMfs (c : Fin 8) (gd : Fin 16) (imm : BitVec 18) (s : State) : Host.Outcome State Fault Refusal :=
  .next (s.issue c fun s =>
    let r := (s.core c).readSpr c imm.toNat
    (s.modCore c fun _ => r.2).result c gd r.1)

/-! ### DMA (Table 02-3) -/

/-- The bank of the shared scratch at an address (R22). -/
def sharedBank (a : Nat) : Nat := a / 2 ^ 19 % 4

/-- Is the shared-scratch bank at an address reserved to another core than `c` (R22)? -/
def State.bankDenied (s : State) (c : Fin 8) (a : Nat) : Bool :=
  let n := s.fld SEQ_BANKRES (4 * sharedBank a + 3) (4 * sharedBank a)
  8 ≤ n && n != 8 + c.val

/-- The end of the memory region that holds an address a core's DMA may read from or, with `dst`, write to: 0 for none
(R20, R25; log entry 16). -/
def dmaRegionEnd (a : Nat) (dst : Bool) : Nat :=
  if a < 0x10000 then (if dst then 0x10000 else 0)
  else if 0x01000000 ≤ a ∧ a < 0x01004000 then (if dst then 0 else 0x01004000)
  else if 0x10000000 ≤ a ∧ a < 0x10010000 then 0x10010000
  else if 0x50000000 ≤ a ∧ a < 0x50200000 then 0x50200000
  else if 0x60000000 ≤ a ∧ a < 0x60800000 then (if dst then 0 else 0x60800000)
  else if 0x80000000 ≤ a ∧ a < 0x8FFC0000 then 0x8FFC0000
  else 0

/-- May core c's DMA use the range: inside one region, in a bank it may reach, with the domain of the memory ON? -/
def State.dmaRange (s : State) (c : Fin 8) (a n : Nat) (dst : Bool) : Bool :=
  decide (a + n ≤ dmaRegionEnd a dst)
    && (!(decide (0x50000000 ≤ a ∧ a < 0x50200000)) ||
        (s.isOn 1 && !s.bankDenied c a && (n == 0 || !s.bankDenied c (a + n - 1))))
    && (!(decide (0x80000000 ≤ a)) || s.isOn 9)

/-- A write of DMACTL (R25): the line is kept; GO starts a transfer, or while BUSY, or for a transfer outside its regions
or of a wrong length, sets ERR. -/
def State.dmaCtl (s : State) (c : Fin 8) (v : Word) : State :=
  let k := s.core c
  let busy := bitAt k.dmactl 31
  let err := bitAt k.dmactl 30
  let line := bits v 8 4
  let base := word (b2n busy * 2 ^ 31 + line * 16)
  if !bitAt v 0 then s.modCore c fun k => { k with dmactl := base + word (b2n err * 2 ^ 30) }
  else if busy then s.modCore c fun k => { k with dmactl := k.dmactl ||| 0x40000000 }
  else
    let n := k.dmalen.toNat
    let ok := n % 8 == 0 && n ≤ 65536 && s.dmaRange c k.dmasrc.toNat n false && s.dmaRange c k.dmadst.toNat n true
    s.modCore c fun k => { k with dmactl := word (line * 16) + (if ok then 0x80000000 else 0x40000000) }

/-- DMA_GO (R25): core c writes DMACTL with GO. -/
def execDmaGo (c : Fin 8) (v : Word) (s : State) : Host.Outcome State Fault Refusal :=
  .next (if s.issues c then s.dmaCtl c (v ||| 1) else s)

/-- DMA_DONE (R25): the transfer in progress has copied its bytes; BUSY clears and the line of DMACTL[8:4] is raised. -/
def execDmaDone (c : Fin 8) (s : State) : Host.Outcome State Fault Refusal :=
  .next (let k := s.core c
    if bitAt k.dmactl 31 && s.isOn (coreDom c) then
      let data := s.octets (corePhys c k.dmasrc.toNat) k.dmalen.toNat
      let s := s.dmaWrite (corePhys c k.dmadst.toNat) data
      let s := s.modCore c fun k => { k with dmactl := k.dmactl &&& 0x7FFFFFFF }
      s.deliver c (Fin.ofNat 32 (bits k.dmactl 8 4))
    else s)

/-! ### The watchdog (Table 02-3, Table 02-16) -/

/-- The watchdog fault of a core (R387): WDOG with LASTEV 4, or WDOG_BADKICK with LASTEV 5. -/
def State.wdogFault (s : State) (c : Fin 8) (cls : Nat) : State :=
  (s.modCore c fun k => { k with lastev := Fin.ofNat 8 (cls + 3), wdogAt := k.cyc }).fault cls (coreBlock c) c.val 0

/-- WDOG (R387): core c's watchdog period expires. With SEQ_CTLn.WDT 0 there is no watchdog. -/
def execWdog (c : Fin 8) (s : State) : Host.Outcome State Fault Refusal :=
  .next (if s.fld (SEQ_CTLn c.val) 31 28 ≠ 0 ∧ s.isOn (coreDom c) then s.wdogFault c 1 else s)

/-- WDOG_WARN (Table 02-21): at half the period the warning event is raised. -/
def execWdogWarn (c : Fin 8) (s : State) : Host.Outcome State Fault Refusal :=
  .next (if s.fld (SEQ_CTLn c.val) 31 28 ≠ 0 ∧ s.isOn (coreDom c) then s.raise (coreBlock c) 0x02 else s)

/-- A special register written (R25): RO fields and unlisted numbers ignore it; a wrong WDOG value raises
WDOG_BADKICK. -/
def State.writeSpr (s : State) (c : Fin 8) (n : Nat) (v : Word) : State :=
  let m (f : Core → Core) : State := s.modCore c f
  match n with
  | 0x001 => m fun k => { k with even := bitAt v 0 }
  | 0x004 => m fun k => { k with evmask := v }
  | 0x005 => m fun k => { k with evlvl0 := v }
  | 0x006 => m fun k => { k with evlvl1 := v }
  | 0x007 => m fun k => { k with evvec := v &&& ~~~(0x7FF : Word) }
  | 0x010 => m fun k => { k with epc := k.epc.set 0 v }
  | 0x011 => m fun k => { k with epc := k.epc.set 1 v }
  | 0x012 => m fun k => { k with epc := k.epc.set 2 v }
  | 0x014 => m fun k => { k with estat := k.estat.set 0 (v &&& 0x31) }
  | 0x015 => m fun k => { k with estat := k.estat.set 1 (v &&& 0x31) }
  | 0x016 => m fun k => { k with estat := k.estat.set 2 (v &&& 0x31) }
  | 0x024 => m fun k => { k with stgmask := v }
  | 0x028 => if v = 0x5AFE then m fun k => { k with wdogAt := k.cyc } else s.wdogFault c 2
  | 0x030 => m fun k => { k with dmasrc := v }
  | 0x031 => m fun k => { k with dmadst := v }
  | 0x032 => m fun k => { k with dmalen := v }
  | 0x033 => s.dmaCtl c v
  | _ => s

/-- MTS (R25): special register imm18 ← ga. -/
def execMts (c : Fin 8) (ga : Fin 16) (imm : BitVec 18) (s : State) : Host.Outcome State Fault Refusal :=
  .next (s.issue c fun s => (s.advance c).writeSpr c imm.toNat (s.gpr c ga))

/-! ### The SYS group -/

/-- NOP (R27). -/
def execNop (c : Fin 8) (rsv : BitVec 2) (s : State) : Host.Outcome State Fault Refusal :=
  .next (s.issue c fun s => s.legal c (rsv != 0) fun s => s.advance c)

/-- Is an enabled event pending on the core? -/
def Core.enabledPending (k : Core) : Bool := k.evpend &&& k.evmask != 0

/-- WFE (R27, R36): with no enabled event pending the core stops issue, and an entry of its own domain to RET that waits
for this proceeds; else it goes on. -/
def execWfe (c : Fin 8) (rsv : BitVec 2) (s : State) : Host.Outcome State Fault Refusal :=
  .next (s.issue c fun s => s.legal c (rsv != 0) fun s =>
    let s := s.advance c
    if (s.core c).enabledPending then s else
    let s := s.modCore c fun k => { k with run := .wfe }
    s.modDom (coreDom c) fun d => if d.hold == some (.wfe c) then { d with hold := none } else d)

/-- RETE (R38, R24, R29): EPCn and ESTATn restored, the L3 bank exchanged back, a result latched at the level returned to
written; at L0 it is illegal. -/
def execRete (c : Fin 8) (rsv : BitVec 2) (s : State) : Host.Outcome State Fault Refusal :=
  .next (s.issue c fun s => s.legal c (rsv != 0 || (s.core c).level == 0) fun s =>
    let k := s.core c
    let n := k.level.val - 1
    let st := vget k.estat n 0
    let swap (k : Core) : Core := if k.level = 3 then { k with
        gpr := (((k.gpr.set 10 (k.l3.get 0)).set 11 (k.l3.get 1)).set 12 (k.l3.get 2)).set 13 (k.l3.get 3)
        l3 := #v[k.gpr.get 10, k.gpr.get 11, k.gpr.get 12, k.gpr.get 13] } else k
    let back := Fin.ofNat 4 (bits st 5 4)
    let s := s.modCore c fun k => { swap k with pc := vget k.epc n 0, level := back, even := bitAt st 0 }
    let s' := s.modCore c fun k => { k with latch := k.latch.set back.val none back.isLt }
    match k.latch.get back with
    | some (.done gd v) => s'.setGpr c gd v
    | some (.waiting w) => s'.modCore c fun k => { k with run := .waiting w }
    | none => s')

/-- FENCE holds the core until the write buffer is empty, so the stores in it have completed; the stores are done by
`drain`, which LoadStore.lean gives (R27). -/
def State.fence (s : State) (c : Fin 8) (rsv : BitVec 2) (drain : State → State) : State :=
  s.issue c fun s => s.legal c (rsv != 0) fun s => (drain s).advance c

/-! ### Events (R38–R41) -/

/-- The level of a line (EVLVL0, EVLVL1). -/
def Core.lineLevel (k : Core) (i : Nat) : Nat :=
  if i < 16 then bits k.evlvl0 (2 * i + 1) (2 * i) else bits k.evlvl1 (2 * (i - 16) + 1) (2 * (i - 16))

/-- May the pending line enter its handler now (Table 02-10, R38)? -/
def Core.takes (k : Core) (i : Nat) : Bool :=
  bitAt k.evpend i && bitAt k.evmask i && decide (k.level.val < k.lineLevel i) && (k.even || k.lineLevel i == 3)

/-- The arrival cycle of a pending line. -/
def Core.arrived (k : Core) (i : Nat) : BitVec 64 × Bool := tabGet (fun _ => (0, false)) k.arrival i

/-- Is line i taken before line j (R40): higher level, then earlier arrival, then lower number? -/
def Core.before (k : Core) (i j : Nat) : Bool :=
  if k.lineLevel i ≠ k.lineLevel j then decide (k.lineLevel j < k.lineLevel i)
  else if (k.arrived i).1 ≠ (k.arrived j).1 then decide ((k.arrived i).1 < (k.arrived j).1)
  else decide (i < j)

/-- The line whose handler is entered next. -/
def Core.nextLine (k : Core) : Option Nat :=
  (List.range 32).foldl (fun (b : Option Nat) i =>
    if k.takes i then (match b with
      | none => some i
      | some j => if k.before i j then some i else b) else b) none

/-- EVAGE at an L3 entry (R40, R41). -/
def Core.age (k : Core) (i : Nat) : Word :=
  let a := k.arrived i
  let d := (k.cyc - a.1).toNat
  if a.2 then 0x40000000 else if 0xFFFFFF < d then 0x80FFFFFF else word d

/-- Is a wait one that changes nothing outside the core, so that an event abandons it and it issues again (R29)? -/
def Wait.again : Wait → Bool
  | .twait .. => true
  | .mwait .. => true
  | .pktget .. => true
  | .pktput .. => true
  | .scratch => true
  | _ => false

/-- EVENT_ENTRY (R38–R41, Table 02-11): the first line of `nextLine` enters its handler at EVVEC + 64 × line. A committed
instruction that still waits goes to the result latch of the level left; an abandoned one leaves its own address in
EPCn. -/
def State.enterEvent (s : State) (c : Fin 8) : State :=
  let k := s.core c
  match k.nextLine with
  | none => s
  | some i =>
    let l := Fin.ofNat 4 (k.lineLevel i)
    let n := l.val - 1
    let age := if l = 3 then k.age i else k.evage
    let latch := match k.run with
      | .waiting w => if w.again then k.latch else k.latch.set k.level.val (some (.waiting w)) k.level.isLt
      | _ => k.latch
    let s := s.modCore c fun k => { k with
      run := .running, evage := age, latch := latch
      epc := vset k.epc n k.pc, estat := vset k.estat n k.status
      level := l, evline := k.evline.set l.val (Fin.ofNat 32 i) l.isLt
      pc := k.evvec + word (64 * i)
      evpend := k.evpend &&& ~~~(word (2 ^ i))
      arrival := tabSet (fun _ => (0, false)) k.arrival i (0, false)
      gpr := if l = 3 then (((k.gpr.set 10 (k.l3.get 0)).set 11 (k.l3.get 1)).set 12 (k.l3.get 2)).set 13 (k.l3.get 3)
        else k.gpr
      l3 := if l = 3 then #v[k.gpr.get 10, k.gpr.get 11, k.gpr.get 12, k.gpr.get 13] else k.l3 }
    if l = 3 then s.setFld (SEQ_EVMAXn c.val) 23 0 (max (s.fld (SEQ_EVMAXn c.val) 23 0) (bits age 23 0)) else s

/-- May a core take an event: its domain ON, RUNNING, in WFE or WAITING, and not halted or frozen by the debugger
(R39, R354)? -/
def State.takesEvents (s : State) (c : Fin 8) : Bool :=
  s.isOn (coreDom c) && !(s.core c).dbgHalt && !s.frozen (coreDom c) &&
    match (s.core c).run with
    | .running => true
    | .wfe => true
    | .waiting _ => true
    | _ => false

/-- EVENT_ENTRY (R38): a pending enabled event of core c enters its handler when its level permits. -/
def execEventEntry (c : Fin 8) (s : State) : Host.Outcome State Fault Refusal :=
  .next (if s.takesEvents c then s.enterEvent c else s)

/-! ### Mailboxes (R46, R47) -/

/-- The core that a ring to core n reaches: n itself, or its successor when n is retired; `none` when it has none. -/
def State.mailCore (s : State) (n : Fin 8) : Option (Fin 8) :=
  if !s.bit SEQ_RETIRE n.val then some n
  else if s.bit SEQ_SUCC (4 * n.val + 3) then some (Fin.ofNat 8 (s.fld SEQ_SUCC (4 * n.val + 2) (4 * n.val)))
  else none

/-- The inbound doorbell of core n rung (R46, R47). -/
def State.inRing (s : State) (n : Fin 8) : State :=
  match s.mailCore n with
  | none => s.setBit (SEQ_MBSTATn n.val) 9 true
  | some m =>
    if s.bit (SEQ_MBSTATn m.val) 0 then s.bump (SEQ_MBSTATn m.val) 31 24
    else (s.setBit (SEQ_MBSTATn m.val) 0 true).raise (coreBlock m) 0x01

/-- The outbound doorbell of core n rung. -/
def State.outRing (s : State) (n : Fin 8) : State :=
  if s.bit (SEQ_MBSTATn n.val) 8 then s.bump (SEQ_MBSTATn n.val) 23 16
  else (s.setBit (SEQ_MBSTATn n.val) 8 true).hostIrq n.val

/-- IN_RING (R46): the host rings core n. The mailbox registers lie in the core's domain (R448). -/
def execInRing (n : Fin 8) (s : State) : Host.Outcome State Fault Refusal :=
  .next (if s.isOn (coreDom n) then s.inRing n else s)

/-- OUT_RING (R46): core n rings the host. -/
def execOutRing (n : Fin 8) (s : State) : Host.Outcome State Fault Refusal :=
  .next (if s.isOn (coreDom n) then s.outRing n else s)

/-- A reply of the base image on core c (R52): SVC, OP and TAG of the request `head` with a status, the words that follow, and
the outbound doorbell. -/
def State.reply (s : State) (c : Fin 8) (head : Word) (status : Nat) (ws : List Word) : State :=
  let w0 := putBits (putBits head 7 0 status) 31 8 (bits head 31 8)
  let l := (w0 :: ws).take 16
  (((List.range l.length).foldl (fun (s : State) k => s.wr (SEQ_MBOUTn_k c.val k) (l.getD k 0)) s).outRing c)

/-! ### Run control and retirement (R44, R51) -/

/-- A write of SEQ_CTLn (Table 02-16): RUN starts a HALTED core or halts it; it is ignored while RETIRED. -/
def State.writeSeqCtl (s : State) (c : Fin 8) (v : Word) : State :=
  let s := s.wr (SEQ_CTLn c.val) (v &&& 0xF0000101)
  let k := s.core c
  if k.run = .retired ∨ k.run = .loading then s
  else if bitAt v 0 then (if k.run = .halted then s.modCore c fun k => { k with run := .running } else s)
  else s.modCore c fun k => { k with run := .halted }

/-- One core retired (R51): halted, RETIRED, its TARM slots cancelled, with a CORE_RETIRED record. -/
def State.retireCore (s : State) (c : Fin 8) : State :=
  let s := s.modCore c fun k => { k with run := .retired, tarm := Vector.replicate 8 none }
  s.record (coreBlock c) recCORE_RETIRED (word c.val) (s.rd SEQ_RETIRE) (s.rd SEQ_SUCC)

/-- A write of SEQ_RETIRE (R51): a bit set retires its core, the boot core only while another SEQA core is not retired; a
bit cleared is ignored outside MAINT, where the core becomes HALTED. -/
def State.writeRetire (s : State) (v : Word) : State :=
  let boot := s.fld SEQ_BOOTCORE 2 0
  (List.finRange 8).foldl (fun (s : State) (c : Fin 8) =>
    let old := s.bit SEQ_RETIRE c.val
    let new := bitAt v c.val
    if new && !old then
      (if c.val = boot ∧ (List.range 4).all (fun n => n == boot || s.bit SEQ_RETIRE n) then s
       else (s.setBit SEQ_RETIRE c.val true).retireCore c)
    else if !new && old && s.mode == 10 then
      (s.setBit SEQ_RETIRE c.val false).modCore c fun k => { k with run := .halted }
    else s) s

/-- SEQ_RETIRE_WRITE (R51). -/
def execSeqRetireWrite (v : Word) (s : State) : Host.Outcome State Fault Refusal :=
  .next (if s.isOn 1 then s.writeRetire v else s)

end Sys2Proof.Machine
end

