-- ==== Sys2Proof/Machine/Keys.lean ====
section
/-!
DEFINITION. Sys2Proof/Machine/Keys.lean: the key store (10): objects and their attributes, the checks of key use, working
key registers, key slots and the group-key cache, link-key derivation, counters with checkpoints, invalidation, the store
commands, authorisations, GCM-HOST, zeroization, and the instructions KEYLD and KDRV. The cryptographic primitives are
opaque (log entry 19).
-/
namespace Sys2Proof.Machine

/-! ### Octets -/

/-- Exactly `n` octets of a list, zero filled. -/
def fit (n : Nat) (l : List Byte) : List Byte := (l ++ List.replicate n 0).take n

/-- Sixteen octets as a block, the first most significant. -/
def toBlock (l : List Byte) : BitVec 128 := (fit 16 l).foldl (fun (a : BitVec 128) b => (a <<< 8) ||| b.setWidth 128) 0

/-- A block as sixteen octets. -/
def ofBlock (b : BitVec 128) : List Byte := (List.range 16).map fun i => (b >>> (8 * (15 - i))).setWidth 8

/-- A number as `n` octets, the most significant first. -/
def beOctets (v n : Nat) : List Byte := (List.range n).map fun i => BitVec.ofNat 8 (v / 2 ^ (8 * (n - 1 - i)))

/-- A number as `n` octets, the least significant first. -/
def leOctets (v n : Nat) : List Byte := (List.range n).map fun i => BitVec.ofNat 8 (v / 2 ^ (8 * i))

/-- Octets as a number, the most significant first. -/
def beNat (l : List Byte) : Nat := l.foldl (fun a b => a * 256 + b.toNat) 0

/-- Octets as a number, the least significant first. -/
def leNat (l : List Byte) : Nat := l.foldr (fun b a => b.toNat + 256 * a) 0

/-- Octets of KEYS_BUFk from word `k`, four to a word, the first in [31:24] (Table 10-11). -/
def State.keyBuf (s : State) (k n : Nat) : List Byte :=
  (List.range n).map fun i => (s.rd (KEYS_BUFk (k + i / 4)) >>> (8 * (3 - i % 4))).setWidth 8

/-- Octets stored to KEYS_BUFk from word `k`. -/
def State.setKeyBuf (s : State) (k : Nat) (l : List Byte) : State :=
  (List.range (l.length / 4)).foldl (fun s i => s.wr (KEYS_BUFk (k + i)) (word (beNat ((l.drop (4 * i)).take 4)))) s

/-! ### AES-CMAC and the link key (R247) -/

/-- A CMAC subkey doubled in GF(2¹²⁸). -/
def cmacDouble (b : BitVec 128) : BitVec 128 := (b <<< 1) ^^^ (if b.getLsbD 127 then 0x87 else 0)

/-- AES-CMAC of the 25 octets of R247: one full block, and a final block of 9 octets padded and masked with K2. -/
def cmac25 (key : BitVec 128) (m : List Byte) : BitVec 128 :=
  let k2 := cmacDouble (cmacDouble (Config.aes128 key 0))
  let x := Config.aes128 key (toBlock (m.take 16))
  Config.aes128 key (x ^^^ toBlock (m.drop 16 ++ [0x80]) ^^^ k2)

/-- The PRF input of R247. -/
def kdfInput (eui : BitVec 64) (epoch : BitVec 16) : List Byte :=
  beOctets 1 4 ++ beOctets 0x4D4C502D4C4B 6 ++ [0] ++ beOctets eui.toNat 8 ++ beOctets epoch.toNat 2 ++ beOctets 0x80 4

/-- The node link key (R247). -/
def linkKey (group : BitVec 128) (eui : BitVec 64) (epoch : BitVec 16) : BitVec 128 := cmac25 group (kdfInput eui epoch)

/-! ### Objects -/

/-- An EMPTY object. -/
def emptyObj (_ : Nat) : KeyObj :=
  { typ := 0, state := 0, mask := 0, dout := 0, verify := false, auth := false, exportable := false, depth := 0,
    parent := 0, mat := [] }

/-- Object `o`. -/
def State.obj (s : State) (o : Nat) : KeyObj := tabGet emptyObj s.keys.objs o

/-- The store's mode: 0 NONE, 1 FLAT, 2 TREE. -/
def State.storeMode (s : State) : Nat := s.fld KEYS_STAT 31 30

/-- The number of objects the store's mode gives. -/
def State.objRange (s : State) : Nat :=
  match s.storeMode with
  | 1 => 256
  | 2 => 4096
  | _ => 0

/-- The objects of the store replaced, with KEYS_STAT.USED and CROWN. -/
def State.setObjs (s : State) (o : Tab KeyObj) : State :=
  let s := { s with keys := { s.keys with objs := o } }
  (s.setFld KEYS_STAT 28 16 o.length).setBit KEYS_STAT 29 (s.storeMode == 2 && (tabGet emptyObj o 0).state != 0)

/-- Object `o` replaced. -/
def State.setObj (s : State) (o : Nat) (k : KeyObj) : State := s.setObjs (tabSet emptyObj s.keys.objs o k)

/-- Is object `x` a descendant of `o` in TREE? No object is deeper than 6 (R238). -/
def descends (objs : Tab KeyObj) (o x : Nat) : Nat → Bool
  | 0 => false
  | n + 1 =>
    let k := tabGet emptyObj objs x
    if k.state = 0 ∨ x = 0 then false
    else k.parent == o || descends objs o k.parent n

/-- The descendants of an object, none in FLAT. -/
def State.descendants (s : State) (o : Nat) : List Nat :=
  if s.storeMode = 2 then (s.keys.objs.map (·.1)).filter fun x => x != o && descends s.keys.objs o x 7 else []

/-- Attributes as the word of KEYS_ATTR (Table 10-10). -/
def KeyObj.attr (k : KeyObj) : Word :=
  word (k.typ * 2 ^ 30 + k.state * 2 ^ 28 + b2n k.exportable * 2 ^ 27 + b2n k.auth * 2 ^ 26 + b2n k.verify * 2 ^ 25
    + k.depth * 2 ^ 22 + k.mask * 2 ^ 17 + k.dout * 2 ^ 14 + k.parent)

/-- A VALID object with the attributes of a word, material, depth and parent. A public key has MASK zero. -/
def ofAttr (v : Word) (mat : List Byte) (depth parent : Nat) : KeyObj :=
  { typ := bits v 31 30, state := 1, mask := if bits v 31 30 = 2 then 0 else bits v 21 17, dout := bits v 16 14
    verify := bitAt v 25 && bits v 31 30 == 2, auth := bitAt v 26 && bits v 31 30 == 2, exportable := bitAt v 27
    depth := depth, parent := parent, mat := mat }

/-! ### Using a key (R243, R244, R255) -/

/-- A use of an ORPHAN object accounted. -/
def State.orphanUse (s : State) (o : Nat) : State :=
  let s := (s.setBit KEYS_FLAGS 3 true).bump (KEYS_CNTm 2) 31 0
  s.rated 0x80 recKEY_ORPHAN_USE 0 0 (word o) 0 true

/-- Is the object one that a key can be taken from: the status and detail of the first check that fails, OK otherwise, with
the counters of Table 10-11 (R244 checks 1, 3 and 4; R257: no key is usable once the SEK is gone). -/
def State.takeObj (s : State) (o : Nat) : Nat × Nat × State :=
  if s.objRange ≤ o then (stRANGE, 0, s)
  else if (s.obj o).state = 0 ∨ !s.keys.sek then (stNOKEY, 0, s.bump (KEYS_CNTm 3) 31 0)
  else if (s.obj o).state = 2 then (stNOKEY, 1, s.bump (KEYS_CNTm 3) 31 0)
  else if (s.obj o).state = 3 then (stORPHAN, 0, s.orphanUse o)
  else (stOK, 0, s)

/-- A MASK refusal accounted. -/
def State.maskFail (s : State) : State := (s.setBit KEYS_FLAGS 2 true).bump (KEYS_CNTm 1) 31 0

/-- May the stored key of an object reach engine `e` (R243)? The Crown is loaded in no case. -/
def State.mayLoad (s : State) (o e : Nat) : Bool :=
  let k := s.obj o
  k.typ == 1 && (k.mask / 2 ^ e) % 2 == 1 && !(s.storeMode == 2 && o == 0)

/-- May a key derived from a group object reach engine `e` (R243)? -/
def State.mayDerive (s : State) (o e : Nat) : Bool :=
  let k := s.obj o
  k.typ == 1 && (k.mask / 8) % 2 == 1 && (k.dout / 2 ^ e) % 2 == 1

/-- The checks of R244 for object `o` and engine `e`, in their order after RANGE of the engine. -/
def State.keyChecks (s : State) (o e : Nat) (derive : Bool) : Nat × Nat × State :=
  if s.objRange ≤ o then (stRANGE, 0, s)
  else if s.bit KEYS_STAT 2 then (stHALTBLK, 0, s)
  else
    let r := s.takeObj o
    if r.1 ≠ stOK then r
    else if (if derive then r.2.2.mayDerive o e else r.2.2.mayLoad o e) then r
    else (stMASK, 0, r.2.2.maskFail)

/-- The 128-bit key of an object. -/
def State.keyOf (s : State) (o : Nat) : BitVec 128 := toBlock (s.obj o).mat

/-! ### Working key registers, slots and the group-key cache -/

/-- KEYS_PIPE brought to the slots and the cache. -/
def State.pipeShow (s : State) : State :=
  let g := (List.range 8).foldl (fun n i => n + if (vget s.keys.gcache i none).isSome then 2 ^ i else 0) 0
  (s.setFld KEYS_PIPE 15 8 s.keys.slots.length).setFld KEYS_PIPE 7 0 g

/-- A change of the KEYS state. -/
def State.modKeys (s : State) (f : KeysSt → KeysSt) : State := { s with keys := f s.keys }

/-- A WKR loaded or emptied, with KEYS_WKRe. -/
def State.setWkr (s : State) (e : Nat) (k : Option KeyVal) : State :=
  let s := s.modKeys fun x => { x with wkr := vset x.wkr e k }
  match k with
  | none => s.wr (KEYS_WKRe e) 0
  | some v => s.wr (KEYS_WKRe e) (word (2 ^ 31 + (if v.derived then 2 else 1) * 2 ^ 28 + v.src % 4096))

/-- A key slot loaded or cleared. -/
def State.setSlot (s : State) (i : Nat) (k : Option KeyVal) : State :=
  (s.modKeys fun x => { x with slots := match k with
    | some v => x.slots.filter (fun e => decide (e.1 < i)) ++ [(i, v)] ++ x.slots.filter (fun e => decide (i < e.1))
    | none => x.slots.filter fun e => e.1 != i }).pipeShow

/-- The key in a slot. -/
def State.slot (s : State) (i : Nat) : Option KeyVal := (s.keys.slots.find? fun e => e.1 == i).map (·.2)

/-- The slot of a core. -/
def coreSlot (c : Fin 8) : Nat := 96 + c.val

/-- One request accepted by the pipeline: KEYS_PIPE.PTR takes its group (R246). -/
def State.pipeGrant (s : State) (group : Nat) : State := s.setFld KEYS_PIPE 18 16 group

/-- The cache entry replaced: an empty one, else the least recently used, the lowest on a tie. -/
def cacheVictim (v : Vector (Option (Nat × Nat)) 8) : Nat :=
  match (List.range 8).find? fun i => (vget v i none).isNone with
  | some i => i
  | none => (List.range 8).foldl (fun b i =>
      if ((vget v i none).getD (0, 0)).2 < ((vget v b none).getD (0, 0)).2 then i else b) 0

/-- The group object brought into the cache, or its entry used again (R246). -/
def State.cacheGroup (s : State) (o : Nat) : State :=
  let i := ((List.range 8).find? fun i => ((vget s.keys.gcache i none).map (·.1)) == some o).getD (cacheVictim s.keys.gcache)
  (s.modKeys fun x => { x with gcache := vset x.gcache i (some (o, x.gUse)), gUse := x.gUse + 1 }).pipeShow

/-- A derivation for engine `e` (R245, R247): status, detail, the key, and the state with the cache used. -/
def State.derive (s : State) (e o : Nat) (eui : BitVec 64) (epoch : BitVec 16) : Nat × Nat × Option KeyVal × State :=
  let r := s.keyChecks o e true
  if r.1 ≠ stOK then (r.1, r.2.1, none, r.2.2)
  else
    let s := ((r.2.2.cacheGroup o).pipeGrant e).bump (KEYS_CNTm 0) 31 0
    (stOK, 0, some ⟨o, true, linkKey (s.keyOf o) eui epoch⟩, s)

/-- A stored key for a CCM engine. -/
def State.stored (s : State) (e o : Nat) : Nat × Nat × Option KeyVal × State :=
  let r := s.keyChecks o e false
  if r.1 ≠ stOK then (r.1, r.2.1, none, r.2.2)
  else (stOK, 0, some ⟨o, false, r.2.2.keyOf o⟩, r.2.2.pipeGrant e)

/-- What a clearing of keys whose source object is affected removes: WKRs, slots, cache entries (R255). -/
def State.clearSources (s : State) (aff : List Nat) : State :=
  let s := (List.range 5).foldl (fun (s : State) e =>
    match vget s.keys.wkr e none with
    | some v => if aff.contains v.src then s.setWkr e none else s
    | none => s) s
  (s.modKeys fun x => { x with
    slots := x.slots.filter fun e => !aff.contains e.2.src
    gcache := x.gcache.map fun g => match g with
      | some (o, u) => if aff.contains o then none else some (o, u)
      | none => none }).pipeShow

/-- Every WKR, slot, cache entry and pipeline stage cleared (R257, R357, R264). -/
def State.clearKeys (s : State) (wkrs : Bool) : State :=
  let s := if wkrs then (List.range 5).foldl (fun s e => s.setWkr e none) s else s
  (s.modKeys fun x => { x with slots := [], gcache := Vector.replicate 8 none }).pipeShow

/-! ### KEYLD and KDRV -/

/-- KEYLD (R244): object ga, engine imm18[2:0]. -/
def execKeyld (c : Fin 8) (gd ga : Fin 16) (imm : BitVec 18) (s : State) : Host.Outcome State Fault Refusal :=
  .next (s.issue c fun s => s.legal c (imm.toNat / 8 != 0) fun s =>
    if s.mode == 11 then s.complete c gd stNOKEY else
    s.serve c gd [8] fun s =>
    let e := imm.toNat % 8
    let o := (s.gpr c ga).toNat
    if 5 ≤ e then s.complete c gd stRANGE else
    let r := s.keyChecks o e false
    if r.1 ≠ stOK then r.2.2.complete c gd r.1 r.2.1 else
    let s := r.2.2
    let k : KeyVal := ⟨o, false, s.keyOf o⟩
    let s := match e with
      | 0 => (s.setSlot (coreSlot c) (some k)).pipeGrant 0
      | 1 => (s.setSlot (coreSlot c) (some k)).pipeGrant 1
      | 2 => (s.setWkr 2 (some k)).pipeGrant 2
      | 3 => (s.cacheGroup o).pipeGrant 4
      | _ => (s.setWkr 4 (some k)).pipeGrant 3
    s.complete c gd stOK)

/-- KDRV (R245): group object ga, descriptor gb in the core's data scratchpad, engine func14[2:0]. -/
def execKdrv (c : Fin 8) (gd ga gb : Fin 16) (func : BitVec 14) (s : State) : Host.Outcome State Fault Refusal :=
  .next (s.issue c fun s => s.legal c (func.toNat / 8 != 0) fun s =>
    if s.mode == 11 then s.complete c gd stNOKEY else
    s.serve c gd [8] fun s =>
    let e := func.toNat % 8
    let a := corePhys c (s.gpr c gb).toNat
    let w2 := s.ldw (a + 8)
    if 3 ≤ e ∨ bits w2 31 16 ≠ 0 ∨ s.ldw (a + 12) ≠ 0 then s.complete c gd stRANGE else
    let eui : BitVec 64 := BitVec.ofNat 64 (beNat (s.octets a 8))
    let r := s.derive e (s.gpr c ga).toNat eui (w2.setWidth 16)
    match r.2.2.1 with
    | none => r.2.2.2.complete c gd r.1 r.2.1
    | some k =>
      let s := r.2.2.2
      (if e = 2 then s.setWkr 2 (some k) else s.setSlot (coreSlot c) (some k)).complete c gd stOK)

/-! ### Counters and checkpoints (R251–R254) -/

/-- Device counter `i`, its value before any consumption being 0; 2³² once exhausted. -/
def State.devCtr (s : State) (i : Nat) : Nat := tabGet (fun _ => 0) s.keys.devCtr i

/-- A refused consumption of an exhausted counter (R251). The first sets FCEXH and raises 0x80 : 0x03. -/
def State.fcExhaust (s : State) (who : Word) : State :=
  let s := if s.bit KEYS_FLAGS 5 then s else (s.setBit KEYS_FLAGS 5 true).raise 0x80 0x03
  (s.bump (KEYS_CNTm 5) 31 0).rated 0x80 recFC_EXHAUST 0 0 who 0 true

/-- A checkpoint write that failed (R252). -/
def State.ckptFailed (s : State) : State :=
  ((s.setBit KEYS_FLAGS 0 true).raise 0x80 0x04).fault 13 0x80 0 0

/-- One value of a device counter consumed (R251–R253): the value, or `none` when exhausted or the checkpoint write
failed. -/
def State.consumeDev (s : State) (i : Nat) (ckptFails : Bool) : Option Word × State :=
  let ck := (tabGet (fun _ => (0 : Word)) s.keys.devCkpt i).toNat
  let n := if tabGet (fun _ => false) s.keys.devRest i then s.devCtr i else max (s.devCtr i) (ck + 1024)
  let s := s.modKeys fun x => { x with
    devCtr := tabSet (fun _ => 0) x.devCtr i n, devRest := tabSet (fun _ => false) x.devRest i true }
  if 2 ^ 32 ≤ n then (none, s.fcExhaust (word (2 ^ 31 + i)))
  else if n % 1024 = 0 ∧ ckptFails then (none, s.ckptFailed)
  else
    let s := if n % 1024 = 0 then (s.modKeys fun x => { x with devCkpt := tabSet (fun _ => 0) x.devCkpt i (word n) }).bump
        (KEYS_CNTm 6) 31 0 else s
    (some (word n), s.modKeys fun x => { x with devCtr := tabSet (fun _ => 0) x.devCtr i (n + 1) })

/-- The events that make R253 apply again. -/
def State.unrestore (s : State) : State := s.modKeys fun x => { x with devRest := [], nodeRest := [] }

/-- The checkpoint of a node's counter. -/
def State.nodeCkpt (s : State) (n : Nat) : Word := tabGet (fun _ => (0 : Word)) s.keys.nodeCkpt n

/-- The checkpoint of a node's counter written. -/
def State.setNodeCkpt (s : State) (n : Nat) (v : Word) : State :=
  (s.modKeys fun x => { x with nodeCkpt := tabSet (fun _ => 0) x.nodeCkpt n v }).bump (KEYS_CNTm 6) 31 0

/-- A node's counter marked restored. -/
def State.markRestored (s : State) (n : Nat) : State :=
  s.modKeys fun x => { x with nodeRest := tabSet (fun _ => false) x.nodeRest n true }

/-! ### Authorisations (R260, R261) -/

/-- A failed signature or unwrap accounted; `op` as Table 17-15 gives it. -/
def State.authFail (s : State) (op o : Nat) : State :=
  ((s.setBit KEYS_FLAGS 6 true).bump (KEYS_CNTm 7) 31 0).rated 0x80 recAUTH_FAIL 0 0 (word (op * 2 ^ 28 + o % 4096)) 0 true

/-- The challenge replaced: its value is random, so free (log entry 2). -/
def State.newChallenge (s : State) : State :=
  let a := s.fresh
  let b := a.2.fresh
  (b.2.wr KEYS_CHAL_LO a.1).wr KEYS_CHAL_HI b.1

/-- The challenge as 8 octets, KEYS_CHAL_HI first. -/
def State.challenge (s : State) : List Byte := beOctets (s.rd KEYS_CHAL_HI).toNat 4 ++ beOctets (s.rd KEYS_CHAL_LO).toNat 4

/-- A signature checked under object `o` with the bit VERIFY or AUTH: the AUTH detail of R260, 0 when it verifies. -/
def State.sigDetail (s : State) (o : Nat) (needAuth : Bool) (digest : BitVec 256) (sig : List Byte) : Nat :=
  let k := s.obj o
  if k.state ≠ 1 ∨ !s.keys.sek then 2
  else if k.typ ≠ 2 ∨ !(if needAuth then k.auth else k.verify) then 3
  else if Config.ecdsaVerify k.mat digest sig then 0 else 1

/-- A purpose granted for 60 s. -/
def State.grant (s : State) (purpose : Nat) : State :=
  (s.wr KEYS_AUTHSTAT (word (60 * 65536 + purpose % 16))).modKeys fun x => { x with grantAt := s.clock }

/-- GRANT_EXPIRY (R261): the 60 s of the grant run out. -/
def execGrantExpiry (s : State) : Host.Outcome State Fault Refusal :=
  .next (if s.fld KEYS_AUTHSTAT 3 0 = 0 then s else s.consumeGrant)

/-- The seconds left on a grant as the clock moves (Table 10-10). -/
def State.grantTick (s : State) : State :=
  if s.fld KEYS_AUTHSTAT 31 16 = 0 ∨ (s.clock - s.keys.grantAt) % 1000000000 ≠ 0 then s
  else if s.fld KEYS_AUTHSTAT 31 16 = 1 then s.consumeGrant
  else s.setFld KEYS_AUTHSTAT 31 16 (s.fld KEYS_AUTHSTAT 31 16 - 1)

/-! ### Invalidation (R255, R256) -/

/-- An object set INVALID and its VALID descendants ORPHAN, with the clearing of R255; the number orphaned. -/
def State.invalidate (s : State) (o : Nat) : Nat × State :=
  let ds := (s.descendants o).filter fun d => (s.obj d).state == 1
  let s := s.setObj o { s.obj o with state := 2 }
  let s := ds.foldl (fun s d => s.setObj d { s.obj d with state := 3 }) s
  (ds.length, s.clearSources (o :: ds))

/-- An object and its descendants made EMPTY. -/
def State.deleteObj (s : State) (o : Nat) : State :=
  let ds := o :: s.descendants o
  let s := s.clearSources ds
  s.setObjs (s.keys.objs.filter fun e => !ds.contains e.1)

/-! ### Store commands -/

/-- The lowest EMPTY index; the Crown's index 0 is not free in TREE. -/
def State.freeObj (s : State) : Option Nat :=
  (List.range s.objRange).find? fun o => (s.obj o).state == 0 && !(s.storeMode == 2 && o == 0)

/-- What a command answers: status, detail, object, and the state after its effect. -/
abbrev CmdResult := Nat × Nat × Nat × State

/-- Sixteen random octets of the on-die generator: free values (log entry 2). -/
def State.randomKey (s : State) : List Byte × State :=
  let a := s.fresh
  let b := a.2.fresh
  let c := b.2.fresh
  let d := c.2.fresh
  ([a.1, b.1, c.1, d.1].flatMap fun w => beOctets w.toNat 4, d.2)

/-- SETMODE (R238): accepted only with the store empty. -/
def State.cmdSetmode (s : State) (arg : Nat) : CmdResult :=
  if s.keys.objs ≠ [] ∨ s.storeMode ≠ 0 then (stLIFECYCLE, 0, 0, s)
  else if arg = 1 then (stOK, 0, 0, s.setFld KEYS_STAT 31 30 1)
  else if arg = 2 then
    let r := (s.setFld KEYS_STAT 31 30 2).randomKey
    (stOK, 0, 0, r.2.setObj 0 { emptyObj 0 with typ := 1, state := 1, mask := 16, mat := r.1 })
  else (stRANGE, 0, 0, s)

/-- The parent's part of CREATE and IMPORT: its status in TREE, and the depth of the new object. -/
def State.parentCheck (s : State) (key2 : Nat) : Nat × Nat × State :=
  if s.storeMode ≠ 2 then (stOK, 0, s)
  else
    let r := s.takeObj key2
    if r.1 ≠ stOK then r
    else if 6 ≤ (s.obj key2).depth then (stRANGE, 2, s)
    else (stOK, 0, s)

/-- A new object entered at the lowest EMPTY index, or FULL (R238). -/
def State.enterObj (s : State) (attr : Word) (mat : List Byte) (key2 : Nat) : CmdResult :=
  match s.freeObj with
  | none => (stFULL, 1, 0, s.setBit KEYS_FLAGS 1 true)
  | some o =>
    let depth := if s.storeMode = 2 then (s.obj key2).depth + 1 else 0
    (stOK, 0, o, s.setObj o (ofAttr attr mat depth (if s.storeMode = 2 then key2 else 0)))

/-- CREATE (R259): a secret key with the attributes of KEYS_ATTR. -/
def State.cmdCreate (s : State) (key2 : Nat) : CmdResult :=
  if s.storeMode = 0 then (stNOTREADY, 0, 0, s)
  else if s.freeObj.isNone then (stFULL, 1, 0, s.setBit KEYS_FLAGS 1 true)
  else if s.fld KEYS_ATTR 31 30 ≠ 1 then (stRANGE, 0, 0, s)
  else
    let p := s.parentCheck key2
    if p.1 ≠ stOK then (p.1, p.2.1, 0, p.2.2)
    else
      let r := s.randomKey
      r.2.enterObj (s.rd KEYS_ATTR) r.1 key2

/-- The wrapping key's part of IMPORT and EXPORT: VALID with MASK[WRAP]; it is loaded into the WRAP WKR. -/
def State.wrapKey (s : State) (key2 : Nat) : Nat × Nat × State :=
  let r := s.takeObj key2
  if r.1 ≠ stOK then r
  else if (s.obj key2).typ ≠ 1 ∨ (s.obj key2).mask / 16 % 2 = 0 then (stMASK, 0, s.maskFail)
  else (stOK, 0, (s.setWkr 4 (some ⟨key2, false, s.keyOf key2⟩)).pipeGrant 3)

/-- IMPORT of a wrapped blob (R259): 32 octets for a secret key, 80 for a public key; the length is the one whose unwrap
holds, the shorter first (log entry 20). -/
def State.cmdImportWrapped (s : State) (key2 : Nat) : CmdResult :=
  if s.storeMode = 0 then (stNOTREADY, 0, 0, s)
  else if s.freeObj.isNone then (stFULL, 1, 0, s.setBit KEYS_FLAGS 1 true)
  else
    let w := s.wrapKey key2
    if w.1 ≠ stOK then (w.1, w.2.1, 0, w.2.2)
    else if s.storeMode = 2 ∧ 6 ≤ (s.obj key2).depth then (stRANGE, 2, 0, s)
    else
      let s := w.2.2
      let kek := ofBlock (s.keyOf key2)
      let short := Config.keyUnwrap kek (s.keyBuf 0 32)
      let blob := short.or (Config.keyUnwrap kek (s.keyBuf 0 80))
      match blob with
      | none => (stAUTH, 0, 0, s.authFail 3 key2)
      | some b =>
        let n := if short.isSome then 16 else 64
        let a := word (beNat ((fit 8 (b.drop n)).take 4))
        let rest := beNat ((fit 8 (b.drop n)).drop 4)
        if bits a 31 30 = 0 ∨ bits a 31 30 = 3 ∨ bits a 13 12 ≠ 0 ∨ rest ≠ 0 ∨ (bits a 31 30 = 1) ≠ (n = 16) then
          (stRANGE, 0, 0, s)
        else s.enterObj a (fit n b) key2

/-- IMPORT of a plain public key (R259). In TREE it lies under KEY2. -/
def State.cmdImportPlain (s : State) (key2 : Nat) : CmdResult :=
  if s.storeMode = 0 then (stNOTREADY, 0, 0, s)
  else if s.freeObj.isNone then (stFULL, 1, 0, s.setBit KEYS_FLAGS 1 true)
  else if s.fld KEYS_ATTR 31 30 ≠ 2 then (stRANGE, 0, 0, s)
  else
    let p := s.parentCheck key2
    if p.1 ≠ stOK then (p.1, p.2.1, 0, p.2.2) else s.enterObj (s.rd KEYS_ATTR) (s.keyBuf 0 64) key2

/-- EXPORT (R259): the object wrapped under KEY2 in KEYS_BUFk. The Crown has no EXPORT (R238). -/
def State.cmdExport (s : State) (key2 o : Nat) : CmdResult :=
  let r := s.takeObj o
  if r.1 ≠ stOK then (r.1, r.2.1, o, r.2.2)
  else if s.storeMode = 2 ∧ o = 0 then (stDENIED, 0, o, s)
  else if s.lifecycle = 2 ∧ !(s.obj o).exportable then (stLIFECYCLE, 0, o, s)
  else
    let w := s.wrapKey key2
    if w.1 ≠ stOK then (w.1, w.2.1, o, w.2.2)
    else
      let k := s.obj o
      let n := if k.typ = 1 then 32 else 80
      let attr := k.attr &&& 0xCE3FC000
      let blob := Config.keyWrap (ofBlock (s.keyOf key2)) (k.mat ++ beOctets attr.toNat 4 ++ beOctets 0 4)
      (stOK, 0, o, w.2.2.setKeyBuf 0 (fit n blob))

/-- INVALIDATE (R255). -/
def State.cmdInvalidate (s : State) (a : Agent) (o : Nat) : CmdResult :=
  if s.objRange ≤ o then (stRANGE, 0, o, s)
  else if s.storeMode = 2 ∧ o = 0 then (stDENIED, 0, o, s)
  else if (s.obj o).state = 0 then (stNOKEY, 0, o, s.bump (KEYS_CNTm 3) 31 0)
  else
    let r := s.invalidate o
    let who := match a with
      | .core c => c.val
      | .debug => 0xD
      | _ => 0xF
    (stOK, 0, o, r.2.record 0x80 recKEY_INVALIDATE (word o) (word r.1) (word who))

/-- DELETE (R256). -/
def State.cmdDelete (s : State) (o : Nat) : CmdResult :=
  if s.objRange ≤ o then (stRANGE, 0, o, s)
  else if s.storeMode = 2 ∧ o = 0 then (stDENIED, 0, o, s)
  else if (s.obj o).state = 0 then (stNOKEY, 0, o, s.bump (KEYS_CNTm 3) 31 0)
  else (stOK, 0, o, s.deleteObj o)

/-- READATTR (R240): KEYS_ATTR takes the object's attributes. -/
def State.cmdReadattr (s : State) (o : Nat) : CmdResult :=
  if s.objRange ≤ o then (stRANGE, 0, o, s) else (stOK, 0, o, s.wr KEYS_ATTR (s.obj o).attr)

/-- VERIFY (R260). -/
def State.cmdVerify (s : State) (key2 : Nat) : CmdResult :=
  let d := s.sigDetail key2 false (BitVec.ofNat 256 (beNat (s.keyBuf 0 32))) (s.keyBuf 8 64)
  if d = 0 then (stOK, 0, key2, s) else (stAUTH, d, key2, s.authFail 1 key2)

/-- AUTHORISE (R261): whatever the outcome the challenge is replaced. -/
def State.cmdAuthorise (s : State) (key2 : Nat) : CmdResult :=
  let p := bits (s.rd (KEYS_BUFk 16)) 27 24
  let msg := [BitVec.ofNat 8 p] ++ beOctets (s.rd SYS_ID).toNat 4 ++ s.challenge
  let d := s.sigDetail key2 true (Config.sha256 msg) (s.keyBuf 0 64)
  if d = 0 then (stOK, 0, key2, s.newChallenge.grant p) else (stAUTH, d, key2, s.newChallenge.authFail 2 key2)

/-- Is a command permitted in a lifecycle state (Table 10-8)? A ZEROIZED part permits NEWCHAL alone. -/
def cmdPermitted (lc cmd : Nat) (plain : Bool) : Bool :=
  match cmd with
  | 1 => lc ≤ 1
  | 2 => lc ≤ 2
  | 3 => if plain then lc ≤ 1 else lc ≤ 2
  | 4 => lc ≤ 2
  | 10 => true
  | _ => lc ≤ 3

/-- Would a command change the store (R265)? -/
def cmdChanges (cmd : Nat) : Bool := cmd = 1 || cmd = 2 || cmd = 3 || cmd = 5 || cmd = 6

/-- The effect of a command by KEYS_CMD.CMD, after the rules of mode and lifecycle (R258, R265). -/
def State.keysEffect (s : State) (a : Agent) (cmd arg key2 o : Nat) : CmdResult :=
  if s.mode == 11 && cmd != 10 then (stNOKEY, 0, 0, s)
  else if cmd = 0 ∨ 10 < cmd then (stRANGE, 0, 0, s)
  else if cmd = 3 ∧ 1 < arg then (stRANGE, 0, 0, s)
  else if !cmdPermitted s.lifecycle cmd (arg == 1) then (stLIFECYCLE, 0, 0, s)
  else if s.mode == 9 && cmdChanges cmd then (stINHIBIT, 0, 0, s.replayOutput)
  else match cmd with
  | 1 => s.cmdSetmode arg
  | 2 => s.cmdCreate key2
  | 3 => if arg = 1 then s.cmdImportPlain key2 else s.cmdImportWrapped key2
  | 4 => s.cmdExport key2 o
  | 5 => s.cmdInvalidate a o
  | 6 => s.cmdDelete o
  | 7 => s.cmdReadattr o
  | 8 => s.cmdVerify key2
  | 9 => s.cmdAuthorise key2
  | _ => (stOK, 0, 0, s.newChallenge)

/-- A write of KEYS_CMD (R246, R263): ignored while BUSY, or while the CRYP agent's DELAY answer stands (R264); else the
command runs and its completion waits for KEYS_COMMAND_DONE. -/
def State.keysCmd (s : State) (a : Agent) (cmd arg key2 o : Nat) : State :=
  if !s.isOn 8 then s
  else if s.bit KEYS_CMDSTAT 31 ∨ (s.dom 8).hold == some .delay then s.setBit KEYS_FLAGS 7 true
  else
    let undo := (s.keys.objs, s.rd KEYS_STAT)
    let r := s.keysEffect a cmd arg key2 o
    let s := r.2.2.2.setBit KEYS_CMDSTAT 31 true
    s.modKeys fun x => { x with cmd := some ⟨cmd, r.1, r.2.1, r.2.2.1, undo⟩ }

/-- KEYS_COMMAND_DONE (R246, R266): the command in progress completes. -/
def execKeysCommandDone (s : State) : Host.Outcome State Fault Refusal :=
  .next (match s.keys.cmd with
    | none => s
    | some k =>
      if !s.isOn 8 then s else
      let s := s.wr KEYS_CMDSTAT (word (k.obj * 65536 + k.detail * 256 + k.status))
      (s.modKeys fun x => { x with cmd := none }).raise 0x80 0x01)

/-- A command abandoned by a forced entry (R264): an object write leaves the old object; PREEMPTED is reported on exit. -/
def State.preemptKeys (s : State) : State :=
  match s.keys.cmd with
  | none => s
  | some k =>
    let s := if cmdChanges k.cmd then ({ s with keys := { s.keys with objs := k.undo.1 } }).wr KEYS_STAT k.undo.2 else s
    s.modKeys fun x => { x with cmd := some { k with status := stPREEMPTED, detail := 0 } }

/-- SETMODE (R238). -/
def execSetmode (a : Agent) (arg : Fin 16) (s : State) : Host.Outcome State Fault Refusal := .next (s.keysCmd a 1 arg 0 0)

/-- CREATE (R259). -/
def execCreate (a : Agent) (key2 : Fin 4096) (s : State) : Host.Outcome State Fault Refusal := .next (s.keysCmd a 2 0 key2 0)

/-- IMPORT, ARG 0 (R259). -/
def execImportWrapped (a : Agent) (key2 : Fin 4096) (s : State) : Host.Outcome State Fault Refusal :=
  .next (s.keysCmd a 3 0 key2 0)

/-- IMPORT, ARG 1 (R259). -/
def execImportPlain (a : Agent) (key2 : Fin 4096) (s : State) : Host.Outcome State Fault Refusal :=
  .next (s.keysCmd a 3 1 key2 0)

/-- EXPORT (R259). -/
def execExport (a : Agent) (key2 obj : Fin 4096) (s : State) : Host.Outcome State Fault Refusal :=
  .next (s.keysCmd a 4 0 key2 obj)

/-- INVALIDATE (R255). -/
def execInvalidate (a : Agent) (obj : Fin 4096) (s : State) : Host.Outcome State Fault Refusal :=
  .next (s.keysCmd a 5 0 0 obj)

/-- DELETE (R256). -/
def execKeysDelete (a : Agent) (obj : Fin 4096) (s : State) : Host.Outcome State Fault Refusal :=
  .next (s.keysCmd a 6 0 0 obj)

/-- READATTR (R240). -/
def execReadattr (a : Agent) (obj : Fin 4096) (s : State) : Host.Outcome State Fault Refusal :=
  .next (s.keysCmd a 7 0 0 obj)

/-- VERIFY (R260). -/
def execKeysVerify (a : Agent) (key2 : Fin 4096) (s : State) : Host.Outcome State Fault Refusal :=
  .next (s.keysCmd a 8 0 key2 0)

/-- AUTHORISE (R261). -/
def execAuthorise (a : Agent) (key2 : Fin 4096) (s : State) : Host.Outcome State Fault Refusal :=
  .next (s.keysCmd a 9 0 key2 0)

/-- NEWCHAL (R261). -/
def execNewchal (a : Agent) (s : State) : Host.Outcome State Fault Refusal := .next (s.keysCmd a 10 0 0 0)

/-! ### GCM-HOST (R262) -/

/-- May GCM-HOST use the octets: in shared scratch or DRAM, with their domain ON? -/
def State.gcmRange (s : State) (a n : Nat) : Bool :=
  (decide (0x50000000 ≤ a ∧ a + n ≤ 0x50200000) && s.isOn 1) || (decide (0x80000000 ≤ a ∧ a + n ≤ 0x8FFC0000) && s.isOn 9)

/-- A write of KEYS_GCM_CTL (R262): ignored with GO while BUSY; GO starts a run, or sets ERR. -/
def State.gcmCtl (s : State) (v : Word) : State :=
  if bitAt v 0 then
    (if s.bit KEYS_GCM_CTL 31 then s else
     let n := s.fld KEYS_GCM_LEN 31 16 + s.fld KEYS_GCM_LEN 15 0
     let ok := (vget s.keys.wkr 2 none).isSome && s.gcmRange (s.rd KEYS_GCM_SRC).toNat n
       && s.gcmRange (s.rd KEYS_GCM_DST).toNat (s.fld KEYS_GCM_LEN 15 0)
     s.wr KEYS_GCM_CTL (word (b2n ok * 2 ^ 31 + b2n (!ok) * 2 ^ 30 + b2n (bitAt v 1) * 2)))
  else s.setBit KEYS_GCM_CTL 1 (bitAt v 1)

/-- GCM_RUN (R262). `open_` is the direction. -/
def execGcmRun (open_ : Bool) (s : State) : Host.Outcome State Fault Refusal :=
  .next (if s.isOn 8 then s.gcmCtl (word (b2n open_ * 2 + 1)) else s)

/-- GCM_DONE (R262): the run's output, its tag in KEYS_BUF4–7, or TAGFAIL; a WKR cleared meanwhile sets ERR. -/
def execGcmDone (s : State) : Host.Outcome State Fault Refusal :=
  .next (if !s.isOn 8 ∨ !s.bit KEYS_GCM_CTL 31 then s else
    let s := s.setBit KEYS_GCM_CTL 31 false
    let aadN := s.fld KEYS_GCM_LEN 31 16
    let n := s.fld KEYS_GCM_LEN 15 0
    let src := (s.rd KEYS_GCM_SRC).toNat
    let dst := (s.rd KEYS_GCM_DST).toNat
    let aad := s.octets src aadN
    let data := s.octets (src + aadN) n
    let iv := s.keyBuf 0 12
    let s := match vget s.keys.wkr 2 none with
      | none => s.setBit KEYS_GCM_CTL 30 true
      | some k =>
        if s.bit KEYS_GCM_CTL 1 then
          (match Config.gcmOpen k.key iv aad (data ++ s.keyBuf 4 16) with
           | none => s.setBit KEYS_GCM_CTL 29 true
           | some p => s.dmaWrite dst (fit n p))
        else
          let c := Config.gcmSeal k.key iv aad data
          (s.dmaWrite dst (fit n c)).setKeyBuf 4 (fit 16 (c.drop n))
    s.raise 0x84 0x01)

/-! ### Zeroization (R257) -/

/-- Step 1: every key, the SEK, the sealed copies, KEYS_BUFk and any grant gone; the challenge replaced; a command in
flight completes NOKEY. -/
def State.zeroizeStart (s : State) (cause src : Nat) : State :=
  let s := s.clearKeys true
  let s := (List.range 32).foldl (fun s k => s.wr (KEYS_BUFk k) 0) s
  let s := s.consumeGrant.newChallenge
  s.modKeys fun x => { x with
    sek := false, zero := 1, zeroCause := cause, zeroSrc := src
    cmd := x.cmd.map fun k => { k with status := stNOKEY, detail := 0 } }

/-- ZEROIZE_SALT (R257, step 2): once LOG is ON the salt is overwritten (with a free value) and KEYS_STAT.ZERO set. -/
def execZeroizeSalt (s : State) : Host.Outcome State Fault Refusal :=
  .next (if s.keys.zero = 1 ∧ s.isOn 14 then
      let r := s.randomKey
      (r.2.modKeys fun x => { x with salt := toBlock r.1, zero := 2 }).setBit KEYS_STAT 3 true
    else s)

/-- Step 3: the object area and journal overwritten, device counters 0, store mode NONE, and ZERO cleared. Of a
tamper, the TAMPER record is written with its source and time (Table 15-3, step 5). -/
def State.zeroizeEnd (s : State) (cause src : Nat) : State :=
  let s := s.modKeys fun x => { x with objs := [], devCtr := [], devCkpt := [], devRest := [], zero := 0 }
  let s := s.setFld KEYS_STAT 31 3 0
  let s := (s.record 0x80 recZEROIZE (word cause) (word src) 0).raise 0x80 0x02
  if cause ≠ 0 then s else
  let r := s.mkRec 0x04 recTAMPER (word src) (word s.dbg.tampLc) (s.rd DBG_TAMPCNT)
  s.log { r with sec := s.rd DBG_TAMPSEC, grn := s.rd DBG_TAMPGRN, rtct := s.bit DBG_TAMPSTAT 27 }

/-- ZEROIZE (R257, step 3). -/
def execZeroize (s : State) : Host.Outcome State Fault Refusal :=
  .next (if s.keys.zero = 2 ∧ s.isOn 14 then s.zeroizeEnd s.keys.zeroCause s.keys.zeroSrc else s)

/-! ### Power (R264) -/

/-- Entry of CRYP to RET or OFF: slots and cache cleared; OFF clears every WKR, RET seals them (KEYS_WKRe.SEALED). -/
def State.keysLeaveOn (s : State) (off : Bool) : State :=
  if off then s.clearKeys true
  else
    (List.range 5).foldl (fun (s : State) e => if s.bit (KEYS_WKRe e) 31 then s.setBit (KEYS_WKRe e) 30 true else s)
      (s.clearKeys false)

end Sys2Proof.Machine
end

