-- ==== Sys2Proof/Machine/Time.lean ====
section
/-!
DEFINITION. Sys2Proof/Machine/Time.lean: network time (03): the counter and its tick, comparisons, the snapshot group,
sources, slew engine, step, time quality and holdover, cold start, and the instructions that read and wait for network
time (TRD, TWAIT). Records and faults of the counter carry block ID 0xC0 (log entry 14).
-/
namespace Sys2Proof.Machine

/-- Division rounded to the nearest, halves away from zero (R4). -/
def roundDiv (n : Int) (d : Nat) : Int :=
  if 0 ≤ n then (2 * n + d) / (2 * (d : Int)) else -((2 * (-n) + d) / (2 * (d : Int)))

/-- Division rounded up. -/
def ceilDiv (n d : Nat) : Nat := (n + d - 1) / d

/-- A change of the TIME block's own state. -/
def State.modTime (s : State) (f : TimeSt → TimeSt) : State := { s with time := f s.time }

/-! ### The counter -/

/-- Seconds and grains as one count of grains, modulo 2⁸⁰. -/
def State.netNow (s : State) : Nat := s.time.sec.toNat * 2 ^ 32 + s.time.grn.toNat

/-- The signed 64-bit difference a − b of two times seconds[31:0]:grains (R56). -/
def tdiff (a b : Nat) : Int := (BitVec.ofNat 64 (a % 2 ^ 64) - BitVec.ofNat 64 (b % 2 ^ 64)).toInt

/-- A time seconds[31:0]:grains as a count of grains. -/
def tval (sec grn : Word) : Nat := sec.toNat * 2 ^ 32 + grn.toNat

/-- A time in grains `ns` before `t`. -/
def before (t ns : Nat) : Nat := (t + 2 ^ 64 - (roundDiv (ns * 2 ^ 32) 1000000000).toNat % 2 ^ 64) % 2 ^ 64

/-- A time in grains `ns` after `t`. -/
def after (t ns : Nat) : Nat := (t + (roundDiv (ns * 2 ^ 32) 1000000000).toNat) % 2 ^ 64

/-- Network time now, modulo 2⁶⁴ grains. -/
def State.now (s : State) : Nat := s.netNow % 2 ^ 64

/-- What TRD returns in this SEQ cycle (R31): the counter at the last TIME edge plus the rounded product of the cycles
since and 4.294967296 grains; while the counter does not run, the value it holds (R82). -/
def State.trdNow (s : State) : Nat :=
  if s.time.running then (s.netNow + (roundDiv (s.time.phase.val * 4294967296) 1000000000).toNat) % 2 ^ 80
  else s.netNow

/-- The rate word TADJ, signed (R55). -/
def State.tadj (s : State) : Int := (s.rd TIME_TADJ).toInt

/-- The SLEW term in 2⁻⁴⁰ (R62): min(|R| / τ, LIM) as a fractional rate, rounded, with the sign of R. -/
def State.slew (s : State) : Int :=
  let tau := s.fld TIME_SLEW 31 16
  let lim := s.fld TIME_SLEW 15 0
  let r := s.time.resid.natAbs
  let m : Int := if r * 1000 ≤ lim * tau * 2 ^ 38 then roundDiv (r * 1000 * 4 : Nat) (tau * 1000000000)
    else roundDiv (lim * 2 ^ 40 : Nat) 1000000000
  if s.time.resid < 0 then -m else m

/-- The increment of a TIME edge in 2⁻³² grain (R54). -/
def increment (rate : Int) : Int := roundDiv (2 ^ 26 * (2 ^ 40 + rate)) 1000000000

/-- The counter moved by a signed amount in 2⁻³² grain; seconds wrap at 2⁴⁸ (R53). -/
def State.addTime (s : State) (d : Int) : State :=
  let t : Int := (s.netNow * 2 ^ 32 + s.time.sub.toNat : Nat)
  let v := ((t + d) % (2 ^ 112 : Int)).toNat
  s.modTime fun t => { t with
    sec := BitVec.ofNat 48 (v / 2 ^ 64), grn := word (v / 2 ^ 32), sub := word v }

/-- An offset of seconds and ns in 2⁻³² grain, rounded (R4, R63). -/
def offsetUnits (sec ns : Int) : Int := sec * 2 ^ 64 + roundDiv (ns * 2 ^ 64) 1000000000

/-- Does the slew engine stand still: TIME_CTL.SLEWHOLD in MAINT? -/
def State.slewHeld (s : State) : Bool := s.bit TIME_CTL 1 && s.mode == 10

/-! ### Quality -/

/-- TIME_TQ.STATE (Table 03-1). -/
def State.tqState (s : State) : Nat := s.fld TIME_TQ 1 0

/-- The source in use, 7 for none. -/
def State.usedSrc (s : State) : Nat := s.fld TIME_TQ 6 4

/-- Source k. -/
def State.src (s : State) (k : Nat) : TimeSrc :=
  vget s.time.src k { sec := 0, ns := 0, committed := false, valid := false, ageNs := 0, validNs := 0 }

/-- |R| in whole ns, rounded up. -/
def State.residUp (s : State) : Nat := ceilDiv s.time.resid.natAbs (2 ^ 38)

/-- TIME_TQERR (R65): |R| plus the accuracy of the source in use, rounded up; with no source the value of the register
(unknown, or the holdover model's). -/
def State.tqErr (s : State) : Nat :=
  if s.usedSrc = 7 then (s.rd TIME_TQERR).toNat
  else min (s.residUp + s.fld (TIME_SRCk_ACC s.usedSrc) 30 0) 0xFFFFFFFF

/-- TQ_OK brought to its level (R67): a fall raises TQ_LOW and waits for LOCKED. -/
def State.tqOkUpdate (s : State) : State :=
  let good := s.tqState != 0 && decide (s.tqErr ≤ (s.rd TIME_TQLIM).toNat)
  if s.bit TIME_TQ 2 then
    (if good then s
     else ((s.setBit TIME_TQ 2 false).modTime fun t => { t with tqNeedLock := true }).fault 19 0xC0 0 0)
  else if good && (!s.time.tqNeedLock || s.tqState == 3) then
    (s.setBit TIME_TQ 2 true).modTime fun t => { t with tqNeedLock := false }
  else s

/-- A change of STATE (R65), with its record and flags. `back`: the first committed offset on leaving HOLDOVER. -/
def State.setTq (s : State) (st : Nat) (back : Int) : State :=
  let old := s.tqState
  if st = old then s.tqOkUpdate else
  let s := s.setFld TIME_TQ 1 0 st
  let s := if st = 1 then s.setBit TIME_STAT 2 true else s
  let s := if old = 1 then s.setBit TIME_STAT 3 true else s
  let s := s.record 0xC0 recTQ_CHANGE (word (old * 16 + st)) (word s.tqErr)
    (if old = 1 then iword (max (-2 ^ 31) (min back (2 ^ 31 - 1))) else 0)
  s.tqOkUpdate

/-- STATE as the source in use and R give it (Table 03-1). -/
def State.tqTarget (s : State) : Nat :=
  if s.usedSrc = 7 then (if s.time.everUsed then 1 else 0)
  else if 100 * 2 ^ 38 ≤ s.time.resid.natAbs then 2 else 3

/-- Entry to HOLDOVER (R66): E₀ and the temperature are taken. -/
def State.enterHoldover (s : State) (err : Nat) : State :=
  (s.wr TIME_TQERR (word err)).modTime fun t => { t with e0 := err, hoSec := 0, hoTemp := t.dieTemp, hoDev := 0 }

/-! ### Sources (R59–R61) -/

/-- R set to an offset in ns, held within ±(2³¹ − 1) ns; an excess sets OFFRANGE (R62). -/
def State.setResid (s : State) (ns : Int) : State :=
  let lim : Int := 2 ^ 31 - 1
  let s := if ns < -lim ∨ lim < ns then (s.setBit TIME_STAT 6 true).setBit TIME_TQ 3 true else s.setBit TIME_TQ 3 false
  s.modTime fun t => { t with resid := max (-lim) (min ns lim) * 2 ^ 38 }

/-- The primary and secondary of TIME_SRCSEL; 7 none, and a value above 3 names no source. -/
def State.primary (s : State) : Nat := s.fld TIME_SRCSEL 2 0

/-- The secondary of TIME_SRCSEL. -/
def State.secondary (s : State) : Nat := s.fld TIME_SRCSEL 6 4

/-- Is source k tracked (R60)? -/
def State.tracked (s : State) (k : Nat) : Bool := k ≤ 3 && (k == s.primary || k == s.secondary)

/-- The source that R61 puts in use: the primary stays or comes first, the secondary serves while the primary is lost,
and stays in use until it is lost or the primary reverts. -/
def State.pickSrc (s : State) : Nat :=
  let ok k := k ≤ 3 && (s.src k).valid
  let u := s.usedSrc
  if u ≤ 3 ∧ ok u ∧ s.tracked u then u
  else if ok s.primary then s.primary
  else if ok s.secondary then s.secondary
  else 7

/-- The source in use changed to `k` (R61): SWITCHED, the SRC_SWITCH record, and R replaced by the new source's last
committed offset. -/
def State.switchTo (s : State) (k : Nat) : State :=
  let old := s.usedSrc
  if k = old then s else
  let err := s.tqErr
  let s := (s.setBit TIME_STAT 1 true).setFld TIME_TQ 6 4 k
  let x := s.src k
  let s := s.record 0xC0 recSRC_SWITCH (word (old * 16 + k)) (if k = 7 then 0 else iword x.sec) (if k = 7 then 0 else iword x.ns)
  if k = 7 then s.enterHoldover err
  else (s.setResid (x.sec * 1000000000 + x.ns)).modTime fun t => { t with everUsed := true }

/-- The choice of R61 made and STATE brought to it. -/
def State.reselect (s : State) : State :=
  let s := s.switchTo s.pickSrc
  s.setTq s.tqTarget 0

/-- A source becomes lost (R60). -/
def State.loseSrc (s : State) (k : Nat) : State :=
  (s.modTime fun t => { t with src := vmod t.src k fun x => { x with valid := false, validNs := 0 } }).reselect

/-- A write of TIME_SRCk_N by an agent that is not a replayed program (R59, R84): the pair is committed, or refused when
|N| passes 999,999,999. -/
def State.commitSrc (s : State) (k : Nat) (n : Word) : State :=
  if n.toInt.natAbs > 999999999 then s.setBit TIME_STAT 6 true else
  let s := s.wr (TIME_SRCk_N k) n
  let sec := (s.rd (TIME_SRCk_S k)).toInt
  let off := sec * 1000000000 + n.toInt
  let usable := !s.bit (TIME_SRCk_ACC k) 31
  let s := s.modTime fun t => { t with src := vmod t.src k fun x => { x with
    sec := sec, ns := n.toInt, committed := true, ageNs := 0, valid := usable, validNs := if x.valid then x.validNs else 0 } }
  let wasHold := s.tqState = 1
  let s := s.switchTo s.pickSrc
  if s.usedSrc ≠ k then s.setTq s.tqTarget 0
  else if s.bit TIME_CTL 0 then
    (s.modTime fun t => { t with step := some (k, sec, n.toInt) }).setTq (if wasHold then 2 else s.tqTarget) off
  else
    let s := s.setResid off
    s.setTq s.tqTarget off

/-- SOURCE_COMMIT (R59): a write of TIME_SRCk_N by `agent`. In REPLAY a core's commit is recorded as an output and not
applied (R84). While TIME is not ON the write is discarded (R448). -/
def execSourceCommit (agent : Agent) (k : Fin 4) (n : Word) (s : State) : Host.Outcome State Fault Refusal :=
  .next (if !s.isOn 12 then s
    else match agent with
    | .core _ => if s.mode == 9 then s.replayOutput else s.commitSrc k n
    | _ => s.commitSrc k n)

/-- SOURCE_LOST (R60): the last commit of source k has become older than TIME_SRCk_TMO. `temp`: the core-die temperature
at that moment, for the holdover model. -/
def execSourceLost (k : Fin 4) (temp : Int) (s : State) : Host.Outcome State Fault Refusal :=
  .next (if s.isOn 12 ∧ (s.src k).valid then
      (s.modTime fun t => { t with
        dieTemp := temp
        src := vmod t.src k fun x => { x with ageNs := max x.ageNs (s.fld (TIME_SRCk_TMO k) 15 0 * 1000000 + 1) } }).loseSrc k
    else s)

/-- SOURCE_REVERT (R61): the primary has been valid without a break for REVHOLD seconds and, with REVERT set, is used
again. -/
def execSourceRevert (s : State) : Host.Outcome State Fault Refusal :=
  .next (if s.isOn 12 ∧ s.bit TIME_SRCSEL 8 ∧ s.primary ≤ 3 ∧ (s.src s.primary).valid then
      let s := s.switchTo s.primary
      s.setTq s.tqTarget 0
    else s)

/-- TQ_LOCKED (R65, R68): |R| has decayed below 100 ns. -/
def execTqLocked (s : State) : Host.Outcome State Fault Refusal :=
  .next (if s.isOn 12 ∧ s.tqState = 2 ∧ s.tqTarget = 3 then s.setTq 3 0 else s)

/-- The holdover error estimate after `t` seconds (R66): E₀ + F·t + ½·A·t² + T·ΔΘ·t in ns, rounded up, saturating. -/
def holdoverErr (e0 f a tc t dev : Nat) : Nat :=
  min (e0 + ceilDiv (f * t * 17280 + a * t * t + tc * dev * t * 172800) 1728000) 0xFFFFFFFE

/-- HOLDOVER_UPDATE (R66): once per second in HOLDOVER; `temp` is the core-die temperature, °C. -/
def execHoldoverUpdate (temp : Int) (s : State) : Host.Outcome State Fault Refusal :=
  .next (if s.isOn 12 ∧ s.tqState = 1 then
      let s := s.modTime fun t => { t with
        dieTemp := temp, hoSec := t.hoSec + 1, hoDev := max t.hoDev (temp - t.hoTemp).natAbs }
      (s.wr TIME_TQERR (word (holdoverErr s.time.e0 (s.fld TIME_HOMODEL 31 16) (s.fld TIME_HOMODEL 15 8)
        (s.fld TIME_HOMODEL 7 0) s.time.hoSec s.time.hoDev))).tqOkUpdate
    else s)

/-- A write of TIME_TADJ (R55): clipped to ±549,755,813, with TADJCLIP and a TADJ_CLIP record when clipped. -/
def State.writeTadj (s : State) (v : Word) : State :=
  let lim : Int := 549755813
  let x := max (-lim) (min v.toInt lim)
  let s := s.wr TIME_TADJ (iword x)
  if x = v.toInt then s else (s.setBit TIME_STAT 5 true).record 0xC0 recTADJ_CLIP v (iword x) 0

/-- TIME_TADJ_WRITE (R55). -/
def execTimeTadjWrite (v : Word) (s : State) : Host.Outcome State Fault Refusal :=
  .next (if s.isOn 12 then s.writeTadj v else s)

/-! ### The tick -/

/-- A pending step taken on a TIME edge (R63, R85): the counter moves, ARMED clears, R becomes zero, with STEPPED and its
record. -/
def State.takeStep (s : State) : State :=
  match s.time.step with
  | none => s
  | some (k, sec, ns) =>
    let s := s.addTime (offsetUnits sec ns)
    let s := s.modTime fun t => { t with step := none, resid := 0 }
    let s := ((s.setBit TIME_CTL 0 false).setBit TIME_STAT 0 true).setBit TIME_TQ 3 false
    (s.record 0xC0 recSTEPPED (word k) (iword sec) (iword ns)).setTq s.tqTarget 0

/-- A source's age on a TIME edge. -/
def TimeSrc.tick (x : TimeSrc) : TimeSrc :=
  { x with ageNs := if x.committed then x.ageNs + 4 else x.ageNs, validNs := if x.valid then x.validNs + 4 else 0 }

/-- One edge of the TIME clock (R53, R54, R62, R79): a step, the slew engine, the increment, and the mains axis. Before
the load of R82 the counter stands. -/
def State.timeTick (s : State) : State :=
  if !s.isOn 12 then s else
  let s := s.modTime fun t => { t with
    mSince := t.mSince + 1, mEdge := t.mEdge.map (· + 1), src := t.src.map TimeSrc.tick }
  if !s.time.running then s else
  let s := s.takeStep
  let w := if s.slewHeld then 0 else s.slew
  let s := s.addTime (increment (s.tadj + w))
  s.modTime fun t => { t with resid := t.resid - w, phacc := t.phacc + w }

/-! ### Cold start (R82) -/

/-- The pulse generators held by TARM released by a cold start. -/
def State.releasePulses (s : State) : State :=
  let held := (List.range 4).filter fun n => s.fld (TIME_PULSEn_CTL n) 11 8 != 15
  if held = [] then s else
  let s := held.foldl (fun (s : State) n =>
    let c := Fin.ofNat 8 (s.fld (TIME_PULSEn_CTL n) 11 8)
    let slot := (vget s.time.pulse n ⟨none, 0, none⟩).slot
    let s := s.modCore c fun k => { k with tarm := vset k.tarm slot none }
    let s := (s.setBit (TIME_PULSEn_CTL n) 0 false).setFld (TIME_PULSEn_CTL n) 11 8 15
    s.modTime fun t => { t with pulse := vmod t.pulse n fun p => { p with next := none, ends := none } }) s
  (s.setBit TIME_STAT 9 true).raise 0xC1 0x05

/-- TIME_COLD_START (R82): the counter stops until the RTC load; sources, TADJ, R and STATE go back; the step is armed;
the mains axis restarts as lost. The SEQ PLL, which goes with TIME, locks anew, and NETPH is measured: the value is free
(R73; log entry 43). -/
def State.timeCold (s : State) : State :=
  let r := s.fresh
  let s := r.2.wr TIME_STAMPCAL (word (2 ^ 31 + r.1.toNat % 8))
  let s := s.releasePulses
  let s := s.modTime fun t => { t with
    running := false, resid := 0, step := none, everUsed := false
    src := t.src.map fun x => { x with committed := false, valid := false, ageNs := 0xFFFFFF * 1000000, validNs := 0 }
    mCyc0 := 0, mSince := 0, mEdge := none, mIvals := [], mRun := 0 }
  let s := (s.wr TIME_TADJ 0).setBit TIME_CTL 0 true
  let s := (s.setFld TIME_TQ 6 4 7).wr TIME_TQERR 0xFFFFFFFF
  let s := s.setBit TIME_MAINS_STAT 0 true
  s.setTq 0 0

/-- TIME_COLD_START (R82), when PD12 is ON after RET, OFF or a reset. -/
def execTimeColdStart (s : State) : Host.Outcome State Fault Refusal :=
  .next (if s.isOn 12 then s.timeCold else s)

/-- COUNTER_LOAD (R82): on the first RTC tick edge after TIME is ON the counter takes the RTC's time, or 0 when
RTC_INVALID is set. -/
def execCounterLoad (s : State) : Host.Outcome State Fault Refusal :=
  .next (if s.isOn 12 ∧ !s.time.running then
      let bad := s.bit RTC_STAT 31
      s.modTime fun t => { t with
        running := true, sub := 0
        sec := if bad then 0 else BitVec.ofNat 48 (s.rtcNow / 65536)
        grn := if bad then 0 else word (s.rtcNow % 65536 * 65536) }
    else s)

/-! ### Snapshot groups (R58) -/

/-- A read of word `i` of a snapshot group of `n` words (R58, R339): the first read captures the words of now, and the
shadows are released when each has been read once. -/
def Shadow.read (h : Shadow) (i n : Nat) (cap : Bool → List Word) : Word × Shadow :=
  let h := if h.live then h else { live := true, words := cap h.stale, readMask := 0, stale := false }
  let m := h.readMask ||| (1 <<< i)
  (h.words.getD i 0, { h with readMask := m, live := m != 2 ^ n - 1 })

/-- The TIME group as captured now: SEC_LO, SEC_HI with TQSTATE and STALE, FRAC. -/
def State.timeWords (s : State) (stale : Bool) : List Word :=
  [word s.time.sec.toNat,
   word (s.time.sec.toNat / 2 ^ 32 + s.tqState * 65536 + b2n stale * 2 ^ 31), s.time.grn]

/-- A read of word `i` of the TIME group by an agent (R58). -/
def State.timeRead (s : State) (a : Agent) (i : Nat) : Word × State :=
  let h := vget s.time.shadow (agentIdx a) ⟨false, [], 0, false⟩
  let s := if !h.live && h.stale then s.setBit TIME_STAT 4 true else s
  let r := h.read i 3 s.timeWords
  (r.1, s.modTime fun t => { t with shadow := vset t.shadow (agentIdx a) r.2 })

/-- TIME_CAPTURE (R58): a read of word `i` of the group by an agent. -/
def execTimeCapture (a : Agent) (i : Fin 3) (s : State) : Host.Outcome State Fault Refusal :=
  .next (if s.isOn 12 then (let r := s.timeRead a i; { r.2 with bus := r.1 }) else { s with bus := 0 })

/-- A shadow set released by its time-out (R58): the next read of the agent captures anew, with STALE. -/
def Shadow.release (h : Shadow) : Shadow := if h.live then { h with live := false, stale := true } else h

/-! ### TRD and TWAIT -/

/-- TRD func14 0 (R31): gd ← grains, ga ← seconds[31:0], the whole value latched. The two registers must differ from each
other and from g0. While TIME is not ON both read zero (R30). -/
def execTrd (c : Fin 8) (gd ga : Fin 16) (s : State) : Host.Outcome State Fault Refusal :=
  .next (s.issue c fun s => s.legal c (gd == ga || gd == 0 || ga == 0) fun s =>
    if let some e := s.recorded c 5 then
      ((s.takeInput c).setGpr c ga ((e.data.drop 1).headD 0)).result c gd (e.data.headD 0)
    else if s.isOn 12 then
      let v := s.trdNow
      ((s.modCore c fun k => { k with trd := BitVec.ofNat 80 v }).setGpr c ga (word (v / 2 ^ 32))).result c gd (word v)
    else (s.setGpr c ga 0).result c gd 0)

/-- TRD func14 1 (R31): gd ← seconds[47:32] of the last TRD of the core. -/
def execTrdSecondsHi (c : Fin 8) (gd : Fin 16) (s : State) : Host.Outcome State Fault Refusal :=
  .next (s.issue c fun s =>
    let r := s.replayed c (if s.isOn 12 then word ((s.core c).trd.toNat / 2 ^ 64) else 0)
    r.2.result c gd r.1)

/-- TWAIT (R32): completes OK at a target equal to the TRD value of now, LATE when the target lies strictly before it, and
else waits. Before the load of R82 no comparison is made. func14 is reserved. -/
def execTwait (c : Fin 8) (gd ga gb : Fin 16) (func : BitVec 14) (s : State) : Host.Outcome State Fault Refusal :=
  .next (s.issue c fun s => s.legal c (func != 0) fun s => s.serve c gd [12] fun s =>
    let d := tdiff s.trdNow (tval (s.gpr c ga) (s.gpr c gb))
    if s.time.running ∧ d = 0 then s.complete c gd stOK
    else if s.time.running ∧ 0 < d then s.complete c gd stLATE
    else s.waitAt c (.twait gd (s.gpr c ga) (s.gpr c gb)))

/-- TWAIT_DONE (R32, R30): the waiting TWAIT of core c completes OK once TRD would return a value at or after the target;
NOTREADY with TIME's number when TIME has left ON. -/
def execTwaitDone (c : Fin 8) (s : State) : Host.Outcome State Fault Refusal :=
  .next (match (s.core c).run with
    | .waiting (.twait _ sec grn) =>
      if !s.isOn 12 then s.finishAt c (completion stNOTREADY 12)
      else if s.time.running ∧ 0 ≤ tdiff s.trdNow (tval sec grn) then s.finishAt c (completion stOK)
      else s
    | _ => s)

/-- TREARM (R34, R43): arms the step in PROVISION and MAINT, or with a re-arm authorisation (purpose 1), which it
consumes; DENIED otherwise and in REPLAY. Every one that TIME serves writes a TREARM record. sub20 is zero. -/
def execTrearm (c : Fin 8) (gd : Fin 16) (sub : BitVec 20) (rsv : BitVec 2) (s : State) :
    Host.Outcome State Fault Refusal :=
  .next (s.issue c fun s => s.legal c (sub != 0 || rsv != 0) fun s =>
    let rec_ (s : State) (st auth : Nat) := s.record 0xC0 recTREARM (word st) (word c.val) (word auth)
    if s.mode == 9 then (rec_ s stDENIED 0).complete c gd stDENIED
    else s.serve c gd [12] fun s =>
      if s.mode == 1 ∨ s.mode == 10 then (rec_ (s.setBit TIME_CTL 0 true) stOK 0).complete c gd stOK
      else if s.granted 1 then (rec_ (s.consumeGrant.setBit TIME_CTL 0 true) stOK 1).complete c gd stOK
      else (rec_ s stDENIED 0).complete c gd stDENIED)

end Sys2Proof.Machine
end

