-- ==== Sys2Proof/Machine/Card.lean ====
section
/-!
DEFINITION. Sys2Proof/Machine/Card.lean: wideband reception (04): receive paths and their states, gain, energy detectors,
qualifiers, the lane pool with its maintenance, receive windows with RXARM, and blanking.
-/
namespace Sys2Proof.Machine

/-- A change of the CARD state. -/
def State.modRx (s : State) (f : RxSt → RxSt) : State := { s with rx := f s.rx }

/-! ### Paths (R88–R90, R108, R109) -/

/-- A path as after reset. -/
def rxPathReset : RxPath := { st := 0, target := 2, blank := false, trsw := false, calAt := none }

/-- Path p. -/
def State.rxPath (s : State) (p : Nat) : RxPath := vget s.rx.path p rxPathReset

/-- Path p changed. -/
def State.modPath (s : State) (p : Nat) (f : RxPath → RxPath) : State := s.modRx fun r => { r with path := vmod r.path p f }

/-- CARD_PATHp_STAT.STATE brought to the path's state; a blanked path in RUN shows BLANK. -/
def State.showPath (s : State) (p : Nat) : State :=
  let x := s.rxPath p
  s.setFld (CARD_PATHp_STAT p) 18 16 (if x.blank && x.st == 2 then 4 else x.st)

/-- Does a path detect, qualify and allocate now? -/
def State.pathRuns (s : State) (p : Nat) : Bool := s.isOn 3 && (s.rxPath p).st == 2 && !(s.rxPath p).blank

/-! ### Lanes (R100–R105) -/

/-- The state of lane n (Table 04-7). -/
def State.laneState (s : State) (n : Nat) : Nat := s.fld (CARD_LANE_STATn n) 31 29

/-- The frame in lane n. -/
def State.laneFrame (s : State) (n : Nat) : Option RxFrame := tabGet (fun _ => none) s.rx.lane n

/-- Lane n's frame set. -/
def State.setLane (s : State) (n : Nat) (f : Option RxFrame) : State :=
  s.modRx fun r => { r with lane := tabSet (fun _ => none) r.lane n f }

/-- CARD_LANEPOOL counted again. -/
def State.showPool (s : State) : State :=
  let n (p : Nat → Bool) : Nat := ((List.range 64).filter fun i => p (s.laneState i)).length
  s.wr CARD_LANEPOOL (word (n (· == 0) * 65536 + n (fun c => c == 1 || c == 2) * 256 + n (fun c => 3 ≤ c)))

/-- The state of lane n set. -/
def State.setLaneState (s : State) (n st : Nat) : State := (s.setFld (CARD_LANE_STATn n) 31 29 st).showPool

/-- The register and bit of a lane's map bit. -/
def laneMap (n : Nat) : Nat := if n < 32 then CARD_LANE_MAP_LO else CARD_LANE_MAP_HI

/-- Is lane n mapped out in the map? -/
def State.laneMapped (s : State) (n : Nat) : Bool := s.bit (laneMap n) (n % 32)

/-- A lane's last words (R102, Table 04-9): the PSDU octets still to deliver, then the trailer. A lane whose PHR was not
decoded has no measurements: they are free values. -/
def State.endWords (s : State) (n : Nat) (f : RxFrame) (status : Nat) (tail : List Byte) : List FWord × State :=
  let a := s.fresh
  let b := a.2.fresh
  let m : Nat × Nat × BitVec 16 × BitVec 12 × Nat × State := match f.phr with
    | some (fl, len, fo, rs, lq) => (fl, len, fo, rs, lq, s)
    | none => (bits b.1 2 0, 0, a.1.setWidth 16, (a.1 >>> 16).setWidth 12, bits b.1 15 8, b.2)
  let s := m.2.2.2.2.2
  let (fl, fo, rs, lq) := (m.1, m.2.2.1, m.2.2.2.1, m.2.2.2.2.1)
  let w0 : BitVec 64 := BitVec.ofNat 64 (fo.toNat * 2 ^ 48 + rs.toNat * 2 ^ 36 + lq * 2 ^ 28 + f.ch * 2 ^ 20 + f.rate.val * 2 ^ 18
    + b2n f.fec * 2 ^ 17 + b2n f.w400 * 2 ^ 16 + status * 2 ^ 8 + n)
  let w1 : BitVec 64 := BitVec.ofNat 64 (f.tag.toNat * 2 ^ 32 + f.win * 2 ^ 24 + fl * 2 ^ 16 + f.toff.toNat)
  let started := (s.port n).wIn || (s.port n).wait != []
  let ws : List (BitVec 64) := ((List.range ((tail.length + 7) / 8)).map fun i =>
    (((tail.drop (8 * i)) ++ List.replicate 8 0).take 8).foldl (fun (v : BitVec 64) (o : Byte) => (v <<< 8) ||| o.setWidth 64) 0)
  let data := ws ++ [w0, w1]
  let fs := (List.range data.length).map fun i =>
    mkFWord (data.getD i 0) (i == 0 && !started) (i + 1 == data.length) false
  let s := (s.setFld (CARD_LANE_MEASn n) 31 12 (rs.toNat * 256 + lq)).setFld (CARD_LANE_FOFFn n) 15 0 fo.toNat
  (fs, s)

/-- Lane n ends its frame with a status of Table 04-8 and is released: to MAPPED_OUT when its map bit is set, else FREE
(R101, R110). -/
def State.endLane (s : State) (n status : Nat) (tail : List Byte) : State :=
  match s.laneFrame n with
  | none => s
  | some f =>
    let r := s.endWords n f status tail
    let s := r.1.foldl (fun s w => s.produce n w) r.2
    let s := (s.setLane n none).setFld (CARD_LANE_STATn n) 15 8 status
    s.setLaneState n (if s.laneMapped n then 5 else 0)

/-- Every lane busy on path p ends (lane frames stand under their channel). -/
def State.endLanes (s : State) (p status : Nat) : State :=
  (List.range 64).foldl (fun (s : State) n => match s.laneFrame n with
    | some f => if f.ch / 128 = p then s.endLane n status [] else s
    | none => s) s

/-- Is a lane busy on path p? -/
def State.pathBusy (s : State) (p : Nat) : Bool :=
  s.rx.lane.any fun e => match e.2 with
    | some f => f.ch / 128 == p
    | none => false

/-! ### Receive windows (R106, R107) -/

/-- Window w. -/
def State.rxWin (s : State) (w : Nat) : Option RxWin := tabGet (fun _ => none) s.rx.win w

/-- Window w set. -/
def State.setWin (s : State) (w : Nat) (x : Option RxWin) : State :=
  s.modRx fun r => { r with win := tabSet (fun _ => none) r.win w x }

/-- Window w ends with an outcome (1 FRAME, 2 TIMEOUT, 3 CANCELLED, 4 STARVED, 5 ABORT): its index is free, and its line is
raised when enabled. -/
def State.endWin (s : State) (w outcome : Nat) : State :=
  match s.rxWin w with
  | none => s
  | some x =>
    let s := ((s.setWin w none).setFld (CARD_RXWINw w) 31 30 0).setFld (CARD_RXWINw w) 27 24 outcome
    if x.event then s.deliver x.core x.line else s

/-- Windows open on path p end ABORT (R107). -/
def State.abortWins (s : State) (p : Nat) : State :=
  (List.range 128).foldl (fun (s : State) w =>
    if s.fld (CARD_RXWINw w) 31 30 = 2 ∧ s.fld (CARD_RXWINw w) 23 16 / 128 = p then s.endWin w 5 else s) s

/-! ### Path states -/

/-- Qualifiers of path p idle and their runs of detections broken (R89, R108). -/
def State.resetQual (s : State) (p : Nat) : State :=
  s.modRx fun r => { r with
    qual := tabDrop (fun c => c / 128 == p) r.qual, above := tabDrop (fun c => c / 128 == p) r.above }

/-- The first 256 evaluations of path p's detectors begin again (R94). -/
def State.restartEvals (s : State) (p : Nat) : State := s.modRx fun r => { r with evals := tabDrop (fun c => c / 128 == p) r.evals }

/-- Floors of path p at −115 dBm (R89). -/
def State.restartFloors (s : State) (p : Nat) : State :=
  ((List.range 128).foldl (fun s k => s.setFld (CARD_CHNFc (128 * p + k)) 15 0 0xFE34) s).restartEvals p

/-- A path takes a new state: PATH_STATE with the old and the new state and the cause (0 request or Plank, 1 retune, 2
calibration failure, 3 power), and event 0x31 or 0x32 : 0x02. Leaving RUN resets its qualifiers and aborts its windows. -/
def State.setPath (s : State) (p new cause : Nat) : State :=
  let old := (s.rxPath p).st
  if old = new then s else
  let s := (s.modPath p fun x => { x with st := new }).showPath p
  let s := if old = 2 then (s.resetQual p).abortWins p else s
  (s.record (0x31 + p) recPATH_STATE (word p) (word (old * 16 + new)) (word cause)).raise (0x31 + p) 0x02

/-- A draining path without busy lanes goes on (R109, step 3). -/
def State.drainOn (s : State) (p : Nat) : State :=
  if (s.rxPath p).st = 5 ∧ !s.pathBusy p then s.setPath p (if (s.rxPath p).target = 3 then 6 else 1) 0 else s

/-- A path started from OFF or MAPPED_OUT (R114): with CALOK its LO and ADC restart in 60 µs, else it calibrates first. -/
def State.startPath (s : State) (p cause : Nat) : State :=
  s.setPath p (if s.bit (CARD_PATHp_STAT p) 0 then 3 else 1) cause

/-- A write of CARD_PATHp_CTL.REQ (R109): 0 OFF, 1 RUN, 2 CAL, 3 MAPOUT. -/
def State.pathRequest (s : State) (p req : Nat) : State :=
  let s := s.setFld (CARD_PATHp_CTL p) 17 16 req
  let st := (s.rxPath p).st
  match req with
  | 0 => (s.endLanes p 6).setPath p 0 0
  | 1 => if st = 0 ∨ st = 6 then s.startPath p 0 else if st = 5 then s.setPath p 2 0 else s
  | _ => if st = 1 ∧ req = 2 then s else
    ((s.modPath p fun x => { x with target := req }).setPath p 5 0).drainOn p

/-- PATH_OFF_REQUEST (R109). -/
def execPathOffRequest (p : Fin 2) (s : State) : Host.Outcome State Fault Refusal :=
  .next (if s.isOn 3 then s.pathRequest p 0 else s)

/-- PATH_RUN_REQUEST (R109). -/
def execPathRunRequest (p : Fin 2) (s : State) : Host.Outcome State Fault Refusal :=
  .next (if s.isOn 3 then s.pathRequest p 1 else s)

/-- PATH_CAL_REQUEST (R109). -/
def execPathCalRequest (p : Fin 2) (s : State) : Host.Outcome State Fault Refusal :=
  .next (if s.isOn 3 then s.pathRequest p 2 else s)

/-- PATH_MAPOUT_REQUEST (R109). -/
def execPathMapoutRequest (p : Fin 2) (s : State) : Host.Outcome State Fault Refusal :=
  .next (if s.isOn 3 then s.pathRequest p 3 else s)

/-- CALWAIT_EXPIRY (R109): lanes still busy on a draining path end with ABORT, and the path goes on. -/
def execCalwaitExpiry (p : Fin 2) (s : State) : Host.Outcome State Fault Refusal :=
  .next (if s.isOn 3 ∧ (s.rxPath p).st = 5 then (s.endLanes p 6).drainOn p else s)

/-- PATH_CAL_DONE (R109): a calibration ends. `temp`: the core-die temperature, °C. A failure maps the path out, clears
CALOK and raises fault PATH_CAL. -/
def execPathCalDone (p : Fin 2) (ok : Bool) (temp : Int) (s : State) : Host.Outcome State Fault Refusal :=
  .next (if s.isOn 3 ∧ (s.rxPath p).st = 1 then
      (if ok then
        let s := (s.setBit (CARD_PATHp_STAT p) 0 true).setFld (CARD_PATHp_CAL p) 31 24 (iword temp).toNat
        let s := s.modPath p fun x => { x with calAt := some s.clock }
        (s.restartEvals p).setPath p 2 0
      else ((s.setBit (CARD_PATHp_STAT p) 0 false).setPath p 6 2).fault 6 (0x31 + p) 0 0)
    else s)

/-- PATH_CAL_RETRY (R387): 60 s after a PATH_CAL fault the calibration is repeated. -/
def execPathCalRetry (p : Fin 2) (s : State) : Host.Outcome State Fault Refusal :=
  .next (if s.isOn 3 ∧ (s.rxPath p).st = 6 ∧ !s.bit (CARD_PATHp_STAT p) 0 ∧
      s.rep.wins.any (fun e => e.2.cls == 6 && e.2.block == BitVec.ofNat 8 (0x31 + p)) then s.setPath p 1 0 else s)

/-- A write of F_C (R88, R89): out of range it is ignored; else it takes effect, and a path in RUN or RETUNE retunes. -/
def State.retune (s : State) (p : Nat) (fc : Nat) : State :=
  if fc < 78180 ∨ 94720 < fc then s.setBit CARD_STAT 4 true else
  let s := s.setFld (CARD_PATHp_FC p) 16 0 fc
  if (s.rxPath p).st = 2 ∨ (s.rxPath p).st = 3 then
    (((s.endLanes p 6).resetQual p).setPath p 3 1).restartFloors p
  else s.restartFloors p

/-- RETUNE (R89): CARD_PATHp_FC written with `fc`, in 10 kHz. -/
def execRetune (p : Fin 2) (fc : Fin 131072) (s : State) : Host.Outcome State Fault Refusal :=
  .next (if s.isOn 3 then s.retune p fc else s)

/-- RETUNE_END (R89, R114): the path returns to RUN. -/
def execRetuneEnd (p : Fin 2) (s : State) : Host.Outcome State Fault Refusal :=
  .next (if s.isOn 3 ∧ (s.rxPath p).st = 3 then s.setPath p 2 1 else s)

/-! ### Gain (R90) -/

/-- AGC_ATTACK (R90): the gain index rises by 2, at most to 18. -/
def execAgcAttack (p : Fin 2) (s : State) : Host.Outcome State Fault Refusal :=
  .next (if s.isOn 3 ∧ !s.bit (CARD_PATHp_CTL p) 4 ∧ (s.rxPath p).st ≠ 0 then
      let s := s.setFld (CARD_PATHp_STAT p) 12 8 (min 18 (s.fld (CARD_PATHp_STAT p) 12 8 + 2))
      (((s.bump (CARD_PATHp_CNT p) 31 16).setBit CARD_STAT 1 true)).raise (0x31 + p) 0x01
    else s)

/-- AGC_DECAY (R90): the gain index falls by 1. -/
def execAgcDecay (p : Fin 2) (s : State) : Host.Outcome State Fault Refusal :=
  .next (if s.isOn 3 ∧ !s.bit (CARD_PATHp_CTL p) 4 ∧ (s.rxPath p).st ≠ 0 then
      s.setFld (CARD_PATHp_STAT p) 12 8 (s.fld (CARD_PATHp_STAT p) 12 8 - 1) else s)

/-- The gain in force after a write of CARD_PATHp_CTL: GAIN while AGCMAN is set (R90). -/
def State.manualGain (s : State) (p : Nat) : State :=
  if s.bit (CARD_PATHp_CTL p) 4 then s.setFld (CARD_PATHp_STAT p) 12 8 (s.fld (CARD_PATHp_CTL p) 12 8) else s

/-! ### Detectors and qualifiers (R92–R96) -/

/-- Is a channel the idle half of a 400 kHz pair (R92)? -/
def State.idleHalf (s : State) (c : Nat) : Bool :=
  c % 2 == 1 && s.bit (CARD_CHCFGc (c - 1)) 31 && s.bit (CARD_CHCFGc (c - 1)) 29

/-- Is a channel's detector enabled: CARD, the channel, and no idle half (R92, R93)? -/
def State.chOn (s : State) (c : Nat) : Bool := s.bit CARD_CTL 0 && s.bit (CARD_CHCFGc c) 31 && !s.idleHalf c

/-- The rates a channel's width allows (Table 04-4). -/
def widthRates (w400 : Bool) : Nat := if w400 then 0xE else 0x3

/-- A write of CARD_CHCFGc (R92, R94): W400 is ignored on odd detectors, rate bits its width does not allow are discarded,
and a channel that becomes enabled restarts its adaptation. -/
def State.writeChcfg (s : State) (c : Nat) (v : Word) : State :=
  let v := v &&& 0xFF30003F
  let v := if c % 2 = 1 then putBits v 29 29 0 else v
  let v := putBits v 27 24 (bits v 27 24 &&& widthRates (bitAt v 29))
  let s' := s.wr (CARD_CHCFGc c) v
  if bitAt v 31 && !s.bit (CARD_CHCFGc c) 31 then
    s'.modRx fun r => { r with evals := tabSet (fun _ => 0) r.evals c 0 }
  else if !bitAt v 31 then
    s'.modRx fun r => { r with qual := tabSet (fun _ => .idle) r.qual c .idle, above := tabSet (fun _ => 0) r.above c 0 }
  else s'

/-- A signed 16-bit field. -/
def s16 (n : Nat) : Int := (BitVec.ofNat 16 n).toInt

/-- The floor of a channel, 0.25 dBm. -/
def State.floorOf (s : State) (c : Nat) : Int := s16 (s.fld (CARD_CHNFc c) 15 0)

/-- The floor set, between −130 and −60 dBm (R94). -/
def State.setFloor (s : State) (c : Nat) (v : Int) : State :=
  s.setFld (CARD_CHNFc c) 15 0 (iword (max (-520) (min (-240) v))).toNat

/-- Is a window open on a channel, or due to open within 2 ms, so that an ARMED channel's qualifier runs (R107)? -/
def State.winNear (s : State) (c : Nat) : Bool :=
  s.rx.win.any fun e => match e.2 with
    | none => false
    | some x => s.fld (CARD_RXWINw e.1) 23 16 == c
      && decide (-8589935 ≤ tdiff (s.netNow % 2 ^ 64) (tval x.sec x.grn))

/-- May the channel's qualifier run? -/
def State.mayQualify (s : State) (c : Nat) : Bool := !s.bit (CARD_CHCFGc c) 30 || s.winNear c

/-- A lane on channel c sees an evaluation below the threshold, or not: eight in a row after the PHR end the frame FADE
(R101). -/
def State.fade (s : State) (c : Nat) (below : Bool) : State :=
  (List.range 64).foldl (fun (s : State) n => match s.laneFrame n with
    | some f =>
      if f.ch ≠ c ∨ f.phr.isNone then s
      else
        let k := if below then f.below + 1 else 0
        let s := s.setLane n (some { f with below := k })
        if k = 8 then s.endLane n 4 [] else s
    | none => s) s

/-- DETECTOR_EVALUATION (R93, R94, R101): detector c has measured `power` (0.25 dBm) over the last 40 µs. At or above the
floor plus MARGIN it is a detection, which starts the qualifier; else the floor moves by 1/2^NFTC of the difference. -/
def execDetectorEvaluation (c : Fin 256) (power : Int) (s : State) : Host.Outcome State Fault Refusal :=
  .next (if !s.pathRuns (c.val / 128) || !s.chOn c then s else
    let s := s.setFld (CARD_CHNFc c) 31 16 (iword power).toNat
    let fl := s.floorOf c
    let n := tabGet (fun _ => 0) s.rx.evals c
    let s := s.modRx fun r => { r with evals := tabSet (fun _ => 0) r.evals c (min 256 (n + 1)) }
    if fl + s.fld (CARD_CHCFGc c) 5 0 ≤ power then
      let s := s.modRx fun r => { r with above := tabSet (fun _ => 0) r.above c (tabGet (fun _ => 0) r.above c + 1) }
      let s := if tabGet (fun _ => QualSt.idle) s.rx.qual c = .idle ∧ s.mayQualify c then
        s.modRx fun r => { r with qual := tabSet (fun _ => .idle) r.qual c .corr } else s
      s.fade c false
    else
      let k := if n < 256 then 4 else s.fld CARD_NFCTL 19 16
      let s := s.modRx fun r => { r with above := tabSet (fun _ => 0) r.above c 0 }
      (s.setFloor c (fl + roundDiv (power - fl) (2 ^ k))).fade c true)

/-- CHANNEL_JAM (R95): a channel at or above its threshold for DETMAX ms (25 evaluations a millisecond). -/
def execChannelJam (c : Fin 256) (s : State) : Host.Outcome State Fault Refusal :=
  .next (if !s.pathRuns (c.val / 128) || !s.chOn c
      || decide (tabGet (fun _ => 0) s.rx.above c < 25 * s.fld CARD_NFCTL 15 0) then s else
    let p := c.val / 128
    let s := s.setFloor c (s16 (s.fld (CARD_CHNFc c) 31 16) - 12)
    let s := s.modRx fun r => { r with above := tabSet (fun _ => 0) r.above c 0 }
    ((s.setBit CARD_STAT 5 true).raise (0x31 + p) 0x03).rated (0x31 + p) recCH_JAM p 0 (word p) (word c.val) true)

/-- PREAMBLE_CORRELATION (R96): the correlation of a rate of the channel succeeds and its SFD search begins. -/
def execPreambleCorrelation (c : Fin 256) (rate : Fin 4) (s : State) : Host.Outcome State Fault Refusal :=
  .next (if s.pathRuns (c.val / 128) ∧ s.chOn c ∧ s.bit (CARD_CHCFGc c) (24 + rate.val)
      ∧ tabGet (fun _ => QualSt.idle) s.rx.qual c = .corr ∧ s.mayQualify c then
      s.modRx fun r => { r with qual := tabSet (fun _ => .idle) r.qual c (.sfd rate) } else s)

/-- QUALIFIER_TIMEOUT (R96): no SFD within 1.2 ms; QFAIL counts, and the qualifier starts again after a detection. -/
def execQualifierTimeout (c : Fin 256) (s : State) : Host.Outcome State Fault Refusal :=
  .next (match tabGet (fun _ => QualSt.idle) s.rx.qual c with
    | .sfd _ =>
      let q := if tabGet (fun _ => 0) s.rx.above c = 0 then QualSt.idle else .corr
      (s.bump (CARD_CHCNTc c) 15 0).modRx fun r => { r with qual := tabSet (fun _ => .idle) r.qual c q }
    | _ => s)

/-! ### Allocation (R98, R99, R104–R107, R112, R114, R115) -/

/-- The window that takes a frame of channel c at a rate: the earliest opened (R107). -/
def State.winFor (s : State) (c rate : Nat) : Option Nat :=
  (List.range 128).foldl (fun (b : Option Nat) w =>
    match s.rxWin w with
    | none => b
    | some x =>
      if s.fld (CARD_RXWINw w) 31 30 ≠ 2 ∨ s.fld (CARD_RXWINw w) 23 16 ≠ c then b
      else if x.rates ≠ 0 ∧ x.rates / 2 ^ rate % 2 = 0 then b
      else match b with
        | none => some w
        | some v => match s.rxWin v with
          | some y => if tdiff (tval x.sec x.grn) (tval y.sec y.grn) < 0 then some w else b
          | none => b) none

/-- A window's mark of a starved frame, or of a frame received, which ends a window with ONE. -/
def State.markWin (s : State) (w : Option Nat) (got : Bool) : State :=
  match w with
  | none => s
  | some w => match s.rxWin w with
    | none => s
    | some x =>
      let s := s.setWin w (some { x with got := x.got || got, starved := x.starved || !got })
      if got && x.one then s.endWin w 1 else s

/-- A frame on channel c finds no lane (R99). -/
def State.starve (s : State) (c : Nat) (w : Option Nat) : State :=
  let s := ((s.bump (CARD_CHCNTc c) 31 16).bump CARD_STARVED_TOT 31 0).setBit CARD_STAT 7 true
  (s.rated 0x33 recLANE_STARVED 0 0 (word c) 0 true).markWin w false

/-- The constant of an SFD event in ns (Table 04-10): RF delay, Carder delay and 1.5 bit periods. -/
def sfdConstant (rate : Fin 4) (w400 : Bool) : Nat :=
  1420 + (if w400 then 3750 else 7500) + (match rate with
    | 0 => 30000 | 1 => 15000 | 2 => 10000 | 3 => 7500)

/-- The SFD instant of a frame that port n carries, as the MAC computes it (R165): the allocation edge less the constant,
corrected by TOFF. -/
def State.noteSfd (s : State) (n : Nat) (rate : Fin 4) (w400 : Bool) (toff : BitVec 16) : State :=
  let t := before s.now ((sfdConstant rate w400 : Int) - toff.toInt).toNat
  { s with mac := { s.mac with sfd := tabSet (fun _ => 0) s.mac.sfd n t } }

/-- One frame that qualifies (R96, R98, R99): its qualifier returns to step 1, and it takes the lowest-numbered free lane,
latches its SFD and raises 0x33 : 0x01 + n. -/
def State.qualifyOne (s : State) (q : SfdMatch) (rate : Fin 4) : State :=
  let c := q.ch.val
  let s := s.modRx fun r => { r with qual := tabSet (fun _ => .idle) r.qual c .corr }
  let w := s.winFor c rate
  if s.bit (CARD_CHCFGc c) 30 && w.isNone then s
  else if s.mode == 9 then (s.bump CARD_RPLDROP 31 0).setBit CARD_STAT 2 true
  else if !s.isOn 7 then (s.bump CARD_NOPKT 31 0).setBit CARD_STAT 3 true
  else if !s.bit CARD_CTL 1 || (s.dom 3).hold == some .delay then s.starve c w
  else match (List.range 64).find? fun n => s.laneState n == 0 with
  | none => s.starve c w
  | some n =>
    let w4 := s.bit (CARD_CHCFGc c) 29
    let tag := s.rx.tag
    let f : RxFrame := { ch := c, rate := rate, fec := q.coded, w400 := w4, tag := tag, win := w.getD 0xFF, toff := q.toff,
                         since := s.clock, phr := none, below := 0 }
    let s := (((s.setLane n (some f)).setSlot n none).noteSfd n rate w4 q.toff).modRx fun r => { r with tag := r.tag + 1 }
    let last := s.fld (CARD_LANE_STATn n) 15 8
    let s := s.wr (CARD_LANE_STATn n)
      (word (2 ^ 29 + c * 2 ^ 16 + last * 2 ^ 8 + rate.val * 16 + b2n w4 * 2 + b2n q.coded))
    let ovr := s.bit (CARD_LANE_SFDn n) 31
    let s := s.wr (CARD_LANE_SFDn n) (word (2 ^ 31 + b2n ovr * 2 ^ 30 + bits tag 13 0 * 2 ^ 16 + q.toff.toNat))
    ((s.showPool).raise 0x33 (0x01 + n)).markWin w true

/-- The order of R98: PRIO, then path A before B, then the lower detector. -/
def State.qualBefore (s : State) (a b : SfdMatch) : Bool :=
  let pa := s.fld (CARD_CHCFGc a.ch) 21 20
  let pb := s.fld (CARD_CHCFGc b.ch) 21 20
  if pa ≠ pb then decide (pb ≤ pa) else decide (a.ch ≤ b.ch)

/-- QUALIFY (R96, R98, R112): the SFD matches of one CARD edge. A match whose qualifier does not search, or whose SFD is
coded on a channel without FEC, is none; one on a path that has left RUN counts in QFAIL. -/
def execQualify (ms : List SfdMatch) (s : State) : Host.Outcome State Fault Refusal :=
  .next ((sortBy (fun a b => s.qualBefore a b) ms).foldl (fun (s : State) q =>
    match tabGet (fun _ => QualSt.idle) s.rx.qual q.ch.val with
    | .sfd rate =>
      if q.coded && !s.bit (CARD_CHCFGc q.ch) 28 then s
      else if !s.pathRuns (q.ch.val / 128) then
        (s.bump (CARD_CHCNTc q.ch) 15 0).modRx fun r => { r with qual := tabSet (fun _ => .idle) r.qual q.ch.val .idle }
      else s.qualifyOne q rate
    | _ => s) s)

/-- Link quality from the SNR in hundredths of a dB (R103). -/
def linkQuality (snr : Int) : Nat := if snr ≤ 0 then 0 else min 255 (roundDiv (8 * snr) 100).toNat

/-- PHR_DECODED (R97, R100, R101): lane n has the PHR (mode switch, FCS type, DW, length) and its measurements: FOFF in
50 Hz, RSSI in 0.25 dBm, the SNR in 0.01 dB. FCS type 0 is the 4-octet FCS, 1 the 2-octet one (log entry 22). -/
def execPhrDecoded (n : Fin 64) (ms fcs dw : Bool) (len : Fin 2048) (foff : BitVec 16) (rssi : BitVec 12) (snr : Int)
    (s : State) : Host.Outcome State Fault Refusal :=
  .next (match s.laneFrame n with
    | none => s
    | some f =>
      if f.phr.isSome then s else
      let lq := linkQuality snr
      let flags := b2n ms * 4 + b2n fcs * 2 + b2n dw
      let s := s.setLane n (some { f with phr := some (flags, len.val, foff, rssi, lq) })
      if ms then s.endLane n 3 []
      else if len.val < (if fcs then 2 else 4) ∨ s.fld CARD_CTL 26 16 < len.val then s.endLane n 2 []
      else if s.laneState n = 1 then s.setLaneState n 2 else s)

/-- A release lets a draining path go on. -/
def State.released (s : State) : State := (s.drainOn 0).drainOn 1

/-- LANE_RELEASE (R100–R103): lane n has decoded the last bit; `tail` holds the PSDU octets that no word has carried yet,
`fcs` says that the FCS is correct. -/
def execLaneRelease (n : Fin 64) (fcs : Bool) (tail : List Byte) (s : State) : Host.Outcome State Fault Refusal :=
  .next (match s.laneFrame n with
    | some { phr := some _, .. } => (s.endLane n (if fcs then 0 else 1) tail).released
    | _ => s)

/-! ### Lane maintenance (R110, R111) -/

/-- A lane mapped out: cause 0 register write, 1 self-check failure, 2 Plank. -/
def State.mapOut (s : State) (n cause : Nat) : State :=
  let s := s.setBit (laneMap n) (n % 32) true
  let s := if s.laneState n = 0 ∨ s.laneState n = 3 ∧ cause = 1 then s.setLaneState n 5
    else if s.laneState n = 1 ∨ s.laneState n = 2 then s.setLaneState n 4 else s
  (s.record 0x33 recLANE_MAPOUT (word n) (word cause) (s.rd (laneMap n))).raise 0x33 0x41

/-- A write of CARD_LANE_MAP_LO or _HI (R110): bits set map lanes out; bits cleared take effect in MAINT only. -/
def State.writeLaneMap (s : State) (hi : Bool) (v : Word) (cause : Nat) : State :=
  (List.range 32).foldl (fun (s : State) i =>
    let n := i + 32 * b2n hi
    if bitAt v i && !s.laneMapped n then s.mapOut n cause
    else if !bitAt v i && s.laneMapped n && s.mode == 10 then
      let s := s.setBit (laneMap n) i false
      if s.laneState n = 5 then s.setLaneState n 0 else s
    else s) s

/-- LANE_MAP_WRITE (R110). -/
def execLaneMapWrite (hi : Bool) (v : Word) (s : State) : Host.Outcome State Fault Refusal :=
  .next (if s.isOn 3 then s.writeLaneMap hi v 0 else s)

/-- LANE_SELFCHECK (R111): the next FREE lane in round robin enters SELFTEST. -/
def execLaneSelfcheck (s : State) : Host.Outcome State Fault Refusal :=
  .next (if !s.isOn 3 ∨ s.fld CARD_CTL 15 8 = 0 then s else
    match (List.range 64).find? fun i => s.laneState ((s.rx.scNext + i) % 64) == 0 with
    | none => s
    | some i =>
      let n := (s.rx.scNext + i) % 64
      (s.setLaneState n 3).modRx fun r => { r with scNext := (n + 1) % 64 })

/-- SELFCHECK_END (R111): the check of lane n ends; a failure maps it out, sets SCFAIL and raises fault LANE_SELFCHK. -/
def execSelfcheckEnd (n : Fin 64) (ok : Bool) (s : State) : Host.Outcome State Fault Refusal :=
  .next (if s.laneState n ≠ 3 then s
    else if ok then s.setLaneState n (if s.laneMapped n then 5 else 0)
    else (((s.mapOut n 1).setBit CARD_STAT 6 true)).fault 5 0x33 n 0)

/-! ### Blanking (R108) -/

/-- The T/R switch of path p asserted: with BLANK set a path is blanked, its lanes end BLANKED, and BLANKS counts once. -/
def State.blankStart (s : State) (p : Nat) : State :=
  let s := s.modPath p fun x => { x with trsw := true }
  if !s.isOn 3 || !s.bit (CARD_PATHp_CTL p) 1 || (s.rxPath p).blank then s else
  let s := (s.modPath p fun x => { x with blank := true }).bump (CARD_PATHp_CNT p) 15 0
  (((s.resetQual p).endLanes p 5).released).showPath p

/-- The T/R switch of path p released. -/
def State.trswRelease (s : State) (p : Nat) : State := s.modPath p fun x => { x with trsw := false }

/-- BLANK_END (R108): 10 µs after the release of the switch. -/
def execBlankEnd (p : Fin 2) (s : State) : Host.Outcome State Fault Refusal :=
  .next (if (s.rxPath p).blank ∧ !(s.rxPath p).trsw then (s.modPath p fun x => { x with blank := false }).showPath p else s)

/-! ### RXARM (R106, R107) -/

/-- RXARM (R106): ga the descriptor; imm18[4:0] the line, [5] its enable; the other bits are reserved. -/
def execRxarm (c : Fin 8) (gd ga : Fin 16) (imm : BitVec 18) (s : State) : Host.Outcome State Fault Refusal :=
  .next (s.issue c fun s => s.legal c (imm.toNat / 64 != 0) fun s =>
    if s.mode == 9 then s.replayOutput.complete c gd stINHIBIT else
    s.serve c gd [3] fun s =>
    let d := s.desc c (s.gpr c ga) 4
    let w3 := d.getD 3 0
    let ch := bits w3 15 8
    let cfg := s.rd (CARD_CHCFGc ch)
    let mask := bits w3 7 4
    if !bitAt cfg 31 || s.idleHalf ch || d.getD 2 0 == 0 || (mask &&& bits cfg 27 24) != mask then s.complete c gd stRANGE
    else match (List.range 128).find? fun w => (s.rxWin w).isNone with
    | none => (s.setBit CARD_STAT 0 true).complete c gd stFULL
    | some w =>
      let late : Bool := s.isOn 12 && s.time.running && decide (0 < tdiff (s.netNow % 2 ^ 64) (tval (d.getD 0 0) (d.getD 1 0)))
      let x : RxWin := { sec := d.getD 0 0, grn := d.getD 1 0, dur := d.getD 2 0, rates := mask, one := bitAt w3 0
                         line := Fin.ofNat 32 imm.toNat, event := imm.getLsbD 5, core := c, got := false, starved := false }
      let s := (s.setWin w (some x)).wr (CARD_RXWINw w)
        (word ((if late then 2 else 1) * 2 ^ 30 + ch * 2 ^ 16 + bits w3 31 16))
      s.complete c gd (if late then stLATE else stOK) 0 w)

/-- RXARM_CANCEL (R107): imm18[17] CANCEL, its other bits reserved; the window index in ga[6:0]. -/
def execRxarmCancel (c : Fin 8) (gd ga : Fin 16) (imm : BitVec 17) (s : State) : Host.Outcome State Fault Refusal :=
  .next (s.issue c fun s => s.legal c (imm != 0) fun s =>
    if s.mode == 9 then s.replayOutput.complete c gd stINHIBIT else
    s.serve c gd [3] fun s =>
    let w := bits (s.gpr c ga) 6 0
    (s.endWin w 3).complete c gd stOK 0 w)

/-- The open time of a window, and its end: the duration converted to grains. -/
def RxWin.opens (x : RxWin) : Nat := tval x.sec x.grn

/-- The end of a window. -/
def RxWin.closes (x : RxWin) : Nat := (x.opens + (roundDiv (x.dur.toNat * 2 ^ 32) 1000000000).toNat) % 2 ^ 64

/-- WINDOW_OPEN (R107): window w reaches its open time. -/
def execWindowOpen (w : Fin 128) (s : State) : Host.Outcome State Fault Refusal :=
  .next (match s.rxWin w with
    | some x => if s.fld (CARD_RXWINw w) 31 30 = 1 ∧ 0 ≤ tdiff (s.netNow % 2 ^ 64) x.opens then
        s.setFld (CARD_RXWINw w) 31 30 2 else s
    | none => s)

/-- WINDOW_CLOSE (R107): window w reaches its close; FRAME, STARVED or TIMEOUT. During RET it completes on exit (R113). -/
def execWindowClose (w : Fin 128) (s : State) : Host.Outcome State Fault Refusal :=
  .next (match s.rxWin w with
    | some x => if s.isOn 3 ∧ 0 ≤ tdiff (s.netNow % 2 ^ 64) x.closes then
        s.endWin w (if x.got then 1 else if x.starved then 4 else 2) else s
    | none => s)

/-! ### Power and reset (R113–R115) -/

/-- Air time of a frame in bits (R100). -/
def RxFrame.bits (f : RxFrame) (len : Nat) : Nat :=
  if f.fec then (2 * (8 * (2 + len) + 6) + 15) / 16 * 16 else 8 * (2 + len)

/-- The bit period of a rate in ns, rounded up. -/
def bitNs (rate : Fin 4) : Nat :=
  match rate with
  | 0 => 20000 | 1 => 10000 | 2 => 6667 | 3 => 5000

/-- When a lane is free again at the latest, ns from now: `none` while its PHR is not decoded (R100, R113). -/
def State.laneLeft (s : State) (f : RxFrame) : Option Nat :=
  f.phr.map fun h => f.since + (f.bits h.2.1 + 2) * bitNs f.rate - s.clock

/-- The CARD agent's answer (R113): GRANT without a busy lane; a DELAY of at most 2.55 ms, in 10 µs; else REFUSE LANES.
`some 0` grants, `some n` delays n × 10 µs, `none` refuses. -/
def State.cardAnswer (s : State) : Option Nat :=
  s.rx.lane.foldl (fun (b : Option Nat) e => match b, e.2 with
    | none, _ => none
    | some m, some f => (match s.laneLeft f with
      | some ns => if 2550000 < ns then none else some (max m (max 1 ((ns + 9999) / 10000)))
      | none => none)
    | some m, none => some m) (some 0)

/-- CARD leaves ON: busy lanes end ABORT (R101, R113). -/
def State.cardLeave (s : State) : State := ((s.endLanes 0 6).endLanes 1 6).released

/-- CARD as after a reset, or out of OFF: registers at reset, lanes mapped out by the map, paths OFF, no window (R115). -/
def State.cardReset (s : State) : State :=
  let s := (s.resetBlock 0x40050000).modRx fun r => { r with
    path := Vector.replicate 2 rxPathReset, evals := [], above := [], qual := [], lane := [], win := [], scNext := 0 }
  ((List.range 64).foldl (fun (s : State) n => if s.laneMapped n then s.setFld (CARD_LANE_STATn n) 31 29 5 else s) s).showPool

/-- CARD leaves ON for OFF: open windows end ABORT. -/
def State.cardOff (s : State) : State := (List.range 128).foldl (fun s w => s.endWin w 5) s

/-- Exit from RET (R114): a path in RUN restarts its LO and ADC in 60 µs, a drained one goes on. -/
def State.cardFromRet (s : State) : State :=
  (List.range 2).foldl (fun (s : State) p =>
    let s := (s.modPath p fun x => { x with blank := false }).showPath p
    let s := if (s.rxPath p).st = 2 then
      -- the windows are kept, so the path's state changes without ending them
      let s := ((s.modPath p fun x => { x with st := 3 }).showPath p).resetQual p
      (s.record (0x31 + p) recPATH_STATE (word p) (word 0x23) 3).raise (0x31 + p) 0x02
    else s
    (s.restartEvals p).drainOn p) s

end Sys2Proof.Machine
end

