-- ==== Sys2Proof/Machine/Node.lean ====
section
/-!
DEFINITION. Sys2Proof/Machine/Node.lean: the node contexts in DRAM (06: R175, R176), their exact-match keys (08: R209, R210),
and what other units do with a context: the outgoing counter (10: R251–R253), and the deferred list (06: R161).
-/
namespace Sys2Proof.Machine

/-- A change of the MAC's own state. -/
def State.modMac (s : State) (f : MacSt → MacSt) : State := { s with mac := f s.mac }

/-- A change of the FWD block's own state. -/
def State.modFwd (s : State) (f : FwdSt → FwdSt) : State := { s with fwd := f s.fwd }

/-! ### Contexts (Table 06-11) -/

/-- The contexts the table holds. -/
def nodeMax : Nat := 131072

/-- The address of context `i`. -/
def State.nodeBase (s : State) (i : Nat) : Nat := (s.rd MAC_NTBASE).toNat + 256 * i

/-- A field of `n` octets at offset `off` of context `i`, little-endian (R447). -/
def State.node (s : State) (i off n : Nat) : Nat := s.loadN (s.nodeBase i + off) n

/-- A field of context `i` written; in REPLAY the node table does not change (R181). -/
def State.setNode (s : State) (i off n v : Nat) : State := if s.mode == 9 then s else s.storeN (s.nodeBase i + off) v n

/-- STATE of a context: 0 FREE, 1 JOINING, 2 ACTIVE, 3 LOST, 4 RESYNC, 5 QUARANTINE. -/
def State.nodeState (s : State) (i : Nat) : Nat := s.node i 0x0B 1 / 16

/-- CLASS of a context: 0 R, 1 S, 2 D. -/
def State.nodeClass (s : State) (i : Nat) : Nat := s.node i 0x0B 1 % 4

/-- STATE of a context set, with the count of FREE contexts in MAC_NODES. -/
def State.setNodeState (s : State) (i st : Nat) : State :=
  let old := s.nodeState i
  let s := s.setNode i 0x0B 1 (st * 16 + s.node i 0x0B 1 % 16)
  if old = 0 ∧ st ≠ 0 then s.setFld MAC_NODES 17 0 (s.fld MAC_NODES 17 0 - 1)
  else if old ≠ 0 ∧ st = 0 then s.setFld MAC_NODES 17 0 (s.fld MAC_NODES 17 0 + 1)
  else s

/-- A 32-bit saturating counter of a context: 0 RX, 1 DUP, 2 REPLAY, 3 MICFAIL. -/
def State.nodeCount (s : State) (i k : Nat) : State :=
  s.setNode i (0x40 + 4 * k) 4 (min (s.node i (0x40 + 4 * k) 4 + 1) (2 ^ 32 - 1))

/-- The lowest FREE context. -/
def State.freeNode (s : State) : Option Nat := firstNat (fun i => s.nodeState i == 0) nodeMax 0

/-- The EUI-64 of a context. -/
def State.nodeEui (s : State) (i : Nat) : Nat := s.node i 0 8

/-- The short key of a context: (PAN select, short address). -/
def State.nodeShort (s : State) (i : Nat) : Nat := s.node i 0x0A 1 % 4 * 65536 + s.node i 8 2

/-! ### Exact match (R209, R210) -/

/-- Table 0 holds EUI-64 keys, table 1 short keys. -/
def State.emTab (s : State) (short : Bool) : List EmKey := vget s.fwd.em (b2n short) []

/-- The node of a key. -/
def State.emFind (s : State) (short : Bool) (key : Nat) : Option Nat :=
  ((s.emTab short).find? fun e => e.key == key).map (·.node)

/-- A table replaced, with FWD_EMSTAT.OVF. -/
def State.setEm (s : State) (short : Bool) (l : List EmKey) : State :=
  let s := s.modFwd fun f => { f with em := vset f.em (b2n short) l }
  let n (b : Bool) : Nat := ((s.emTab b).filter fun e => e.bucket.isNone).length
  s.setFld FWD_EMSTAT 30 24 (max (n false) (n true))

/-- The two buckets of a key: the first choice, and the second choice after it. -/
def emBuckets (short : Bool) (key : Nat) : Nat × Nat :=
  (Config.emHash short false key % 32768, 32768 + Config.emHash short true key % 32768)

/-- A key inserted in the less occupied of its buckets, else in the overflow array; `none` when there is no room (R209,
R210). Equally occupied buckets take the first (log entry 23). -/
def State.emInsert (s : State) (short : Bool) (key node : Nat) : Option State :=
  let l := s.emTab short
  let b := emBuckets short key
  let n (k : Nat) : Nat := (l.filter fun e => e.bucket == some k).length
  let k := if n b.2 < n b.1 then b.2 else b.1
  if n k < 4 then some (s.setEm short (l ++ [⟨key, node, some k⟩]))
  else if (l.filter fun e => e.bucket.isNone).length < 64 then some (s.setEm short (l ++ [⟨key, node, none⟩]))
  else none

/-- The keys of a context removed. -/
def State.emRemove (s : State) (node : Nat) : State :=
  (s.setEm false ((s.emTab false).filter fun e => e.node != node)).setEm true
    ((s.emTab true).filter fun e => e.node != node)

/-- An insertion that found no room accounted (R210). -/
def State.emOverflow (s : State) (short : Bool) : State :=
  (s.setBit FWD_STAT 2 true).rated 0x75 recEM_OVF 0 0 (word (b2n short)) 0 true

/-! ### Outgoing counters of nodes (R251–R253) -/

/-- One value of a node's counter consumed: the value, or `none` when exhausted or the checkpoint write failed. -/
def State.consumeNode (s : State) (i : Nat) (ckptFails : Bool) : Option Word × State :=
  let ck := (s.nodeCkpt i).toNat
  let n := if tabGet (fun _ => false) s.keys.nodeRest i then s.node i 0x24 4 else max (s.node i 0x24 4) (ck + 1024)
  let s := s.markRestored i
  if tabGet (fun _ => false) s.keys.nodeExh i || decide (2 ^ 32 ≤ n) then (none, s.fcExhaust (word i))
  else if n % 1024 = 0 ∧ ckptFails then (none, s.ckptFailed)
  else
    let s := if n % 1024 = 0 then s.setNodeCkpt i (word n) else s
    let s := s.setNode i 0x24 4 ((n + 1) % 2 ^ 32)
    (some (word n), if n + 1 = 2 ^ 32 then s.modKeys fun k => { k with nodeExh := tabSet (fun _ => false) k.nodeExh i true } else s)

/-! ### The deferred list (R161) -/

/-- A deferred acknowledgement entered; at the 257th the oldest is dropped. In STANDBY none is deferred (R181). -/
def State.deferAck (s : State) (node dsn : Nat) : State :=
  if s.mode == 5 then s else
  let s := s.bump (MAC_CNTm 7) 31 0
  let l := s.mac.deferred ++ [⟨node, dsn, s.clock, 0⟩]
  if 256 < l.length then (s.modMac fun m => { m with deferred := l.tail }).bump (MAC_CNTm 8) 31 0
  else s.modMac fun m => { m with deferred := l }

/-- An immediate ACK that was not sent: counted, and deferred instead (R160). -/
def State.ackFail (s : State) (node dsn : Nat) : State :=
  ((s.bump (MAC_CNTm 9) 31 0).setBit MAC_STAT 1 true).deferAck node dsn

end Sys2Proof.Machine
end

