-- ==== Sys2Proof/Machine/Stop.lean ====
section
/-!
DEFINITION. Sys2Proof/Machine/Stop.lean: the stop latch and the stop inputs of the AON domain (12: R297–R299), and the
instruction STOP. RESUME, which needs the key store, is in Fleet.lean; the stop generator is in Fleet.lean.
-/
namespace Sys2Proof.Machine

/-! ### The transmit chains (05) -/

/-- A change of the transmit state. -/
def State.modTx (s : State) (f : TxSt → TxSt) : State := { s with tx := f s.tx }

/-- A chain after reset. -/
def txChainReset : TxChain :=
  { queue := [], run := none, order := 0, wait := 1, calreq := none, lastBg := 1023, trsw := false, paEn := false, bias := 0,
    drv := 0 }

/-- Chain x. -/
def State.chain (s : State) (x : Nat) : TxChain := vget s.tx.chain x txChainReset

/-- Chain x changed. -/
def State.modChain (s : State) (x : Nat) (f : TxChain → TxChain) : State := s.modTx fun t => { t with chain := vmod t.chain x f }

/-- The domain of a chain: SUBTX 4, ISM 5. -/
def txDom (x : Nat) : Nat := if x < 2 then 4 else 5

/-- The block ID of a chain (Table 05-15). -/
def txBlock (x : Nat) : Nat := if x = 0 then 0x41 else if x = 1 then 0x42 else 0x51

/-! ### Registers of a chain (R147, R148) -/

def synStat (x : Nat) : Nat := if x < 2 then SUBTX_SYNx_STAT x else ISM_SYN_STAT
def txPwr (x : Nat) : Nat := if x < 2 then SUBTX_TXx_PWR x else ISM_TX_PWR
def txPdet (x : Nat) : Nat := if x < 2 then SUBTX_TXx_PDET x else ISM_TX_PDET
def txQstat (x : Nat) : Nat := if x < 2 then SUBTX_TXx_QSTAT x else ISM_TX_QSTAT
def txLast (x : Nat) : Nat := if x < 2 then SUBTX_TXx_LAST x else ISM_TX_LAST
def txCnt (x : Nat) : Nat := if x < 2 then SUBTX_TXx_CNT x else ISM_TX_CNT
def txCnt2 (x : Nat) : Nat := if x < 2 then SUBTX_TXx_CNT2 x else ISM_TX_CNT2
def txStat (x : Nat) : Nat := if x < 2 then SUBTX_STAT else ISM_STAT
def txFrq (x k : Nat) : Nat := if x < 2 then SUBTX_SYNx_FRQk x k else ISM_SYN_FRQk k
def txCal (x k : Nat) : Nat := if x < 2 then SUBTX_SYNx_CALk x k else ISM_SYN_CALk k
/-- TCOMP0, TCOMP1, VCOMP0, VCOMP1 by j. -/
def txComp (x j : Nat) : Nat := (if x < 2 then SUBTX_TXx_TCOMP0 x else ISM_TX_TCOMP0) + 4 * j
def dutyUsed (r b : Nat) : Nat := if r = 0 then SUBTX_DUTYb_USED b else ISM_DUTYb_USED b
def dutyCnt (r b : Nat) : Nat := if r = 0 then SUBTX_DUTYb_CNT b else ISM_DUTYb_CNT b

/-- Is the chain's enable bit set? -/
def State.chainOn (s : State) (x : Nat) : Bool := if x < 2 then s.bit SUBTX_CTL x else s.bit ISM_CTL 0

/-- Does background calibration run on the chain? -/
def State.bgcal (s : State) (x : Nat) : Bool := if x < 2 then s.bit SUBTX_CTL 4 else s.bit ISM_CTL 4

/-- The PA sensor of a chain, °C. -/
def State.paTemp (s : State) (x : Nat) : Int :=
  (BitVec.ofNat 8 (if x = 0 then s.fld SUBTX_TEMP 7 0 else if x = 1 then s.fld SUBTX_TEMP 15 8 else s.fld ISM_TEMP 7 0)).toInt

/-- The PA supply of a chain, mV. -/
def State.paVolt (s : State) (x : Nat) : Nat :=
  if x = 0 then s.fld SUBTX_VPA 15 0 else if x = 1 then s.fld SUBTX_VPA 31 16 else s.fld ISM_VPA 15 0

/-- The synthesiser's state: 0 OFF, 1 IDLE, 2 HOP, 3 LOCKED, 4 CAL, 5 BGCAL, 6 TX. -/
def State.syn (s : State) (x : Nat) : Nat := s.fld (synStat x) 31 29

/-- The synthesiser's state set. -/
def State.setSyn (s : State) (x st : Nat) : State := s.setFld (synStat x) 31 29 st

/-- The state of a synthesiser that serves nothing: IDLE while its chain is enabled, else OFF. -/
def State.idleSyn (s : State) (x : Nat) : State := s.setSyn x (if s.chainOn x then 1 else 0)

/-- QSTAT brought to the queue: DEPTH, and the TAG of the next command. -/
def State.showQueue (s : State) (x : Nat) : State :=
  let c := s.chain x
  let all := (c.run.map (·.cmd)).toList ++ c.queue
  let own := all.filter fun m => match m.src with
    | .stop _ => false
    | _ => true
  s.wr (txQstat x) (word (min own.length 16 * 65536 + ((all.head?.map (·.tag)).getD 0) % 65536))

/-- Commands withdrawn without completion from a chain's queue, and from its synthesiser before the ramp (R300). -/
def State.withdraw (s : State) (p : TxSrc → Bool) : State :=
  (List.range 3).foldl (fun (s : State) x =>
    let c := s.chain x
    let run := match c.run with
      | some r => r.ramp.isNone && p r.cmd.src
      | none => false
    if !run && !c.queue.any fun m => p m.src then s else
    let s := s.modChain x fun c => { c with
      queue := c.queue.filter fun m => !p m.src
      run := if run then none else c.run }
    (if run then s.idleSyn x else s).showQueue x) s

/-- Is a command the GO generator's, or the stop generator's? -/
def TxSrc.isGo : TxSrc → Bool
  | .go _ => true
  | _ => false

def TxSrc.isStop : TxSrc → Bool
  | .stop _ => true
  | _ => false

/-! ### The latch (R298, R299) -/

/-- The stop latch. -/
def State.latched (s : State) : Bool := s.bit FLEET_STOP_STAT 31

/-- The episode. -/
def State.episode (s : State) : Nat := s.fld FLEET_STOP_STAT 15 0

/-- A RESUME's pending clear undone: it completes DENIED with detail 1 (R299, R304). -/
def State.cancelClear (s : State) : State :=
  match s.fleet.clear with
  | none => s
  | some r =>
    let s := { s with fleet := { s.fleet with clear := none } }
    match r.svc with
    | none => s.finish r.core (fun w => match w with
        | .resume _ => true
        | _ => false) (completion stDENIED 1)
    | some head => s.reply r.core head stDENIED [s.rd FLEET_STOP_STAT]

/-- The latch set with a cause (R298). While it is set, only STOP_ALSO is written, at most one per second. -/
def State.setLatch (s : State) (cause : Nat) : State :=
  if s.latched then (s.rated 0x03 recSTOP_ALSO 0 0 (word cause) (word s.episode) true).cancelClear
  else
    let st := s.stamp
    let ep := (s.episode + 1) % 65536
    let v := s.rd FLEET_STOP_STAT
    let s := s.wr FLEET_STOP_STAT
      (putBits (putBits (putBits (putBits v 31 31 1) 25 25 (b2n st.2.2)) 23 16 cause) 15 0 ep)
    let s := (s.wr FLEET_STOP_LSEC st.1).wr FLEET_STOP_LGRN st.2.1
    let s := (s.withdraw TxSrc.isStop).withdraw TxSrc.isGo
    let s := { s with fleet := { s.fleet with genLast := none, goRuns := [] } }.wr FLEET_STOP_GEN 0
    let s := s.raise 0x03 0x01
    let s := s.record 0x03 recSTOP_LATCH (word cause) (word ep) (word (b2n st.2.2))
    s.wake 6 cause [13]

/-- STOP (R298, R43): sub20[7:0] the cause, recorded as 0x10 when below it; INHIBIT in REPLAY, where it is recorded as an
output. -/
def execStop (c : Fin 8) (gd : Fin 16) (sub : BitVec 20) (rsv : BitVec 2) (s : State) :
    Host.Outcome State Fault Refusal :=
  .next (s.issue c fun s => s.legal c (rsv != 0 || sub.toNat / 256 != 0) fun s =>
    if s.mode == 9 then s.replayOutput.complete c gd stINHIBIT
    else
      let st := if s.latched then stALREADY else stOK
      (s.setLatch (max (sub.toNat % 256) 0x10)).complete c gd st)

/-- The bit of FLEET_STOP_STAT that shows an input's filtered level: PINA, PINB. -/
def pinBit (b : Bool) : Nat := if b then 29 else 30

/-- The bit of FLEET_STOP_STAT that shows an input stuck: STUCKA, STUCKB. -/
def stuckBit (b : Bool) : Nat := if b then 26 else 27

/-- DISC holds only while the filtered levels differ (Table 12-8). -/
def State.discEnd (s : State) : State :=
  if s.bit FLEET_STOP_STAT 30 == s.bit FLEET_STOP_STAT 29 then s.setBit FLEET_STOP_STAT 28 false else s

/-- The host interrupt-free counting of a glitch: GLITCHA [31:16], GLITCHB [15:0], with its record at most once per second
per input. -/
def State.stopGlitch (s : State) (b : Bool) : State :=
  let s := if b then s.bump FLEET_STOP_CNT 15 0 else s.bump FLEET_STOP_CNT 31 16
  s.rated 0x03 recSTOP_GLITCH (b2n b) 0 (word (b2n b)) 0 true

/-- Any low sample restarts the count of R299. -/
def State.lowSample (s : State) : State :=
  { s with fleet := { s.fleet with high := 0 } }.wr FLEET_STOP_CLR 0

/-- The latch set by an input. The spec states no CAUSE for the inputs, so it is a free value (log entry 18). -/
def State.stopInputLatch (s : State) : State :=
  let f := s.fresh
  f.2.setLatch (bits f.1 7 0)

/-- STOP_INPUT_ASSERT (R297): input A (false) or B (true) has been seen low on `samples` consecutive AON edges: three or
more are a valid assertion, one or two a glitch. -/
def execStopInputAssert (b : Bool) (samples : Nat) (s : State) : Host.Outcome State Fault Refusal :=
  .next (if samples = 0 then s
    else if samples < 3 then s.lowSample.stopGlitch b
    else ((s.lowSample.setBit FLEET_STOP_STAT (pinBit b) true).discEnd).stopInputLatch)

/-- STOP_INPUT_RELEASE (R297): the third consecutive high sample; the filtered level returns, the latch stays. -/
def execStopInputRelease (b : Bool) (s : State) : Host.Outcome State Fault Refusal :=
  .next (((s.setBit FLEET_STOP_STAT (pinBit b) false).setBit FLEET_STOP_STAT (stuckBit b) false).discEnd)

/-- INPUT_STUCK (R297): an input asserted for 60 s; its STOP_STUCK record is written once per episode. -/
def execInputStuck (b : Bool) (s : State) : Host.Outcome State Fault Refusal :=
  .next (if !s.bit FLEET_STOP_STAT (pinBit b) then s else
    let s := s.setBit FLEET_STOP_STAT (stuckBit b) true
    if vget s.fleet.stuckEp (b2n b) none == some s.episode then s else
    let s := { s with fleet := { s.fleet with stuckEp := vset s.fleet.stuckEp (b2n b) (some s.episode) } }
    s.record 0x03 recSTOP_STUCK (word (b2n b)) (word s.episode) 0)

/-- STOP_DISC (R297): the filtered levels have differed for DISCT ms. -/
def execStopDisc (s : State) : Host.Outcome State Fault Refusal :=
  .next (if s.bit FLEET_STOP_STAT 30 == s.bit FLEET_STOP_STAT 29 || s.bit FLEET_STOP_STAT 28 then s else
    let s := (s.setBit FLEET_STOP_STAT 28 true).raise 0x03 0x03
    let s := s.fault 16 0x03 0 0
    s.record 0x03 recSTOP_DISC
      (word (b2n (s.bit FLEET_STOP_STAT 30) * 2 + b2n (s.bit FLEET_STOP_STAT 29))) (word s.episode) 0)

/-- A write of FLEET_STOP_SW (R298): with KEY 0x5354 the latch is set with cause 0x03. -/
def State.stopSw (s : State) (v : Word) : State := if bits v 31 16 = 0x5354 then s.setLatch 0x03 else s

/-- STOP_SW (R298). -/
def execStopSw (v : Word) (s : State) : Host.Outcome State Fault Refusal := .next (s.stopSw v)

/-- An AON edge with both inputs high counts towards R299; the register shows whole milliseconds, saturating. -/
def State.stopAonTick (s : State) : State :=
  if s.bit FLEET_STOP_STAT 30 || s.bit FLEET_STOP_STAT 29 then s else
  let h := min (s.fleet.high + 1) 2147483648
  { s with fleet := { s.fleet with high := h } }.wr FLEET_STOP_CLR (word (min (h * 1000 / 32768) 65535))

end Sys2Proof.Machine
end

