-- ==== Sys2Proof/Machine/Tx.lean ====
section
/-!
DEFINITION. Sys2Proof/Machine/Tx.lean: transmission (05): synthesiser entries and calibration, the commands of a chain from
TXQ to their outcome, the regulatory guard with its duty accounts, power, and the 2.4 GHz receiver. Chain 0 is TXA, 1 TXB,
2 TXI.
-/
namespace Sys2Proof.Machine

/-! ### Entries (R117–R119) -/

/-- VALID of entry k. -/
def State.calValid (s : State) (x k : Nat) : Bool := s.bit (txCal x k) 23

/-- STALE counted again (SYNx_STAT.STALE). -/
def State.showStale (s : State) (x : Nat) : State :=
  s.setFld (synStat x) 10 0 ((List.range 1024).filter fun k => s.calValid x k && s.bit (txCal x k) 22).length

/-- Entry k made cold: VALID and STALE cleared. -/
def State.makeCold (s : State) (x k : Nat) : State := (s.setFld (txCal x k) 23 22 0).showStale x

/-- The frequency range of Table 05-1 in 10 Hz units. -/
def frqInRange (x f : Nat) : Bool :=
  if x < 2 then decide (76900000 ≤ f ∧ f ≤ 96000000) else decide (240000000 ≤ f ∧ f ≤ 248350000)

/-- A write of FRQ (R117). -/
def State.writeFrq (s : State) (x k f : Nat) : State :=
  if frqInRange x f then (s.wr (txFrq x k) (word f)).makeCold x k else s.setBit (txStat x) 10 true

/-- FRQ_WRITE (R117). -/
def execFrqWrite (x : Fin 3) (k : Fin 1024) (f : Fin 268435456) (s : State) : Host.Outcome State Fault Refusal :=
  .next (if s.isOn (txDom x) then s.writeFrq x k f else s)

/-- PA_SENSOR_READ (R118): every 10 ms; entries 15 °C away become cold, from 5 °C on stale. `temp` in °C, `mv` the PA supply. -/
def execPaSensorRead (x : Fin 3) (temp : Int) (mv : Nat) (s : State) : Host.Outcome State Fault Refusal :=
  .next (if !s.isOn (txDom x) then s else
    let b := (iword temp).toNat % 256
    let s := match x with
      | 0 => (s.setFld SUBTX_TEMP 7 0 b).setFld SUBTX_VPA 15 0 mv
      | 1 => (s.setFld SUBTX_TEMP 15 8 b).setFld SUBTX_VPA 31 16 mv
      | 2 => (s.setFld ISM_TEMP 7 0 b).setFld ISM_VPA 15 0 mv
    let s := (List.range 1024).foldl (fun (s : State) k =>
      if !s.calValid x k then s else
        let d := (s.paTemp x - (BitVec.ofNat 8 (s.fld (txCal x k) 31 24)).toInt).natAbs
        if 15 ≤ d then s.setFld (txCal x k) 23 22 0 else if 5 ≤ d then s.setBit (txCal x k) 22 true else s) s
    s.showStale x)

/-- A write of CALREQ (R118): ALL marks every valid entry stale, GO names the entry calibrated next. -/
def State.calreq (s : State) (x : Nat) (v : Word) : State :=
  let s := if bitAt v 31 then ((List.range 1024).foldl (fun (s : State) k =>
      if s.calValid x k then s.setBit (txCal x k) 22 true else s) s).showStale x else s
  if bitAt v 30 then s.modChain x fun c => { c with calreq := some (bits v 9 0) } else s

/-- CALREQ_ALL (R118). -/
def execCalreqAll (x : Fin 3) (s : State) : Host.Outcome State Fault Refusal :=
  .next (if s.isOn (txDom x) then s.calreq x 0x80000000 else s)

/-- CALREQ_GO (R118). -/
def execCalreqGo (x : Fin 3) (k : Fin 1024) (s : State) : Host.Outcome State Fault Refusal :=
  .next (if s.isOn (txDom x) then s.calreq x (word (2 ^ 30 + k)) else s)

/-- The entry a background calibration takes: the one of CALREQ, else the next stale entry (R118). -/
def State.bgEntry (s : State) (x : Nat) : Option Nat :=
  match (s.chain x).calreq with
  | some k => some k
  | none => ((List.range 1024).map fun i => ((s.chain x).lastBg + 1 + i) % 1024).find? fun k =>
      s.calValid x k && s.bit (txCal x k) 22

/-- T of a command. -/
def TxCmd.t (m : TxCmd) : Nat := tval m.sec m.grn

/-- When a command's hop or calibration is due (R123). -/
def State.hopStart (s : State) (x : Nat) (m : TxCmd) : Nat := before m.t (if s.calValid x m.entry then 33000 else 158000)

/-- BGCAL_START (R118): an idle synthesiser without a hop start within 160 µs calibrates an entry. -/
def execBgcalStart (x : Fin 3) (s : State) : Host.Outcome State Fault Refusal :=
  .next (if !s.isOn (txDom x) || !s.bgcal x || s.syn x != 1 || (s.dom (txDom x)).hold == some .delay
      || (s.chain x).queue.any (fun m => decide (tdiff (s.hopStart x m) s.now < 687195)) then s else
    match s.bgEntry x with
    | none => s
    | some k =>
      let s := (s.setSyn x 5).setFld (synStat x) 25 16 k
      s.modChain x fun c => { c with calreq := none, lastBg := k, wait := 1 })

/-! ### Outcomes (R127) -/

/-- The word of a signed 12-bit power. -/
def pow12 (p : Int) : Nat := (iword p).toNat % 4096

/-- A chain's answer to a GO (R296): sent, or failed with its completion record word 0. A GO that no chain sent is a failure,
and the third in a row writes GO_MISS (log entry 29). -/
def State.goDone (s : State) (seq : Nat) (sent : Bool) (word0 : Word) : State :=
  let s := if sent then s.bump (FLEET_CNTm 0) 31 0 else (s.bump (FLEET_CNTm 1) 31 0).setBit FLEET_STAT 5 true
  match s.fleet.goRuns.find? fun r => r.seq == seq with
  | none => s
  | some r =>
    let r := { r with left := r.left - 1, ok := r.ok || sent, fail := r.fail || !sent, word0 := if sent then r.word0 else word0 }
    let rest := s.fleet.goRuns.filter fun q => q.seq != seq
    if r.left ≠ 0 then { s with fleet := { s.fleet with goRuns := rest ++ [r] } }
    else
      let n := if r.ok then 0 else s.fleet.goFails + 1
      let s := { s with fleet := { s.fleet with goRuns := rest, goFails := n } }
      if n = 3 then (s.setBit FLEET_STAT 6 true).record 0xD0 recGO_MISS (word seq) r.word0 0 else s

/-- A stop frame sent on a chain: STOPSENT, and once for each frame FLEET_STOP_GEN (log entry 29). -/
def State.stopSent (s : State) (n : Nat) : State :=
  let s := s.bump (FLEET_CNTm 2) 31 0
  if s.fleet.genLast == some n || !s.latched then s
  else { s with fleet := { s.fleet with genLast := some n } }.bump FLEET_STOP_GEN 31 0

/-- A stop frame that was not sent (R300): MISSED and STOPFAIL. -/
def State.stopMissed (s : State) : State := (s.bump (FLEET_CNTm 3) 31 0).setBit FLEET_STAT 4 true

/-- A fleet CORR frame sent (R296). -/
def State.corrSent (s : State) (m : TxCmd) : State :=
  if m.frame.corr then { s with fleet := { s.fleet with corrAt := some s.now } }.bump (FLEET_CNTm 7) 31 0 else s

/-- What the sender does with the outcome of a command: the completion record and line of a core (Table 05-5), the counts of
the MAC, and of the fleet engine. -/
def State.tellSender (s : State) (m : TxCmd) (outcome detail : Nat) (a : Nat) (power : Int) (air : Nat) : State :=
  let w0 := word (m.tag % 65536 * 65536 + b2n m.demoted * 256 + detail * 16 + outcome)
  match m.src with
  | .core c line event crec _ =>
    let s := if outcome ≤ 1 then s.corrSent m else s
    let s := s.putWords (corePhys c crec.toNat)
      [w0, word (a / 2 ^ 32), word a, word (pow12 power * 2 ^ 20 + min air 1048575)]
    if event then s.deliver c line else s
  | .mac => if outcome ≤ 1 then s else (s.bump (MAC_CNTm 10) 31 0).setBit MAC_STAT 2 true
  | .ack node dsn => if outcome ≤ 1 then s.bump (MAC_CNTm 6) 31 0 else s.ackFail node dsn
  | .go seq => s.goDone seq (outcome ≤ 1) w0
  | .stop n => if outcome ≤ 1 then s.stopSent n else s.stopMissed

/-- A command of chain x completes (R127): its sender told, TXx_LAST, the counters and the sticky flag of the outcome. -/
def State.outcome (s : State) (x : Nat) (m : TxCmd) (outcome detail a : Nat) (power : Int) (air : Nat) : State :=
  let s := s.wr (txLast x) (word (m.tag % 65536 * 65536 + detail * 256 + outcome))
  let s := match outcome with
    | 0 => s
    | 1 => s.bump (txCnt2 x) 15 8
    | 2 => s.bump (txCnt x) 31 24
    | 3 => s.bump (txCnt x) 23 16
    | 5 => s.bump (txCnt x) 15 8
    | 6 => s.bump (txCnt x) 7 0
    | _ => s
  let s := if outcome ≤ 1 then s.bump (txCnt2 x) 31 16 else s
  let s := if outcome = 0 then s else s.setBit (txStat x) (outcome - 1) true
  (s.tellSender m outcome detail a power air).showQueue x

/-- The command in service taken off the chain, and the synthesiser free. -/
def State.freeSyn (s : State) (x : Nat) : State := ((s.modChain x fun c => { c with run := none }).idleSyn x).showQueue x

/-- The command in service completes without having been on air. -/
def State.endRun (s : State) (x outcome detail : Nat) : State :=
  match (s.chain x).run with
  | none => s
  | some r => (s.freeSyn x).outcome x r.cmd outcome detail (r.a.getD r.cmd.t) 0 0

/-! ### Air time and duty (R135, R136, R139, R141) -/

/-- Bit periods to ns at a SUN-FSK rate, rounded up: 20 µs, 10 µs, 20/3 µs, 5 µs. -/
def bitsNs (rate n : Nat) : Nat :=
  match rate with
  | 0 => n * 20000
  | 1 => n * 10000
  | 2 => (n * 20000 + 2) / 3
  | _ => n * 5000

/-- Coded length of PHR and PSDU (R100). -/
def codedBits (len : Nat) : Nat := (2 * (8 * (2 + len) + 6) + 15) / 16 * 16

/-- The air time D of a command in ns (Table 05-6, R141). -/
def TxCmd.dur (m : TxCmd) : Nat :=
  match m.rate with
  | 4 => 32000 * (6 + m.frame.len)
  | 8 => 5500000 + bits m.target 19 16 * 5000000
  | r => bitsNs r (if m.fec then 8 * (m.pre + 2) + codedBits m.frame.len else 8 * (m.pre + 4 + m.frame.len))

/-- The air time with both ramps in µs, rounded up. -/
def TxCmd.airUs (m : TxCmd) : Nat := (m.dur + 16000 + 999) / 1000

/-- Band b's account. -/
def State.duty (s : State) (b : Nat) : Duty := vget s.tx.duty b ⟨0, [], []⟩

/-- RADIO of band b. -/
def State.bandRadio (s : State) (b : Nat) : Nat := b2n (s.bit (SUBTX_GRDb_FRQ b) 30)

/-- BUDGET of band b in µs. -/
def State.budget (s : State) (b : Nat) : Nat := s.fld (SUBTX_GRDb_DUTY b) 31 8 * 1000

/-- The safety allowance S of band b in µs. -/
def State.allowance (s : State) (b : Nat) : Nat := s.fld (SUBTX_GRDb_DUTY b) 31 8 * s.fld (SUBTX_GRDb_DUTY b) 7 0 / 256 * 1000

/-- Does a band account duty? -/
def State.accounts (s : State) (b : Nat) : Bool := s.bit (SUBTX_GRDb_FRQ b) 31 && decide (s.budget b < 3600000000)

/-- The usage U of band b, µs. -/
def Duty.used (d : Duty) : Nat := d.cur + (d.hist.take 360).sum

/-- DUTYb_USED brought to the account. -/
def State.showDuty (s : State) (b : Nat) : State :=
  s.setFld (dutyUsed (s.bandRadio b) b) 23 0 (((s.duty b).used + 999) / 1000)

/-- An account changed. -/
def State.modDuty (s : State) (b : Nat) (f : Duty → Duty) : State :=
  (s.modTx fun t => { t with duty := vmod t.duty b f }).showDuty b

/-- µs charged to band b; a STOP-class charge above BUDGET − S sets STOPUSE and writes SAFE_USE (R136). -/
def State.charge (s : State) (b us : Nat) (stop : Bool) : State :=
  if !s.accounts b then s else
  let s := s.modDuty b fun d => { d with cur := d.cur + us }
  if stop && decide (s.budget b - s.allowance b < (s.duty b).used) then
    let r := s.bandRadio b
    let s := s.setBit (dutyUsed r b) 31 true
    (s.raise (if r = 0 then 0x43 else 0x53) 0x02).rated (if r = 0 then 0x43 else 0x53) recSAFE_USE b 0
      (word (r * 256 + b)) (word (((s.duty b).used + 999) / 1000)) true
  else s

/-- The charge of a transmission on air up to now, µs (a bucket boundary splits it, R146). -/
def State.chargeSoFar (s : State) (x : Nat) : State :=
  match (s.chain x).run with
  | some r => match r.ramp with
    | some t0 =>
      let us := min (r.cmd.airUs) ((s.clock - t0) / 1000)
      let s := s.charge r.band (us - r.charged) (r.cmd.stop && !r.cmd.demoted)
      s.modChain x fun c => { c with run := some { r with charged := max us r.charged } }
    | none => s
  | none => s

/-- BUCKET_ADVANCE (R135, R139): the 10 s buckets of the bands of radio r (0 SUBTX, 1 ISM) advance; the closed ones go to
eMRAM with the RTC seconds. -/
def execBucketAdvance (r : Fin 2) (s : State) : Host.Outcome State Fault Refusal :=
  .next (let s := if r = 0 then (s.chargeSoFar 0).chargeSoFar 1 else s.chargeSoFar 2
    let s := (List.range 8).foldl (fun (s : State) b =>
      if s.bandRadio b ≠ r.val then s else
        let s := s.modDuty b fun d =>
          let h := (d.cur :: d.hist).take 360
          { cur := 0, hist := h, saved := h }
        if (s.duty b).used ≤ s.budget b - s.allowance b then s.setBit (dutyUsed r b) 31 false else s) s
    s.modTx fun t => { t with savedAt := vset t.savedAt r.val (s.elapsed / 65536) })

/-! ### The guard (R132–R138) -/

/-- The channel of band b that a frequency names, in 10 Hz units (R133). -/
def State.bandChannel (s : State) (b f : Nat) : Option Nat :=
  let flo := s.fld (SUBTX_GRDb_FRQ b) 17 0 * 1000
  let sp := s.fld (SUBTX_GRDb_GRID b) 15 0 * 1000
  (List.range (min 256 (s.fld (SUBTX_GRDb_GRID b) 24 16))).find? fun i => flo + i * sp == f

/-- The MAP bits of a channel. -/
def State.bandMap (s : State) (b i : Nat) : Nat := s.fld (SUBTX_GRDb_MAPj b (i / 16)) (2 * (i % 16) + 1) (2 * (i % 16))

/-- Does band b permit a frequency: VALID, a channel on it, its MAP not 0? -/
def State.bandHas (s : State) (b f : Nat) : Bool :=
  s.bit (SUBTX_GRDb_FRQ b) 31 && match s.bandChannel b f with
    | some i => s.bandMap b i != 0
    | none => false

/-- The band that governs a frequency on chain x: the first of its radio; else the CHAN detail, 4 for a band of the other
radio, 1 for none (R133). -/
def State.bandOf (s : State) (x f : Nat) : Nat ⊕ Nat :=
  let r := if x < 2 then 0 else 1
  match (List.range 8).find? fun b => s.bandHas b f && s.bandRadio b == r with
  | some b => .inl b
  | none => .inr (if (List.range 8).any fun b => s.bandHas b f then 4 else 1)

/-- The conducted ceiling of a frequency in band b, 0.25 dBm (R134). -/
def State.ceiling (s : State) (b f : Nat) : Int :=
  let g := match s.bandChannel b f with
    | some i => s.bandMap b i
    | none => 0
  let c : Nat := match g with
    | 1 => s.fld (SUBTX_GRDb_CEIL b) 7 0
    | 2 => s.fld (SUBTX_GRDb_CEIL b) 15 8
    | _ => s.fld (SUBTX_GRDb_CEIL b) 23 16
  (c : Int) - (BitVec.ofNat 8 (s.fld (SUBTX_GRDb_CEIL b) 31 24)).toInt

/-- Is the guard image in force although it is not LOCKED (R138)? -/
def State.guardOpen (s : State) : Bool := decide (s.lifecycle ≤ 1) && (s.mode == 1 || s.mode == 10)

/-- The guard image as octets for its CRC-16: its registers in address order, little-endian (log entry 24). -/
def State.guardImage (s : State) : List Byte :=
  let band (b : Nat) : List Nat := (List.range 6).map (fun i => SUBTX_GRDb_FRQ b + 4 * i) ++ (List.range 16).map (SUBTX_GRDb_MAPj b)
  (((List.range 8).flatMap band) ++ (List.range 3).map SUBTX_GRDLIMx).flatMap fun a => leOctets (s.rd a).toNat 4

/-- GUARD_LOCK (R138): a write of SUBTX_GRDLOCK with the KEY and LOCK, in PROVISION, starts the fusing. A part with
MISMATCH cannot lock again. -/
def State.guardLock (s : State) (v : Word) : State :=
  if bits v 31 16 = 0x4C4B ∧ bitAt v 0 ∧ s.mode = 1 ∧ s.fld SUBTX_GRDSTAT 31 30 = 0 then s.modTx fun t => { t with fusing := true }
  else s

/-- GUARD_LOCK (R138). -/
def execGuardLock (v : Word) (s : State) : Host.Outcome State Fault Refusal :=
  .next (if s.isOn 4 then s.guardLock v else s)

/-- GUARD_FUSED (R138): the image is fused and read back; `ok` when it reads back the same. -/
def execGuardFused (ok : Bool) (s : State) : Host.Outcome State Fault Refusal :=
  .next (if !s.tx.fusing then s else
    let crc := crc16 s.guardImage
    let s := s.modTx fun t => { t with fusing := false }
    let s := s.wr SUBTX_GRDSTAT (word ((if ok then 2 ^ 31 else 2 ^ 30) + crc))
    s.record 0x43 recGRD_LOCK (word crc) (word (b2n (!ok))) 0)

/-! ### Modes (R126, R145) -/

/-- The detail of INHIBIT that the mode gives a command: class 0 and ACK, or an honoured STOP (Table 05-9). -/
def State.txInhibit (s : State) (x : Nat) (stop : Bool) : Option Nat :=
  match s.mode with
  | 2 => none
  | 3 => none
  | 4 => none
  | 6 => if stop || decide (x < 2) then none else some 5
  | 1 => if stop then some 6 else none
  | 10 => if stop then some 6 else none
  | 5 => some 1
  | 9 => some 2
  | 8 => some 3
  | 7 => some 4
  | 11 => some 4
  | _ => some 7

/-- Is the STOP class honoured now (R126)? -/
def State.stopHonoured (s : State) : Bool := s.latched || s.mode == 6

/-! ### Claims (R123, R125) -/

/-- A command abandoned on the synthesiser before its ramp goes back to the queue, displaced. -/
def State.displace (s : State) (x : Nat) : State :=
  match (s.chain x).run with
  | some r => if r.ramp.isSome then s else
      (s.modChain x fun c => { c with
        run := none, queue := { r.cmd with displaced := true } :: c.queue, wait := 4 }).idleSyn x
  | none => s

/-- The end of a transmission on air: PA_EN_x low, TRSW_x released, the receive path's blank ends 10 µs later (R108). -/
def State.airOff (s : State) (x : Nat) : State :=
  let s := s.modChain x fun c => { c with trsw := false, paEn := false }
  if x < 2 then s.trswRelease x else s

/-- A transmission on air ended early by a ramp-down: ABORTED with a detail, its air time so far charged (R124, R135). -/
def State.abortTx (s : State) (x detail : Nat) : State :=
  let s := s.chargeSoFar x
  match (s.chain x).run with
  | some r => if r.ramp.isNone then s else
      let us := min r.cmd.airUs (r.charged + 8)
      let s := s.charge r.band (us - r.charged) (r.cmd.stop && !r.cmd.demoted)
      ((s.airOff x).freeSyn x).outcome x r.cmd 5 detail (r.a.getD r.cmd.t) r.power us
  | none => s

/-- A STOP-class command is accepted (R125): a calibration in progress is aborted and its entry is cold; a transmission
completes ABORTED, detail 1; a command before its ramp is displaced. -/
def State.stopClaim (s : State) (x : Nat) : State :=
  let e := s.fld (synStat x) 25 16
  let s := if s.syn x = 4 ∨ s.syn x = 5 then (s.makeCold x e).idleSyn x else s
  ((s.abortTx x 1).displace x).modChain x fun c => { c with wait := 4 }

/-- A command accepted on chain x. The TAG of a command that no TXQ gave is a free value (log entry 29). -/
def State.acceptTx (s : State) (x : Nat) (m : TxCmd) : State :=
  let f := match m.src with
    | .core _ _ _ _ t => (t, s)
    | _ => (bits s.fresh.1 15 0, s.fresh.2)
  let m := { m with tag := f.1 }
  let s := f.2
  let s := if m.stop && s.stopHonoured then s.stopClaim x else match m.src with
    | .ack _ _ => s.displace x
    | _ => s
  (s.modChain x fun c => { c with queue := c.queue ++ [{ m with order := c.order }], order := c.order + 1 }).showQueue x

/-- Commands accepted that have not completed, but for stop frames, which have a place of their own (R300). -/
def State.txDepth (s : State) (x : Nat) : Nat :=
  let c := s.chain x
  (((c.run.map (·.cmd)).toList ++ c.queue).filter fun m => match m.src with
    | .stop _ => false
    | _ => true).length

/-- Does claim m precede claim n: STOP, ACK, scheduled; then T, then acceptance (R123, R125)? -/
def State.claimBefore (s : State) (m n : TxCmd) : Bool :=
  let rank (c : TxCmd) : Nat := if c.stop && s.stopHonoured then 0 else match c.src with
    | .ack _ _ => 1
    | _ => 2
  if rank m ≠ rank n then decide (rank m < rank n)
  else if tdiff m.t n.t ≠ 0 then decide (tdiff m.t n.t < 0) else decide (m.order < n.order)

/-- The command served next. -/
def State.nextTx (s : State) (x : Nat) : Option TxCmd :=
  (s.chain x).queue.foldl (fun (b : Option TxCmd) m => match b with
    | none => some m
    | some n => if s.claimBefore m n then some m else b) none

/-- TXQ (R120, R122): the descriptor at ga; imm18[0] enables the line, its other bits are reserved. `frame` is what the
frame buffer of FRAME holds. -/
def execTxq (c : Fin 8) (gd ga : Fin 16) (imm : BitVec 18) (frame : TxFrame) (s : State) : Host.Outcome State Fault Refusal :=
  .next (s.issue c fun s => s.legal c (imm.toNat / 2 != 0) fun s =>
    if s.mode == 9 then s.replayOutput.complete c gd stINHIBIT else
    let d := s.desc c (s.gpr c ga) 8
    let w2 := d.getD 2 0
    let w3 := d.getD 3 0
    let w7 := d.getD 7 0
    let x := bits w2 13 12
    s.serve c gd (if x = 2 then [5, 7] else [4, 7]) fun s =>
    let cls := bits w2 15 14
    let rate := bits w3 19 16
    let pre := bits w3 11 6
    let pow : Int := (BitVec.ofNat 12 (bits w3 31 20)).toInt
    let uni := bitAt w3 12 && rate != 8
    let ksel := bits w7 17 16
    let ctr := bits w7 24 18
    let entry := bits w2 9 0
    let crec := d.getD 6 0
    let range : Bool := x == 3 || !s.chainOn x || cls == 1 || cls == 3
      || !(if x < 2 then decide (rate ≤ 3) || rate == 8 else rate == 4)
      || (decide (rate ≤ 3) && decide (pre < 4))
      || decide (pow < -160) || decide (144 < pow)
      || s.fld (txFrq x entry) 27 0 == 0
      || (uni && decide (nodeMax ≤ (d.getD 4 0).toNat))
      || !decide (0x10000000 ≤ crec.toNat ∧ crec.toNat + 16 ≤ 0x10010000)
      || ksel == 3 || (ksel == 1 && !uni && (decide (5 ≤ ctr ∧ ctr ≤ 7) || decide (71 < ctr)))
      || (rate != 8 && decide ((if rate = 4 then 127 else 2047) < frame.len))
    if range then s.complete c gd stRANGE
    else if 16 ≤ s.txDepth x then s.complete c gd stFULL
    else
      let m : TxCmd := { tag := 0, src := .core c (Fin.ofNat 32 (bits w3 4 0)) (imm.getLsbD 0) crec (bits w7 15 0)
                         sec := d.getD 0 0, grn := d.getD 1 0, lateMax := bits w2 31 16, stop := cls == 2, entry := entry
                         power := pow, rate := rate, fec := bitAt w3 15, uni := uni, pre := pre, target := d.getD 4 0
                         frame := frame, ksel := ksel, ctr := ctr, order := 0, fetched := rate == 8, displaced := false
                         off := 0, demoted := false }
      let s := s.acceptTx x m
      s.complete c gd stOK 0 (s.txDepth x))

/-! ### The fetch (R121, R123, R128, R248) -/

/-- The command whose frame is fetched next: the first in the order of T that is not fetched. -/
def State.nextFetch (s : State) (x : Nat) : Option TxCmd :=
  let c := s.chain x
  (((c.run.map (·.cmd)).toList ++ c.queue).filter fun m => !m.fetched).foldl (fun (b : Option TxCmd) m => match b with
    | none => some m
    | some n => if s.claimBefore m n then some m else b) none

/-- A command of the chain replaced, found by its order of acceptance. -/
def State.setCmd (s : State) (x : Nat) (m : TxCmd) : State :=
  s.modChain x fun c => { c with
    run := c.run.map fun r => if r.cmd.order = m.order then { r with cmd := m } else r
    queue := c.queue.map fun n => if n.order = m.order then m else n }

/-- A command taken off the chain. -/
def State.dropCmd (s : State) (x : Nat) (m : TxCmd) : State :=
  if ((s.chain x).run.map (·.cmd.order)) = some m.order then s.freeSyn x
  else (s.modChain x fun c => { c with queue := c.queue.filter fun n => n.order != m.order }).showQueue x

/-- The PAN select that carries a PAN ID. -/
def State.panSelect (s : State) (pan : BitVec 16) : Option Nat :=
  (List.range 4).find? fun j => s.bit (MAC_PANj j) 31 && s.fld (MAC_PANj j) 15 0 == pan.toNat

/-- The machine slot of a fleet short address. -/
def State.fleetSlot (s : State) (a : Nat) : Option Nat :=
  (List.range 64).find? fun n => s.fld (FLEET_SLOTn_STAT n) 31 29 != 0 && s.fld (FLEET_SLOTn_STAT n) 15 0 == a

/-- Key and counter of a protected frame (R121, Table 10-5): `none` when the key or the counter cannot be had. A machine's
epoch, which the spec keeps nowhere, is a free value (log entry 25). -/
def State.protect (s : State) (m : TxCmd) (core : Option (Fin 8)) (ckptFails : Bool) : Bool × State :=
  let stored (s : State) (e : Nat) (reg ctr : Nat) : Bool × State :=
    if !s.bit reg 15 then (false, s.bump (KEYS_CNTm 3) 31 0) else
    let r := s.stored e (s.fld reg 11 0)
    if r.1 ≠ stOK then (false, r.2.2.2) else
    let k := r.2.2.2.consumeDev ctr ckptFails
    (k.1.isSome, k.2)
  let grouped (s : State) (e : Nat) (reg : Nat) (eui : Nat) (epoch : Nat) : Bool × State :=
    if !s.bit reg 31 then (false, s.bump (KEYS_CNTm 3) 31 0) else
    let r := s.derive e (s.fld reg 27 16) (BitVec.ofNat 64 eui) (BitVec.ofNat 16 epoch)
    (r.1 == stOK, r.2.2.2)
  let nodeKey (s : State) (i : Nat) : Bool × State :=
    let r := grouped s 0 (KEYS_PANj (s.node i 0x0A 1 % 4)) (s.nodeEui i) (s.node i 0x2A 2)
    if !r.1 then r else
    let k := r.2.consumeNode i ckptFails
    (k.1.isSome, k.2)
  if !m.frame.secured || m.ksel == 2 || m.rate == 8 then (true, s)
  else if m.ksel = 1 then
    (match core with
     | none => (false, s)
     | some c =>
       if (s.slot (coreSlot c)).isNone then (false, s.bump (KEYS_CNTm 3) 31 0) else
       let k := if m.uni then s.consumeNode m.target.toNat ckptFails else s.consumeDev m.ctr ckptFails
       (k.1.isSome, k.2))
  else if m.frame.pan.toNat = s.fld FLEET_PAN 31 16 then
    (if m.frame.dest = 0xFFFF then stored s 1 KEYS_FLEET 4
     else match s.fleetSlot m.frame.dest.toNat with
       | none => (false, s)
       | some n =>
         let eui := (s.rd (FLEET_SLOTn_EUIHI n)).toNat * 2 ^ 32 + (s.rd (FLEET_SLOTn_EUILO n)).toNat
         let f := s.fresh
         let r := grouped f.2 1 KEYS_FLEET eui (bits f.1 15 0)
         if !r.1 then r else
         let k := r.2.consumeDev (8 + n) ckptFails
         (k.1.isSome, k.2))
  else if m.frame.dest = 0xFFFF then
    (match s.panSelect m.frame.pan with
     | none => (false, s)
     | some j => stored s 0 (KEYS_PANj j) j)
  else if m.uni then nodeKey s m.target.toNat
  else match (s.panSelect m.frame.pan).bind fun j => s.emFind true (j * 65536 + m.frame.dest.toNat) with
    | none => (false, s)
    | some i => nodeKey s i

/-- The pre-correction of R128 in 10 Hz units, clipped to OFFMAX of the band its frequency falls in. -/
def State.preCorrect (s : State) (x entry : Nat) (o : Int) : Int × State :=
  match s.bandOf x (s.fld (txFrq x entry) 27 0) with
  | .inr _ => (o, s)
  | .inl b =>
    let lim : Int := s.fld (SUBTX_GRDb_MISC b) 15 0
    if o < -lim ∨ lim < o then
      (if o < 0 then -lim else lim, (s.bump (txCnt2 x) 7 0).setBit (txStat x) 7 true)
    else (o, s)

/-- FRAME_FETCH (R121, R123, R128): 250 µs before T the frame of chain x's next command is fetched and protected; a fetch
without a TX token is held (R196), and one whose key or counter cannot be had completes LATE, detail 3 (R248).
`ckptFails`: the checkpoint write of R252 fails. -/
def execFrameFetch (x : Fin 3) (ckptFails : Bool) (s : State) : Host.Outcome State Fault Refusal :=
  .next (match s.nextFetch x with
    | none => s
    | some m =>
      if !s.isOn 7 || !s.isOn (txDom x) then s
      else if 16 ≤ s.qfab.tx then
        (let h : HeldFetch := { sec := m.sec, grn := m.grn, chain := x, cmd := m.order }
         if s.qfab.heldTx.contains h then s
         else ({ s with qfab := { s.qfab with heldTx := s.qfab.heldTx ++ [h] } }).heldCount 31 16)
      else
        let s := { s with qfab := { s.qfab with tx := s.qfab.tx + 1
                                                heldTx := s.qfab.heldTx.filter fun h => !(h.chain == x && h.cmd == m.order) } }
        let core := match m.src with
          | .core c _ _ _ _ => some c
          | _ => none
        let inhibited := (s.txInhibit x (m.stop && s.stopHonoured)).isSome
        let p := if inhibited then (true, s) else s.protect m core ckptFails
        if !p.1 then (p.2.dropCmd x m).outcome x m 2 3 m.t 0 0
        else
          let o : Int := match m.src with
            | .ack _ _ => m.off
            | _ => if m.uni then (BitVec.ofNat 16 (p.2.node m.target.toNat 0x10 2)).toInt else 0
          let q := p.2.preCorrect x m.entry o
          let f := q.2.setCmd x { m with fetched := true, off := q.1 }
          f)

/-! ### Hop, lock and listen-before-talk (R123, R124, R137) -/

/-- May the synthesiser begin a hop? -/
def State.synFree (s : State) (x : Nat) : Bool := s.syn x == 1 && (s.chain x).run.isNone

/-- The valid entry nearest in frequency to entry k (R125). -/
def State.nearest (s : State) (x k : Nat) : Option Nat :=
  let f : Int := s.fld (txFrq x k) 27 0
  let dist (j : Nat) : Nat := ((s.fld (txFrq x j) 27 0 : Int) - f).natAbs
  ((List.range 1024).filter fun j => s.calValid x j).foldl (fun (b : Option Nat) j => match b with
    | none => some j
    | some i => if dist j < dist i then some j else b) none

/-- The lateness A − T in µs, rounded up; 0 when A is not later. -/
def lateUs (a t : Nat) : Nat :=
  let d := tdiff a t
  if d ≤ 0 then 0 else ceilDiv (d.toNat * 1000000) (2 ^ 32)

/-- The later of two times. -/
def laterOf (a b : Nat) : Nat := if tdiff a b < 0 then b else a

/-- Does listen-before-talk have a measurement: for TXA and TXB the sharing path in RUN with a bin on the carrier (R137)? -/
def State.lbtReady (s : State) (x : Nat) (carrier : Int) : Bool :=
  x == 2 || (s.isOn 3 && (s.rxPath x).st == 2
    && decide ((carrier - (s.fld (CARD_PATHp_FC x) 16 0 * 1000 : Int)).natAbs ≤ 1280000))

/-- What refuses a command at its hop start (R133–R138, R145): outcome and detail, or the band that governs it. -/
def State.guardCheck (s : State) (x : Nat) (m : TxCmd) (stop : Bool) : (Nat × Nat) ⊕ Nat :=
  match s.txInhibit x stop with
  | some d => .inl (7, d)
  | none =>
    if !s.bit SUBTX_GRDSTAT 31 && !s.guardOpen then .inl (4, 2)
    else
      let f := s.fld (txFrq x m.entry) 27 0
      match s.bandOf x f with
      | .inr d => .inl (4, d)
      | .inl b =>
        let u := (s.duty b).used + m.airUs
        if s.accounts b ∧ stop ∧ s.budget b < u then .inl (3, 2)
        else if s.accounts b ∧ !stop ∧ s.budget b - s.allowance b < u then .inl (3, 1)
        else if s.bit (SUBTX_GRDb_LBT b) 31 ∧ !s.lbtReady x (f + m.off) then .inl (4, 3)
        else .inr b

/-- A refusal for duty counted, with its event and record (Table 05-15). -/
def State.dutyRefused (s : State) (x : Nat) (m : TxCmd) (detail : Nat) : State :=
  match s.bandOf x (s.fld (txFrq x m.entry) 27 0) with
  | .inr _ => s
  | .inl b =>
    let r := s.bandRadio b
    let blk := if r = 0 then 0x43 else 0x53
    if detail = 2 then s.bump (dutyCnt r b) 15 0
    else ((s.bump (dutyCnt r b) 31 16).raise blk 0x01).rated blk recDUTY_EXHAUST b 0 (word (r * 256 + b))
      (word (((s.duty b).used + 999) / 1000)) true

/-- Is an immediate ACK kept from its hop because another lane is busy on a path that the transmission would blank (R160)? -/
def State.ackBlocked (s : State) (x : Nat) (m : TxCmd) : Bool :=
  match m.src with
  | .ack _ _ => decide (x < 2) && s.bit (CARD_PATHp_CTL x) 1 && s.pathBusy x && !s.bit MAC_PATHCTL x
  | _ => false

/-- HOP_START (R123, R124, R126, R133–R138): the free synthesiser of chain x takes its next command, which the guard checks; a
cold entry begins a calibration. A command that cannot meet LATEMAX completes LATE. -/
def execHopStart (x : Fin 3) (s : State) : Host.Outcome State Fault Refusal :=
  .next (match s.nextTx x with
    | none => s
    | some m =>
      if !s.isOn (txDom x) || !s.synFree x || (s.dom (txDom x)).hold == some .delay then s else
      let stop := m.stop && s.stopHonoured
      let m := { m with demoted := m.stop && !stop }
      let cold := !s.calValid x m.entry
      let lock := if cold && !(stop && (s.nearest x m.entry).isSome) then 150000
        else if cold then 50000 else 25000
      let a := laterOf m.t (after s.now (lock + 8000))
      let s := s.modChain x fun c => { c with queue := c.queue.filter fun n => n.order != m.order }
      if s.ackBlocked x m then s.tellSender m 2 4 a 0 0
      else match s.guardCheck x m stop with
      | .inl (o, d) => ((if o = 3 then s.dutyRefused x m d else s).showQueue x).outcome x m o d a 0 0
      | .inr b =>
        if !stop && decide (m.lateMax < lateUs a m.t) then
          let d := if m.displaced then 4 else (s.chain x).wait
          (s.showQueue x).outcome x m 2 d a 0 0
        else
          let entry := if stop && cold then (s.nearest x m.entry).getD m.entry else m.entry
          let cal := !s.calValid x entry
          let s := (s.setSyn x (if cal then 4 else 2)).setFld (synStat x) 25 16 m.entry
          (s.modChain x fun c => { c with
            run := some { cmd := m, a := none, band := b, clear := !s.bit (SUBTX_GRDb_LBT b) 31, ramp := none, charged := 0,
                          clip := 0, power := 0 }
            wait := 5 }).showQueue x)

/-- The synthesiser locks now: A is the later of T and lock + 8 µs; beyond LATEMAX the command is LATE (R124). -/
def State.lockedOn (s : State) (x : Nat) : State :=
  match (s.chain x).run with
  | none => s.idleSyn x
  | some r =>
    let a := laterOf r.cmd.t (after s.now 8000)
    let s := s.modChain x fun c => { c with run := some { r with a := some a } }
    if !(r.cmd.stop && !r.cmd.demoted) && decide (r.cmd.lateMax < lateUs a r.cmd.t) then
      s.endRun x 2 (if r.cmd.displaced then 4 else 1)
    else s.setSyn x 3

/-- LOCK (R119): a hop ends locked. -/
def execLock (x : Fin 3) (s : State) : Host.Outcome State Fault Refusal :=
  .next (if s.isOn (txDom x) ∧ s.syn x = 2 then s.lockedOn x else s)

/-- NOLOCK (R119): the lock detector does not confirm lock in time (detail 1 after a hop, 2 after a calibration), or the
reference PLL is lost (detail 3). -/
def execNolock (x : Fin 3) (pll : Bool) (s : State) : Host.Outcome State Fault Refusal :=
  .next (let st := s.syn x
    if !s.isOn (txDom x) || !(st == 2 || st == 4 || st == 5 || (st == 6 && pll)) then s else
    let e := s.fld (synStat x) 25 16
    let d := if pll then 3 else if st = 2 then 1 else 2
    let s := s.makeCold x e
    let s := (s.record (txBlock x) recSYN_NOLOCK (word x.val) (word e) (word d)).raise (txBlock x) 0x01
    let s := if st = 6 then (s.chargeSoFar x).airOff x else s
    let s := match (s.chain x).run with
      | some _ => s.endRun x 6 d
      | none => s.idleSyn x
    s.fault 7 (txBlock x) d (word e))

/-- CALIBRATION_DONE (R117–R119): a calibration ends. With `ok` the entry takes its results (VCO band, capacitor code, KVCO
trim, loop gain) and the PA sensor reading; a full calibration for a command ends locked. A background calibration that
fails leaves its entry cold, with CAL_FAIL. -/
def execCalibrationDone (x : Fin 3) (ok : Bool) (result : BitVec 22) (s : State) : Host.Outcome State Fault Refusal :=
  .next (let st := s.syn x
    if !s.isOn (txDom x) || !(st == 4 || st == 5) then s else
    let e := s.fld (synStat x) 25 16
    if ok then
      let s := s.wr (txCal x e) (word ((iword (s.paTemp x)).toNat % 256 * 2 ^ 24 + 2 ^ 23 + result.toNat))
      let s := s.showStale x
      if st = 4 then s.lockedOn x else s.idleSyn x
    else
      let s := ((s.makeCold x e).record (txBlock x) recCAL_FAIL (word x.val) (word e) 0).raise (txBlock x) 0x02
      if st = 5 then s.idleSyn x
      else (((s.record (txBlock x) recSYN_NOLOCK (word x.val) (word e) 2).raise (txBlock x) 0x01).endRun x 6 2).fault 7
        (txBlock x) 2 (word e))

/-- LBT_MEASUREMENT (R137): the power of the channel over DUR µs, dBm. Busy, A moves on by DUR, until clear or LATE. -/
def execLbtMeasurement (x : Fin 3) (power : Int) (s : State) : Host.Outcome State Fault Refusal :=
  .next (match (s.chain x).run with
    | some r => match r.a with
      | some a =>
        if s.syn x ≠ 3 ∨ r.clear then s else
        let lbt := SUBTX_GRDb_LBT r.band
        if power < (BitVec.ofNat 8 (s.fld lbt 23 16)).toInt then
          s.modChain x fun c => { c with run := some { r with clear := true } }
        else
          let a := after a (1000 * s.fld lbt 15 0)
          let s := s.modChain x fun c => { c with run := some { r with a := some a } }
          if !(r.cmd.stop && !r.cmd.demoted) && decide (r.cmd.lateMax < lateUs a r.cmd.t) then s.endRun x 2 2 else s
      | none => s
    | none => s)

/-! ### On air (R129–R131, R134) -/

/-- Linear interpolation between eight signed 0.25 dB points at `x0 + i × step`, rounded to 0.25 dB; the end points hold
outside (R130). -/
def interpolate (pts : Nat → Int) (x0 step v : Int) : Int :=
  if v ≤ x0 then pts 0
  else if x0 + 7 * step ≤ v then pts 7
  else
    let i := ((v - x0) / step).toNat
    pts i + roundDiv ((pts (i + 1) - pts i) * (v - x0 - i * step)) step.toNat

/-- Point i of a compensation table whose two registers start at `a`. -/
def State.compPoint (s : State) (a i : Nat) : Int :=
  (BitVec.ofNat 8 (s.fld (a + 4 * (i / 4)) (8 * (i % 4) + 7) (8 * (i % 4)))).toInt

/-- The correction of R130 at the start of a ramp, 0.25 dB. -/
def State.compensation (s : State) (x : Nat) : Int :=
  interpolate (s.compPoint (txComp x 0)) (-40) 25 (s.paTemp x)
    + interpolate (s.compPoint (txComp x 2)) 3000 400 (s.paVolt x)

/-- The driver level, the bias code and the clip detail of a command (R129, R130, R134, R138), in 0.25 dBm. -/
def State.setPower (s : State) (x : Nat) (m : TxCmd) (b : Nat) : Int × Nat × Nat :=
  let ext := s.bit (txPwr x) 31
  let gain : Int := if ext then (BitVec.ofNat 12 (s.fld (txPwr x) 11 0)).toInt else 0
  let p := m.power + s.compensation x
  let ceil := s.ceiling b (s.fld (txFrq x m.entry) 27 0)
  let p1 := if ceil < p then (ceil, 1) else (p, 0)
  let p2 := if !s.bit SUBTX_GRDSTAT 31 && decide (0 < p1.1) then (0, 3) else p1
  let maxDrv := (BitVec.ofNat 8 (s.fld (SUBTX_GRDLIMx x) 31 24)).toInt
  let drv := p2.1 - gain
  let bias := if ext then s.fld (txPwr x) 25 16 else 0
  let maxBias := s.fld (SUBTX_GRDLIMx x) 23 14
  let clip := if maxDrv < drv ∨ maxBias < bias then 2 else p2.2
  (min drv maxDrv, min bias maxBias, clip)

/-- The PDET loop and the bound PDETMAX (R131), for a detector sample in the first 32 µs. -/
def State.pdetLoop (s : State) (x : Nat) (m : TxCmd) (sample : Nat) : State :=
  let slope := s.fld (txPdet x) 31 16
  let s := if !s.bit (txPwr x) 30 || slope == 0 then s else
    let target : Int := s.fld (txPdet x) 15 0 + roundDiv (slope * (m.power - 80)) 1024
    let e := roundDiv ((target - sample) * 1024) slope
    let s := if e < -8 ∨ 8 < e then s.setBit (txStat x) 8 true else s
    s.modChain x fun c => { c with drv := c.drv + max (-8) (min 8 e) }
  let lim := s.fld (SUBTX_GRDLIMx x) 11 0
  if sample ≤ lim then s else
    let db := if slope = 0 then 1 else ceilDiv ((sample - lim) * 256) slope
    let s := (s.setBit (txStat x) 9 true).modChain x fun c => { c with drv := c.drv - 4 * db }
    (s.raise (txBlock x) 0x03).rated (txBlock x) recPWR_OVER x 0 (word x) (word sample) true

/-- The 2.4 GHz receiver blanked by TXI (R142). -/
def State.ismBlank (s : State) : State := if s.bit ISM_RX_CTL 31 then s.setFld ISM_RX_STAT 11 8 3 else s

/-- AIR_START (R124, R129–R131, R134): TRSW_x, PA_EN_x and the bias are driven, the ramp begins and the frame goes on air at
A, power clipped as needed. A first frame word that is not there in time delays A, and beyond LATEMAX the command is LATE,
detail 3. `pdet`: the detector sample. -/
def execAirStart (x : Fin 3) (pdet : Fin 4096) (s : State) : Host.Outcome State Fault Refusal :=
  .next (match (s.chain x).run with
    | some r => match r.a with
      | some a =>
        if s.syn x ≠ 3 ∨ !r.clear then s else
        let a := laterOf a s.now
        let stop := r.cmd.stop && !r.cmd.demoted
        if !r.cmd.fetched || decide (r.cmd.lateMax < lateUs a r.cmd.t) && !stop then
          (if !stop && decide (r.cmd.lateMax < lateUs a r.cmd.t) then
            (s.modChain x fun c => { c with run := some { r with a := some a } }).endRun x 2 3
           else s)
        else
          let p := s.setPower x r.cmd r.band
          let gain : Int := if s.bit (txPwr x) 31 then (BitVec.ofNat 12 (s.fld (txPwr x) 11 0)).toInt else 0
          let s := s.modChain x fun c => { c with
            trsw := true, paEn := true, bias := p.2.1, drv := p.1
            run := some { r with a := some a, ramp := some s.clock, clip := p.2.2, power := p.1 + gain } }
          let s := if x.val < 2 then s.blankStart x else s.ismBlank
          (s.setSyn x 6).pdetLoop x r.cmd pdet
      | none => s
    | none => s)

/-- TX_COMPLETE (R124, R127, R135): the ramp-down ends. The frame was sent whole, or a frame word failed to arrive or came
with POISON or ABORT (ABORTED, detail 5; log entry 26). -/
def execTxComplete (x : Fin 3) (underrun : Bool) (s : State) : Host.Outcome State Fault Refusal :=
  .next (if s.syn x ≠ 6 then s
    else if underrun then s.abortTx x 5
    else match (s.chain x).run with
    | some r =>
      let s := s.charge r.band (r.cmd.airUs - r.charged) (r.cmd.stop && !r.cmd.demoted)
      let s := match r.cmd.src with
        | .mac => if r.cmd.rate = 8 then s.modMac fun m => { m with
              wakes := ((m.wakes.filter fun (e : Nat × Nat) => decide (tdiff s.now e.2 < 85899346)) ++
                [(bits r.cmd.target 15 0, after (r.a.getD 0) r.cmd.dur)]) } else s
        | _ => s
      ((s.airOff x).freeSyn x).outcome x r.cmd (if r.clip = 0 then 0 else 1) r.clip (r.a.getD r.cmd.t) r.power r.cmd.airUs
    | none => s)

/-- A mode change that inhibits the command in progress ends it by a ramp-down: ABORTED, detail 2 (R145). -/
def State.txMode (s : State) : State :=
  (List.range 3).foldl (fun (s : State) x => match (s.chain x).run with
    | some r => if r.ramp.isSome ∧ (s.txInhibit x (r.cmd.stop && !r.cmd.demoted)).isSome then s.abortTx x 2 else s
    | none => s) s

/-! ### Tokens (R196) -/

/-- TOKEN_RETURN (R196): a token comes back: lane n's own, a TX token once a command has ended, or a CH token once a frame is
handed on or dropped. -/
def execTokenReturn (pool : Fin 3) (n : Fin 64) (s : State) : Host.Outcome State Fault Refusal :=
  .next (match pool with
    | 0 => { s with qfab := { s.qfab with lane := s.qfab.lane &&& ~~~((1 : BitVec 64) <<< n.val) } }
    | 1 =>
      let held := ((List.range 3).map fun x =>
        ((((s.chain x).run.map (·.cmd)).toList ++ (s.chain x).queue).filter fun m => m.fetched && m.rate != 8 && (match m.src with
          | .ack _ _ => false
          | _ => true)).length).sum
      if held < s.qfab.tx then { s with qfab := { s.qfab with tx := s.qfab.tx - 1 } } else s
    | 2 => { s with qfab := { s.qfab with ch := s.qfab.ch - 1, heldCh := s.qfab.heldCh.tail } })

/-! ### The 2.4 GHz receiver (R142) -/

/-- ISM_RX_FRAME (R142): a frame whose SFD has been seen on the receiver's channel. `busy`: another was being received then.
`status`: 0 OK, 1 FCS, 5 BLANKED, 6 ABORT. -/
def execIsmRxFrame (octets : List Byte) (status : Fin 8) (busy : Bool) (foff : BitVec 16) (rssi : BitVec 12) (snr : Int)
    (toff : BitVec 16) (s : State) : Host.Outcome State Fault Refusal :=
  .next (if !s.isOn 5 || !s.bit ISM_RX_CTL 31 || (s.chain 2).trsw || s.mode == 9 then s
    else if busy then s.bump ISM_RX_CNT 31 16
    else
      let tag := s.rx.tag
      let ovr := s.bit ISM_RX_SFD 31
      let s := s.wr ISM_RX_SFD (word (2 ^ 31 + b2n ovr * 2 ^ 30 + bits tag 13 0 * 2 ^ 16 + toff.toNat))
      let s := (s.modRx fun r => { r with tag := r.tag + 1 }).raise 0x52 0x01
      let sfd := before s.now (3260 - toff.toInt).toNat
      let s := s.modMac fun m => { m with sfd := tabSet (fun _ => 0) m.sfd 64 sfd }
      let lq := linkQuality snr
      let s := s.wr ISM_RX_STAT (word (rssi.toNat * 2 ^ 20 + lq * 2 ^ 12 + 1 * 2 ^ 8 + status.val))
      let s := if status = 1 then s.bump ISM_RX_CNT 15 0 else s
      let ch := s.fld ISM_RX_CTL 4 0
      let w0 : BitVec 64 := BitVec.ofNat 64 (foff.toNat * 2 ^ 48 + rssi.toNat * 2 ^ 36 + lq * 2 ^ 28 + ch * 2 ^ 20 + status.val * 2 ^ 8)
      let w1 : BitVec 64 := BitVec.ofNat 64 (tag.toNat * 2 ^ 32 + 0xFF * 2 ^ 24 + toff.toNat)
      let ws : List (BitVec 64) := (List.range ((octets.length + 7) / 8)).map fun i =>
        (((octets.drop (8 * i)) ++ List.replicate 8 0).take 8).foldl (fun (v : BitVec 64) (o : Byte) => (v <<< 8) ||| o.setWidth 64) 0
      let data := ws ++ [w0, w1]
      (List.range data.length).foldl (fun (s : State) i =>
        s.produce 64 (mkFWord (data.getD i 0) (i == 0) (i + 1 == data.length) false)) s)

/-! ### Power and reset (R139, R143, R144) -/

/-- The answer of a chain's agent (R143): 0 GRANT, n DELAY in 10 µs, `none` REFUSE QUEUED. -/
def State.chainAnswer (s : State) (x : Nat) : Option Nat :=
  let c := s.chain x
  if c.queue ≠ [] then none
  else match c.run with
  | some r => match r.ramp with
    | some t0 =>
      let left := t0 + r.cmd.dur + 16000 - s.clock
      if 2550000 < left then none else some (max 1 ((left + 9999) / 10000))
    | none => none
  | none => if s.syn x = 5 then some 15 else some 0

/-- A forced entry at VIN loss (R143): every command of the chains of a domain completes ABORTED, detail 3. -/
def State.txForced (s : State) (d : Nat) : State :=
  (List.range 3).foldl (fun (s : State) x =>
    if txDom x ≠ d then s else
    let s := s.abortTx x 3
    let c := s.chain x
    let all := (c.run.map (·.cmd)).toList ++ c.queue
    let s := (s.modChain x fun c => { c with run := none, queue := [] }).idleSyn x
    all.foldl (fun s m => s.outcome x m 5 3 m.t 0 0) s) s

/-- The account of a band aged by `n` whole buckets. -/
def Duty.age (d : Duty) (n : Nat) : Duty :=
  if n = 0 then d else { d with cur := 0, hist := (List.replicate (n - 1) 0 ++ (d.cur :: d.hist)).take 360 }

/-- Duty restored from eMRAM (R139): the closed buckets aged by the RTC seconds since the last checkpoint, the bucket after it
charged 10,000 ms for each chain the band governs; with RTC_INVALID aged by zero. -/
def State.dutyRestore (s : State) (r : Nat) : State :=
  let secs := if s.bit RTC_STAT 31 then 0 else s.elapsed / 65536 - vget s.tx.savedAt r 0
  (List.range 8).foldl (fun (s : State) b =>
    if s.bandRadio b ≠ r then s
    else s.modDuty b fun d =>
      { ({ cur := (if r = 0 then 2 else 1) * 10000000, hist := d.saved, saved := d.saved } : Duty).age (secs / 10) with
        saved := d.saved }) s

/-- On exit from RET the buckets are aged by the RTC seconds spent in it (R139). -/
def State.dutyAge (s : State) (r secs : Nat) : State :=
  (List.range 8).foldl (fun (s : State) b => if s.bandRadio b ≠ r then s else s.modDuty b fun d => d.age (secs / 10)) s

/-- A domain of the chains after OFF or a reset (R144): registers at reset but for the kept ones, queues empty. -/
def State.txReset (s : State) (d : Nat) : State :=
  let s := s.resetBlock (if d = 4 then 0x40060000 else 0x40070000)
  (List.range 3).foldl (fun (s : State) x =>
    if txDom x = d then (s.modChain x fun _ => txChainReset).showStale x else s) s

end Sys2Proof.Machine
end

