-- ==== Sys2Proof/Machine/Fleet.lean ====
section
/-!
DEFINITION. Sys2Proof/Machine/Fleet.lean: fleet control (12): RESUME and the clear of the latch, the machine table, the
reservation engine, the task queue, and the GO and stop generators. The latch itself is in Stop.lean.
-/
namespace Sys2Proof.Machine

/-- A change of the fleet state. -/
def State.modFleet (s : State) (f : FleetSt → FleetSt) : State := { s with fleet := f s.fleet }

/-- A FLEET counter advanced. -/
def State.fleetCount (s : State) (m : Nat) : State := s.bump (FLEET_CNTm m) 31 0

/-! ### RESUME (R299) -/

/-- The checks of RESUME on a 72-octet token, in order: status, detail, key object and the state after. The token's KEY and
EPISODE are little-endian (R447; log entry 30). -/
def State.resumeCheck (s : State) (tok : List Byte) (len : Nat) : Nat × Nat × Nat × State :=
  if s.mode = 9 then (stINHIBIT, 0, 0, s)
  else if s.mode ≠ 3 ∧ s.mode ≠ 4 then (stDENIED, 2, 0, s)
  else if !s.latched then (stDENIED, 4, 0, s)
  else if s.fleet.high < 16384 then (stDENIED, 1, 0, s)
  else
    let key := leNat (tok.take 2)
    let msg := [(0x03 : Byte)] ++ beOctets (s.rd SYS_ID).toNat 4 ++ s.challenge ++ beOctets s.episode 2
    let d := s.sigDetail key true (Config.sha256 msg) ((tok.drop 8).take 64)
    let s := s.newChallenge
    if len = 72 ∧ key = s.fld FLEET_STOP_CFG 27 16 ∧ leNat ((tok.drop 2).take 2) = s.episode
        ∧ ((tok.drop 4).take 4).all (fun b => b == 0) ∧ d = 0 then (stOK, 0, key, s)
    else (stAUTH, 0, key, s.authFail 4 key)

/-- RESUME (R299, R30, R43): ga the token, imm18[15:0] its length, at most 256; imm18[17:16] are reserved. When the token
verifies the core waits for the clear, which comes on the next AON edge. -/
def execResume (c : Fin 8) (gd ga : Fin 16) (imm : BitVec 18) (s : State) : Host.Outcome State Fault Refusal :=
  .next (s.issue c fun s => s.legal c (imm.toNat / 65536 != 0) fun s =>
    if s.mode == 9 then s.replayOutput.complete c gd stINHIBIT else
    s.serve c gd [8] fun s =>
    let r := s.resumeCheck (s.octets (corePhys c (s.gpr c ga).toNat) 72) (imm.toNat % 65536)
    if r.1 ≠ stOK then r.2.2.2.complete c gd r.1 r.2.1
    else (r.2.2.2.modFleet fun f => { f with clear := some ⟨c, gd, none, r.2.2.1⟩ }).waitOn c (.resume gd))

/-- The latch clears (R299): STOP_STAT released, the event and record, and no further stop frame. -/
def State.clearLatch (s : State) (key : Nat) : State :=
  let s := (s.setBit FLEET_STOP_STAT 31 false).withdraw TxSrc.isStop
  (s.raise 0x03 0x02).record 0x03 recSTOP_RELEASE (word s.episode) (word key) 0

/-- LATCH_CLEAR (R299, R304): the AON edge after a RESUME that verified. A low sample since then leaves the latch set, and
RESUME completes DENIED, detail 1. -/
def execLatchClear (s : State) : Host.Outcome State Fault Refusal :=
  .next (match s.fleet.clear with
    | none => s
    | some r =>
      let ok := s.latched && decide (16384 ≤ s.fleet.high)
      let w := if ok then completion stOK else completion stDENIED 1
      let s := s.modFleet fun f => { f with clear := none }
      let s := if ok then s.clearLatch r.key else s
      match r.svc with
      | none => s.finish r.core (fun w => match w with
          | .resume _ => true
          | _ => false) w
      | some head => s.reply r.core head (bits w 7 0) [s.rd FLEET_STOP_STAT])

/-! ### Machine slots (R288–R290) -/

/-- The state of slot n: 0 FREE, 1 JOINING, 2 ACTIVE, 3 LOST. -/
def State.slotState (s : State) (n : Nat) : Nat := s.fld (FLEET_SLOTn_STAT n) 31 29

/-- The EUI-64 of slot n. -/
def State.slotEui (s : State) (n : Nat) : Nat :=
  (s.rd (FLEET_SLOTn_EUIHI n)).toNat * 2 ^ 32 + (s.rd (FLEET_SLOTn_EUILO n)).toNat

/-- The slot that an address holds. -/
def State.slotOf (s : State) : Addr → Option Nat
  | .short a => s.fleetSlot a.toNat
  | .ext e => (List.range 64).find? fun n => s.slotState n != 0 && s.slotEui n == e.toNat

/-- A frame of slot n accepted (R288, R290): FCIN, and a LOST slot is ACTIVE again. -/
def State.heardSlot (s : State) (n : Nat) (counter : Word) : State :=
  let s := (s.wr (FLEET_SLOTn_FCIN n) counter).setFld (FLEET_SLOTn_STAT n) 28 20 0
  if s.slotState n = 3 then s.setFld (FLEET_SLOTn_STAT n) 31 29 2 else s

/-- A frame placed on descriptor queue FLEET_CTL.RXQ; without a place there it is lost. -/
def State.deliverFleet (s : State) (desc : Nat) : State :=
  let d := s.fld FLEET_CTL 15 8
  if s.isOn 7 ∧ s.dqRoom d then s.dqPush d desc else s

/-- FLEET_RX (R288, R289): a frame of the fleet channel, in buffer `desc`, reaches the engine. -/
def execFleetRx (f : FleetFrame) (desc : Fin 16384) (s : State) : Host.Outcome State Fault Refusal :=
  .next (
    let here := (f.pan.toNat == s.fld FLEET_PAN 31 16 || f.pan == 0xFFFF)
      && (f.dest.toNat == s.fld FLEET_PAN 15 0 || f.dest == 0xFFFF)
    if !s.isOn 13 || !s.bit FLEET_CTL 0 || !here then s else
    match s.slotOf f.src with
    | some n =>
      if f.counter.toNat ≤ (s.rd (FLEET_SLOTn_FCIN n)).toNat then s.fleetCount 4
      else if !f.micOk then s
      else (s.heardSlot n f.counter).deliverFleet desc
    | none =>
      match f.src with
      | .short _ => if f.typ = 0x23 then s else s.fleetCount 5
      | .ext e =>
        if f.typ ≠ 0x23 ∨ !s.bit FLEET_CTL 2 ∨ !f.micOk then s else
        match (List.range 64).find? fun n => s.slotState n == 0 with
        | some n =>
          let s := s.wr (FLEET_SLOTn_STAT n) (word (2 ^ 29))
          let s := (s.wr (FLEET_SLOTn_EUILO n) (e.setWidth 32)).wr (FLEET_SLOTn_EUIHI n) ((e >>> 32).setWidth 32)
          ((s.wr (FLEET_SLOTn_FCIN n) f.counter).raise 0xD0 0x01).deliverFleet desc
        | none =>
          let s := ((s.fleetCount 6).setBit FLEET_STAT 1 true).raise 0xD0 0x02
          (s.rated 0xD0 recFLEET_JOIN_FULL 0 0 (e.setWidth 32) ((e >>> 32).setWidth 32) true).deliverFleet desc)

/-- SLOT_LOST (R290): slot n has had no frame for more than MLOST seconds; its AGE is at least one more. -/
def execSlotLost (n : Fin 64) (s : State) : Host.Outcome State Fault Refusal :=
  .next (if !s.isOn 13 || !(s.slotState n == 1 || s.slotState n == 2) then s else
    let age := max (s.fld (FLEET_SLOTn_STAT n) 28 20) (s.fld FLEET_CTL 31 24 + 1)
    let s := (s.setFld (FLEET_SLOTn_STAT n) 31 29 3).setFld (FLEET_SLOTn_STAT n) 28 20 age
    (s.setBit FLEET_STAT 0 true).raise 0xD0 0x03)

/-- A second on the ages of the slots in use (FLEET_SLOTn_STAT.AGE). -/
def State.fleetSecond (s : State) (secs : Nat) : State :=
  (List.range 64).foldl (fun (s : State) n => if s.slotState n = 0 then s else s.count (FLEET_SLOTn_STAT n) 28 20 secs) s

/-! ### Reservations (R291–R294) -/

/-- FLEET_RESCNT brought to the lists. -/
def State.showResv (s : State) : State :=
  s.wr FLEET_RESCNT (word (s.fleet.pend.length * 65536 + s.fleet.held.length))

/-- A result put into the FIFO. -/
def State.putResult (s : State) (r : ResResult) : State :=
  if s.fleet.results.length < 256 then s.modFleet fun f => { f with results := f.results ++ [r] } else s

/-- Does the pair of two segments stand in FLEET_PAIRk (R291)? -/
def State.pairSet (s : State) (a b : Nat) : Bool :=
  (List.range 8192).any fun k => s.bit (FLEET_PAIRk k) 31 &&
    (let x := s.fld (FLEET_PAIRk k) 27 16
     let y := s.fld (FLEET_PAIRk k) 11 0
     (x == a && y == b) || (x == b && y == a))

/-- Do two reservations conflict (R291)? A pair that names one segment twice adds nothing to the segment itself. -/
def State.conflict (s : State) (a b : Resv) : Bool :=
  a.slot != b.slot && decide (tdiff a.start b.stop < 0) && decide (tdiff b.start a.stop < 0)
    && (a.seg == b.seg || s.pairSet a.seg b.seg)

/-- The held reservation that a conflict names: the earliest start, then the lowest slot (R293). -/
def namedWinner (l : List Resv) : Option Resv :=
  l.foldl (fun (b : Option Resv) r => match b with
    | none => some r
    | some q => if tdiff r.start q.start < 0 ∨ (r.start = q.start ∧ r.slot < q.slot) then some r else b) none

/-- FLEET_RESSTAT after a command. -/
def State.resDone (s : State) (status detail index : Nat) : State :=
  (s.wr FLEET_RESSTAT (word (index % 16384 * 65536 + detail % 256 * 256 + status % 256))).showResv

/-- The request in the registers (Table 12-6). -/
def State.resRequest (s : State) : Resv :=
  { seg := s.fld FLEET_RESREQ 31 20, slot := s.fld FLEET_RESREQ 19 14, prio := s.fld FLEET_RESREQ 13 10
    reqid := s.fld FLEET_RESREQ 7 0
    start := tval (s.rd FLEET_RESSTART_S) (s.rd FLEET_RESSTART_G), stop := tval (s.rd FLEET_RESEND_S) (s.rd FLEET_RESEND_G) }

/-- SUBMIT (R292). -/
def State.submitResv (s : State) : State :=
  let r := s.resRequest
  if 256 ≤ s.fleet.pend.length then s.resDone stFULL 2 0
  else if s.slotState r.slot < 2 || !s.bit (FLEET_SEGg r.seg) 31 || s.bit (FLEET_SEGg r.seg) 30
      || decide (tdiff r.stop r.start ≤ 0)
      || decide ((s.fld FLEET_RESCFG 23 0 * 2 ^ 32 : Int) < tdiff r.stop r.start)
      || decide (0 < tdiff s.now r.stop) then s.resDone stRANGE 0 0
  else (s.modFleet fun f => { f with pend := f.pend ++ [r] }).resDone stOK 0 0

/-- A reservation freed; R290 gives each the result CANCELLED. -/
def State.cancelResv (s : State) (p : Resv → Bool) (result : Bool) : State :=
  let gone := s.fleet.held.filter fun e => p e.2
  let s := s.modFleet fun f => { f with held := f.held.filter fun e => !p e.2 }
  let s := if result then gone.foldl (fun (s : State) (e : Nat × Resv) => s.putResult ⟨3, e.2.slot, 0, e.2.reqid, e.1⟩) s else s
  s.showResv

/-- CANCEL (R294). -/
def State.cancelIndex (s : State) (i : Nat) : State :=
  if s.fleet.held.any fun e => e.1 == i then
    (s.modFleet fun f => { f with held := f.held.filter fun e => e.1 != i }).resDone stOK 0 i
  else s.resDone stNOTREADY 0 i

/-- READ (R306): the reservation in FLEET_RESREQ and the time registers. -/
def State.readResv (s : State) (i : Nat) : State :=
  match s.fleet.held.find? fun e => e.1 == i with
  | none => s.resDone stNOTREADY 0 i
  | some (_, r) =>
    let s := s.wr FLEET_RESREQ (word (r.seg * 2 ^ 20 + r.slot * 2 ^ 14 + r.prio * 2 ^ 10 + r.reqid))
    let s := (s.wr FLEET_RESSTART_S (word (r.start / 2 ^ 32))).wr FLEET_RESSTART_G (word r.start)
    ((s.wr FLEET_RESEND_S (word (r.stop / 2 ^ 32))).wr FLEET_RESEND_G (word r.stop)).resDone stOK 0 i

/-- A write of FLEET_RESCMD. -/
def State.writeRescmd (s : State) (v : Word) : State :=
  match bits v 31 28 with
  | 1 => s.submitResv
  | 2 => s.cancelIndex (bits v 13 0)
  | 3 => let n := s.fld FLEET_RESREQ 19 14
         (s.cancelResv (fun r => r.slot == n) false).resDone stOK 0 0
  | 4 => s.readResv (bits v 13 0)
  | _ => s.resDone stRANGE 0 0

/-- A FLEET command acts while its domain is ON. -/
def State.fleetCmd (s : State) (f : State → State) : Host.Outcome State Fault Refusal := .next (if s.isOn 13 then f s else s)

/-- SUBMIT (R292). -/
def execSubmit (s : State) : Host.Outcome State Fault Refusal := s.fleetCmd fun s => s.writeRescmd 0x10000000

/-- CANCEL (R294). -/
def execCancel (i : Fin 16384) (s : State) : Host.Outcome State Fault Refusal :=
  s.fleetCmd fun s => s.writeRescmd (word (2 * 2 ^ 28 + i.val))

/-- CANCELSLOT (R294): the SLOT of FLEET_RESREQ. -/
def execCancelslot (s : State) : Host.Outcome State Fault Refusal := s.fleetCmd fun s => s.writeRescmd 0x30000000

/-- RES_READ (R306). -/
def execResRead (i : Fin 16384) (s : State) : Host.Outcome State Fault Refusal :=
  s.fleetCmd fun s => s.writeRescmd (word (4 * 2 ^ 28 + i.val))

/-- One request decided at a boundary (R293): `held0` the reservations held before it, `now` those granted at it. -/
def State.decideResv (s : State) (held0 now : List Resv) (r : Resv) : State × List Resv :=
  let lose (w : Resv) : State × List Resv := (s.putResult ⟨1, r.slot, w.slot, r.reqid, 0⟩, now)
  match namedWinner (held0.filter fun h => s.conflict r h) with
  | some w => lose w
  | none =>
    match now.find? fun g => s.conflict r g with
    | some w => lose w
    | none =>
      if 16384 ≤ s.fleet.held.length then
        let s := (s.setBit FLEET_STAT 3 true).setFld FLEET_RESSTAT 15 0 (256 + stFULL)
        let s := s.rated 0xD1 recRES_FULL 0 0 (word r.slot) 0 true
        (s.putResult ⟨2, r.slot, 0, r.reqid, 0⟩, now)
      else
        let i := (firstNat (fun i => !s.fleet.held.any fun e => e.1 == i) 16384 0).getD 0
        let s := s.modFleet fun f => { f with held := insertBy (fun a b => Nat.ble a.1 b.1) (i, r) f.held }
        (s.putResult ⟨0, r.slot, 0, r.reqid, i⟩, now ++ [r])

/-- The boundary that has been reached: 0 + j × TICK ms of network time, rounded by R4. -/
def State.tickAt (s : State) : Nat :=
  let t := max 1 (s.fld FLEET_RESCFG 31 24)
  let j : Nat := s.netNow * 1000 / (t * 2 ^ 32)
  (roundDiv ((j * t * 2 ^ 32 : Nat) : Int) 1000).toNat % 2 ^ 64

/-- RESERVATION_TICK (R293): a boundary while RESEN is set. -/
def execReservationTick (s : State) : Host.Outcome State Fault Refusal :=
  .next (if !s.isOn 13 || !s.bit FLEET_CTL 3 || !s.isOn 12 || !s.time.running then s else
    let at_ := s.tickAt
    let s := (s.modFleet fun f => { f with held := f.held.filter fun e => decide (0 < tdiff e.2.stop at_) }).showResv
    if s.fleet.pend = [] then s
    else if 256 < s.fleet.results.length + s.fleet.pend.length then s.fleetCount 3
    else
      let before (a b : Resv) : Bool := decide (a.prio < b.prio ∨ (a.prio = b.prio ∧ a.slot ≤ b.slot))
      let held0 := s.fleet.held.map (·.2)
      let r := (sortBy before s.fleet.pend).foldl (fun (a : State × List Resv) r => a.1.decideResv held0 a.2 r) (s, [])
      ((r.1.modFleet fun f => { f with pend := [] }).showResv).raise 0xD1 0x01)

/-- A read of FLEET_RESRES0 pops a result; its index stands in FLEET_RESRES1 (R306). -/
def State.popResult (s : State) : State :=
  match s.fleet.results with
  | [] => { s with bus := 0x80000000 }
  | r :: t =>
    let s := (s.modFleet fun f => { f with results := t }).wr FLEET_RESRES1 (word r.index)
    { s with bus := word (r.result * 2 ^ 28 + r.slot * 2 ^ 22 + r.winner * 2 ^ 16 + r.reqid * 2 ^ 8) }

/-- RESULT_POP (R306). -/
def execResultPop (s : State) : Host.Outcome State Fault Refusal :=
  .next (if s.isOn 13 then s.popResult else { s with bus := 0 })

/-! ### Tasks (R295) -/

/-- FLEET_TASKCNT brought to the queue. -/
def State.showTasks (s : State) : State :=
  s.wr FLEET_TASKCNT (word ((s.fleet.tasks.filter fun (e : Nat × Task) => e.2.state == 1).length * 65536 + s.fleet.tasks.length))

/-- A task command completes (R295). -/
def State.taskDone (s : State) (status task state : Nat) : State :=
  ((s.wr FLEET_TASKSTAT (word (task % 1024 * 65536 + state % 16 * 4096 + status % 256))).showTasks).raise 0xD2 0x01

/-- The task with an index. -/
def State.taskAt (s : State) (i : Nat) : Option Task := (s.fleet.tasks.find? fun e => e.1 == i).map (·.2)

/-- A task set at an index. -/
def State.setTask (s : State) (i : Nat) (t : Task) : State :=
  s.modFleet fun f => { f with tasks := insertBy (fun a b => Nat.ble a.1 b.1) (i, t) (f.tasks.filter fun e => e.1 != i) }

/-- ADD: the lowest free index. -/
def State.addTask (s : State) : State :=
  match firstNat (fun i => (s.taskAt i).isNone) 1024 0 with
  | none => ((s.setBit FLEET_STAT 2 true).rated 0xD2 recTASK_FULL 0 0 0 0 true).taskDone stFULL 0 0
  | some i =>
    let t : Task := { state := 1, target := s.fld FLEET_TASKARG 31 24, prio := s.fld FLEET_TASKARG 23 20
                      body := s.rd FLEET_TASKBODY, order := s.fleet.taskOrder, slot := 0 }
    ((s.setTask i t).modFleet fun f => { f with taskOrder := f.taskOrder + 1 }).taskDone stOK i 1

/-- NEXT: the QUEUED task for slot n with the lowest priority number, then the oldest. -/
def State.nextTask (s : State) (n : Nat) : State :=
  let best := (s.fleet.tasks.filter fun (e : Nat × Task) => e.2.state == 1 && (e.2.target == n || e.2.target == 0xFF)).foldl
    (fun (b : Option (Nat × Task)) e => match b with
      | none => some e
      | some q => if e.2.prio < q.2.prio ∨ (e.2.prio = q.2.prio ∧ e.2.order < q.2.order) then some e else b) none
  match best with
  | none => s.taskDone stNOTREADY 0 0
  | some (i, t) => (s.setTask i { t with state := 2, slot := n }).taskDone stOK i 2

/-- DONE, FAIL and CANCEL free a task and report 3, 4 or 5; a FREE task is NOTREADY. -/
def State.freeTask (s : State) (i state : Nat) : State :=
  match s.taskAt i with
  | none => s.taskDone stNOTREADY i 0
  | some _ => (s.modFleet fun f => { f with tasks := f.tasks.filter fun e => e.1 != i }).taskDone stOK i state

/-- READ reports a task's state. -/
def State.readTask (s : State) (i : Nat) : State := s.taskDone stOK i ((s.taskAt i).elim 0 (·.state))

/-- A write of FLEET_TASKCMD. -/
def State.writeTaskcmd (s : State) (v : Word) : State :=
  match bits v 31 28 with
  | 1 => s.addTask
  | 2 => s.nextTask (bits v 27 22)
  | 3 => s.freeTask (bits v 9 0) 3
  | 4 => s.freeTask (bits v 9 0) 4
  | 5 => s.freeTask (bits v 9 0) 5
  | 6 => s.readTask (bits v 9 0)
  | _ => s.taskDone stRANGE 0 0

/-- TASK_ADD (R295): the target and priority of FLEET_TASKARG and the body of FLEET_TASKBODY. -/
def execTaskAdd (s : State) : Host.Outcome State Fault Refusal := s.fleetCmd fun s => s.writeTaskcmd 0x10000000

/-- NEXT (R295). -/
def execNext (n : Fin 64) (s : State) : Host.Outcome State Fault Refusal :=
  s.fleetCmd fun s => s.writeTaskcmd (word (2 * 2 ^ 28 + n.val * 2 ^ 22))

/-- TASK_DONE (R295). -/
def execTaskDone (i : Fin 1024) (s : State) : Host.Outcome State Fault Refusal :=
  s.fleetCmd fun s => s.writeTaskcmd (word (3 * 2 ^ 28 + i.val))

/-- TASK_FAIL (R295). -/
def execTaskFail (i : Fin 1024) (s : State) : Host.Outcome State Fault Refusal :=
  s.fleetCmd fun s => s.writeTaskcmd (word (4 * 2 ^ 28 + i.val))

/-- TASK_CANCEL (R295). -/
def execTaskCancel (i : Fin 1024) (s : State) : Host.Outcome State Fault Refusal :=
  s.fleetCmd fun s => s.writeTaskcmd (word (5 * 2 ^ 28 + i.val))

/-- TASK_READ (R306). -/
def execTaskRead (i : Fin 1024) (s : State) : Host.Outcome State Fault Refusal :=
  s.fleetCmd fun s => s.writeTaskcmd (word (6 * 2 ^ 28 + i.val))

/-- A write of FLEET_SLOTn_STAT: SHORT, and STATE 0 frees the slot, which cancels its reservations and fails its tasks (R290);
2 completes a join (R289; log entry 31). -/
def State.writeSlotStat (s : State) (n : Nat) (v : Word) : State :=
  let s := s.setFld (FLEET_SLOTn_STAT n) 15 0 (bits v 15 0)
  match bits v 31 29 with
  | 0 =>
    let s := s.setFld (FLEET_SLOTn_STAT n) 31 20 0
    let s := s.cancelResv (fun r => r.slot == n) true
    (s.modFleet fun f => { f with tasks := f.tasks.map fun (e : Nat × Task) =>
      if e.2.state = 2 ∧ e.2.slot = n then (e.1, { e.2 with state := 4 }) else e }).showTasks
  | 2 => if s.slotState n = 1 then s.setFld (FLEET_SLOTn_STAT n) 31 29 2 else s
  | _ => s

/-- SLOT_FREE (R290): the write of STATE 0, with the SHORT written. -/
def execSlotFree (n : Fin 64) (short : BitVec 16) (s : State) : Host.Outcome State Fault Refusal :=
  s.fleetCmd fun s => s.writeSlotStat n short.toNat

/-! ### The generators (R287, R296, R300, R302) -/

/-- The chains a generator sends on: TXI, and the sub-GHz fleet chain when enabled; with entry, power, rate and preamble. -/
def State.fleetChains (s : State) : List (Nat × Nat × Int × Nat × Nat) :=
  let p12 (n : Nat) : Int := (BitVec.ofNat 12 n).toInt
  (2, s.fld FLEET_ISM 9 0, p12 (s.fld FLEET_ISM 27 16), 4, 4) ::
    (if s.bit FLEET_SUBCH 31 then
      [(s.fld FLEET_SUBCH 30 30, s.fld FLEET_SUBCH 9 0, p12 (s.fld FLEET_SUBCH 21 10), s.fld FLEET_SUBCH 29 28,
        s.fld FLEET_SUBCH 27 22)] else [])

/-- Can chain x take a command at an entry now? -/
def State.chainTakes (s : State) (x entry : Nat) : Bool :=
  s.isOn (txDom x) && s.chainOn x && s.fld (txFrq x entry) 27 0 != 0

/-- A broadcast fleet frame as a transmit command. -/
def State.fleetTx (s : State) (src : TxSrc) (t len lateMax : Nat) (stop : Bool) (ch : Nat × Int × Nat × Nat) : TxCmd :=
  { src := src, tag := 0, sec := word (t / 2 ^ 32), grn := word t, lateMax := lateMax, stop := stop, entry := ch.1
    power := ch.2.1, rate := ch.2.2.1, fec := false, uni := false, pre := ch.2.2.2, target := 0
    frame := { len := len, secured := true, pan := BitVec.ofNat 16 (s.fld FLEET_PAN 31 16), dest := 0xFFFF, flood := false
               corr := false }
    ksel := 0, ctr := 0, order := 0, fetched := false, displaced := false, off := 0, demoted := false }

/-- May the GO generator send (R296)? -/
def State.goOn (s : State) : Bool :=
  s.isOn 13 && s.isOn 12 && s.time.running && s.bit FLEET_CTL 1 && !s.latched && (s.mode == 3 || s.mode == 4)

/-- CORRAGE (R296): 0xFF withheld, else the age of the last CORR frame in 0.1 s. No CORR sent yet reads as the saturated
age. -/
def State.corrAge (s : State) : Nat :=
  if s.bit GNSS_INTEG 30 then 0xFF else
    match s.fleet.corrAt with
    | none => 0xFE
    | some t => min 0xFE ((tdiff s.now t).toNat * 10 / 2 ^ 32)

/-- A GO with T, on each of its chains (R296). -/
def State.sendGo (s : State) (t : Nat) : State :=
  let seq := s.fld FLEET_GOSEQ 15 0
  let chs := s.fleetChains
  let out := FleetOut.go seq (s.fld FLEET_CTL 23 16) s.episode s.corrAge (s.rd FLEET_HOLD_HI ++ s.rd FLEET_HOLD_LO)
  let s := s.wr FLEET_GOSEQ (word ((seq + 1) % 65536))
  let s := s.modFleet fun f => { f with
    goLast := some t, built := some out, goRuns := f.goRuns ++ [⟨seq, chs.length, false, false, 0⟩] }
  chs.foldl (fun (s : State) (c : Nat × Nat × Int × Nat × Nat) =>
    if s.chainTakes c.1 c.2.1 && decide (s.txDepth c.1 < 16) then
      s.acceptTx c.1 (s.fleetTx (.go seq) t 44 5000 false c.2)
    else s.goDone seq false 0) s

/-- The first instant of the GO grid not before now. -/
def State.goInstant (s : State) (base : Nat) : Nat :=
  let per := (roundDiv (s.fld FLEET_CTL 23 16 * 2 ^ 32) 1000).toNat
  let d := tdiff s.now (base * 2 ^ 32)
  let k := if d ≤ 0 ∨ s.fld FLEET_CTL 23 16 = 0 then 0 else ceilDiv d.toNat per
  (base * 2 ^ 32 + (roundDiv (k * s.fld FLEET_CTL 23 16 * 2 ^ 32) 1000).toNat) % 2 ^ 64

/-- GO (R296): the GO of the next instant of the grid. -/
def execGo (s : State) : Host.Outcome State Fault Refusal :=
  .next (match s.fleet.goBase with
    | none => s
    | some base =>
      if !s.goOn then s else
      let t := s.goInstant base
      if s.fleet.goLast = some t then s else s.sendGo t)

/-- The GO that ends the pause of a device activation, with T on that edge (R296). -/
def State.goAfterPause (s : State) : State := if s.goOn && s.fleet.goBase.isSome then s.sendGo s.now else s

/-- The offset of stop frame n from the setting of the latch, ns (R300); 100 ms apart in SURVEY (R302). -/
def State.stopOffset (s : State) (n : Nat) : Nat :=
  if s.mode = 6 then n * 100000000
  else if n < 1000 then n * 10000000 else 10000000000 + (n - 1000) * 100000000

/-- STOP_FRAME (R300, R302): the generator sends frame n. In SURVEY with the latch clear, and after a setting whose time is
the RTC's, its instant is now. -/
def execStopFrame (n : Nat) (s : State) : Host.Outcome State Fault Refusal :=
  .next (
    let survey := s.mode == 6
    if !s.isOn 13 || !(survey || (s.latched && (s.mode == 3 || s.mode == 4))) then s else
    let cause := if s.latched then s.fld FLEET_STOP_STAT 23 16 else 0x08
    let out := FleetOut.stop cause s.episode (s.rd FLEET_STOP_LSEC) (s.rd FLEET_STOP_LGRN) n (s.bit FLEET_STOP_STAT 25)
      (s.fld FLEET_PAN 15 0)
    let s := s.modFleet fun f => { f with built := some out }
    let grid := s.latched && !s.bit FLEET_STOP_STAT 25
    let t := if grid then after (tval (s.rd FLEET_STOP_LSEC) (s.rd FLEET_STOP_LGRN)) (s.stopOffset n) else s.now
    let late := grid && n != 0 && decide (17 < tdiff s.now t)
    s.fleetChains.foldl (fun (s : State) (c : Nat × Nat × Int × Nat × Nat) =>
      if late || !s.chainTakes c.1 c.2.1 || (s.chain c.1).queue.any (fun m => m.src.isStop) then s.stopMissed
      else s.acceptTx c.1 (s.fleetTx (.stop n) t 48 0 true c.2)) s)

/-- A write of FLEET_CTL: MLOST 0 is written as 1, GOPER is held to 20–200; GOEN going from 0 to 1 sets GOBASE (R296). -/
def State.writeFleetCtl (s : State) (v : Word) : State :=
  let was := s.bit FLEET_CTL 1
  let v := putBits v 31 24 (max 1 (bits v 31 24))
  let v := putBits v 23 16 (max 20 (min 200 (bits v 23 16)))
  let s := s.wr FLEET_CTL (putBits v 7 4 0)
  if bitAt v 1 && !was then s.modFleet fun f => { f with goBase := some (s.time.sec.toNat + 1) }
  else if bitAt v 1 then s else s.modFleet fun f => { f with goBase := none }

/-! ### Power and reset (R304, R305) -/

/-- The fleet engine after OFF or a reset: tables and registers lost but for the stop registers of AON, TLOST set, and the
latch set with cause 0x07. -/
def State.fleetReset (s : State) : State :=
  let s := (s.withdraw TxSrc.isStop).withdraw TxSrc.isGo
  let s := (s.resetRange 0x400E0000 0x400E0800).resetRange 0x400E0820 0x400F0000
  let s := s.modFleet fun f => { f with
    pend := [], held := [], results := [], tasks := [], taskOrder := 0, goBase := none, goLast := none, goRuns := []
    goFails := 0, corrAt := none, genLast := none, built := none }
  let s := s.setBit FLEET_STAT 7 true
  if s.latched then s else s.setLatch 0x07

/-- The engine after RET: the ages take in the time in RET, given in seconds (R305). -/
def State.fleetFromRet (s : State) (secs : Nat) : State := s.fleetSecond secs

end Sys2Proof.Machine
end

