-- ==== Sys2Proof/Machine/Fwd.lean ====
section
/-!
DEFINITION. Sys2Proof/Machine/Fwd.lean: forwarding and learning tables (08): the prefix trie as the set of prefixes it holds,
its capacity, the prefix commands, route lookups with source routing into the mesh (06: R173), exact-match lookups, the
layer-2 bridge with learning, ageing and the change journal.
-/
namespace Sys2Proof.Machine

/-! ### The trie (R203–R205) -/

/-- An address with the bits below a prefix length zero. -/
def maskPfx (a : BitVec 128) (len : Nat) : BitVec 128 := (a >>> (128 - len)) <<< (128 - len)

/-- Does a prefix cover an address? -/
def Pfx.covers (p : Pfx) (a : BitVec 128) : Bool := maskPfx a p.len == p.addr

/-- The longest prefix of a table that covers an address: the last result that the walk of R203 records. -/
def lpm (t : List Pfx) (a : BitVec 128) : Option Pfx :=
  t.foldl (fun (b : Option Pfx) p => if !p.covers a then b else match b with
    | none => some p
    | some q => if q.len < p.len then some p else b) none

/-- The level whose slots hold a prefix of length N; 0 for the root table (R204). -/
def pfxLevel (n : Nat) : Nat := if n ≤ 24 then 0 else (n - 24 + 7) / 8

/-- The node of level L that a prefix passes through, as the address bits above it. -/
def Pfx.node (p : Pfx) (l : Nat) : Nat := p.addr.toNat / 2 ^ (128 - (24 + 8 * (l - 1)))

/-- The slots of its level-L node that a prefix occupies: those it covers at its own level, one with a child above it. -/
def Pfx.inSlot (p : Pfx) (l s : Nat) : Bool :=
  let first := p.addr.toNat / 2 ^ (128 - (24 + 8 * l)) % 256
  if pfxLevel p.len = l then decide (first ≤ s ∧ s < first + 2 ^ (24 + 8 * l - p.len)) else first == s

/-- The cells of level L: for each node a header cell and one cell for every eight occupied slots. -/
def levelCells (t : List Pfx) (l : Nat) : Nat :=
  let ps := t.filter fun p => decide (l ≤ pfxLevel p.len)
  ((ps.map (·.node l)).eraseDups.map fun n =>
    let qs := ps.filter fun p => p.node l == n
    1 + ceilDiv ((List.range 256).filter fun s => qs.any fun p => p.inSlot l s).length 8).sum

/-- The cells of bank b that a table uses: levels b + 1 and b + 9 (R203). -/
def bankCells (t : List Pfx) (b : Nat) : Nat := levelCells t (b + 1) + (if b < 5 then levelCells t (b + 9) else 0)

/-- The root entries that a table uses (R204). -/
def rootEntries (t : List Pfx) : Nat :=
  (t.flatMap fun p => (List.range (2 ^ (24 - p.len))).map fun i => p.addr.toNat / 2 ^ 104 + i).eraseDups.length

/-- The capacity check of R205: the detail that refuses a table, with its bank. -/
def trieFull (t : List Pfx) : Option (Nat × Nat) :=
  if 65536 < t.length then some (1, 0)
  else match (List.range 8).find? fun b => decide (8176 < bankCells t b) with
  | some b => some (2, b)
  | none => if 4096 < rootEntries t then some (3, 0) else none

/-- FWD_PFXCNT and FWD_BANKb brought to the trie. -/
def State.showTrie (s : State) : State :=
  let t := s.fwd.trie
  let s := s.wr FWD_PFXCNT (word (rootEntries t * 2 ^ 17 + t.length))
  (List.range 8).foldl (fun (s : State) b => s.wr (FWD_BANKb b) (word (8176 - bankCells t b))) s

/-! ### Prefix commands (R207, R208) -/

/-- The address of FWD_PFXKEY0–3. -/
def State.pfxKey (s : State) : BitVec 128 :=
  BitVec.ofNat 128 ((List.range 4).map fun k => (s.rd (FWD_PFXKEYk k)).toNat * 2 ^ (32 * k)).sum

/-- Does FWD initialise its region? -/
def State.fwdInit (s : State) : Bool := s.bit FWD_STAT 6

/-- A value of FWD_PFXSTAT. -/
def pfxStat (status : Nat) (detail : Nat := 0) (bank : Nat := 0) : Word := word (bank * 2 ^ 16 + detail * 2 ^ 8 + status)

/-- A prefix command accepted: BUSY, with what its completion brings. -/
def State.pfxBusy (s : State) (status : Word) (res : Word) (shadow trie : List Pfx) : State :=
  (s.wr FWD_PFXSTAT 0x80000000).modFwd fun f => { f with cmd := some ⟨status, res, shadow, trie, f.trie, false⟩ }

/-- A prefix command (R207): ignored with CMDLOST while another runs, BUSY while INIT is set, RANGE for a length outside
12–128 where `len` is given. -/
def State.pfxCmd (s : State) (len : Option Nat) (f : State → State) : State :=
  if !s.isOn 7 then s
  else if s.fwd.cmd.isSome then s.setBit FWD_STAT 4 true
  else if s.fwdInit then s.pfxBusy (pfxStat stBUSY) (s.rd FWD_PFXRES) s.fwd.shadow s.fwd.trie
  else match len with
  | some n => if n < 12 ∨ 128 < n then s.pfxBusy (pfxStat stRANGE) (s.rd FWD_PFXRES) s.fwd.shadow s.fwd.trie else f s
  | none => f s

/-- A table without the prefix (address, length). -/
def withoutPfx (t : List Pfx) (a : BitVec 128) (len : Nat) : List Pfx := t.filter fun p => !(p.addr == a && p.len == len)

/-- A table with a prefix inserted, or its result replaced. -/
def withPfx (t : List Pfx) (p : Pfx) : List Pfx :=
  if t.any fun q => q.addr == p.addr && q.len == p.len then
    t.map fun q => if q.addr == p.addr && q.len == p.len then p else q
  else t ++ [p]

/-- ADD (R204, R205, R207). -/
def State.pfxAdd (s : State) (len res : Nat) : State :=
  s.pfxCmd (some len) fun s =>
    let p : Pfx := ⟨maskPfx s.pfxKey len, len, res⟩
    let t := withPfx s.fwd.trie p
    match trieFull t with
    | some (d, b) =>
      let s := (s.setBit FWD_STAT 0 true).rated 0x75 recPFX_FULL 0 0 (word d) (word b) true
      s.pfxBusy (pfxStat stFULL d b) (s.rd FWD_PFXRES) s.fwd.shadow s.fwd.trie
    | none => s.pfxBusy (pfxStat stOK) (s.rd FWD_PFXRES) (withPfx s.fwd.shadow p) t

/-- DEL (R207). -/
def State.pfxDel (s : State) (len : Nat) : State :=
  s.pfxCmd (some len) fun s =>
    let a := maskPfx s.pfxKey len
    if s.fwd.shadow.any fun q => q.addr == a && q.len == len then
      s.pfxBusy (pfxStat stOK) (s.rd FWD_PFXRES) (withoutPfx s.fwd.shadow a len) (withoutPfx s.fwd.trie a len)
    else s.pfxBusy (pfxStat stNOTREADY) (s.rd FWD_PFXRES) s.fwd.shadow s.fwd.trie

/-- READ (R207): the result of a prefix of the shadow. -/
def State.pfxRead (s : State) (len : Nat) : State :=
  s.pfxCmd (some len) fun s =>
    let a := maskPfx s.pfxKey len
    let r : Word := match s.fwd.shadow.find? fun q => q.addr == a && q.len == len with
      | some p => word (2 ^ 31 + p.len * 2 ^ 16 + p.res)
      | none => 0
    s.pfxBusy (pfxStat stOK) r s.fwd.shadow s.fwd.trie

/-- The result that applies to an address (R203): its index, whether it is the default's, and the length of its prefix. -/
def State.lookupRes (s : State) (a : BitVec 128) : Option (Nat × Bool × Nat) :=
  match lpm s.fwd.trie a with
  | some p => some (p.res, false, p.len)
  | none => if s.bit FWD_DEFAULT 31 then some (s.fld FWD_DEFAULT 11 0, true, 0) else none

/-- LOOKUP (R207). -/
def State.pfxLookup (s : State) : State :=
  s.pfxCmd none fun s =>
    let r : Word := match s.lookupRes s.pfxKey with
      | some (x, d, n) => word (2 ^ 31 + b2n d * 2 ^ 30 + n * 2 ^ 16 + x)
      | none => 0
    s.pfxBusy (pfxStat stOK) r s.fwd.shadow s.fwd.trie

/-- REBUILD (R208): the trie is empty until it completes. -/
def State.pfxRebuild (s : State) : State :=
  s.pfxCmd none fun s =>
    let t := s.fwd.shadow
    ((s.pfxBusy (pfxStat stOK) (s.rd FWD_PFXRES) t t).modFwd fun f => { f with
      trie := [], cmd := f.cmd.map fun c => { c with rebuild := true } }).showTrie

/-- PFX_ADD (R207). -/
def execPfxAdd (len : Fin 256) (res : Fin 4096) (s : State) : Host.Outcome State Fault Refusal := .next (s.pfxAdd len res)

/-- PFX_DEL (R207). -/
def execPfxDel (len : Fin 256) (s : State) : Host.Outcome State Fault Refusal := .next (s.pfxDel len)

/-- PFX_READ (R207). -/
def execPfxRead (len : Fin 256) (s : State) : Host.Outcome State Fault Refusal := .next (s.pfxRead len)

/-- PFX_LOOKUP (R207). -/
def execPfxLookup (s : State) : Host.Outcome State Fault Refusal := .next s.pfxLookup

/-- REBUILD (R208). -/
def execRebuild (s : State) : Host.Outcome State Fault Refusal := .next s.pfxRebuild

/-- A write of FWD_PFXCMD (Table 08-6). -/
def State.writePfxcmd (s : State) (v : Word) : State :=
  let len := bits v 23 16
  match bits v 31 28 with
  | 1 => s.pfxAdd len (bits v 11 0)
  | 2 => s.pfxDel len
  | 3 => s.pfxRead len
  | 4 => s.pfxLookup
  | 5 => s.pfxRebuild
  | _ => s.pfxCmd (some 0) fun s => s

/-- PFX_COMMAND_DONE (R207): the switch edge has passed; BUSY clears, and event 0x75 : 0x01 is raised. -/
def execPfxCommandDone (s : State) : Host.Outcome State Fault Refusal :=
  .next (match s.fwd.cmd with
    | none => s
    | some c =>
      if !s.isOn 7 then s else
      let s := s.modFwd fun f => { f with cmd := none, shadow := c.shadow, trie := c.trie }
      (((s.wr FWD_PFXSTAT c.status).wr FWD_PFXRES c.res).showTrie).raise 0x75 0x01)

/-! ### The region (R202) -/

/-- A write of FWD_DBASE (R202): the tables are emptied, the shadow and the journal cleared. -/
def State.regionInit (s : State) (v : Word) : State :=
  let s := (s.wr FWD_DBASE v).setBit FWD_STAT 6 true
  let s := (s.wr FWD_JWR 0).wr FWD_JRD 0
  let s := s.dropMem (v.toNat + 0x7C0000) (v.toNat + 0x800000)
  let s := s.modFwd fun f => { f with shadow := [], br := [], em := Vector.replicate 2 [] }
  ((List.range 4).foldl (fun (s : State) p => s.wr (FWD_BRPCNTp p) 0) s).setFld FWD_EMSTAT 30 24 0

/-- REGION_INIT (R202). -/
def execRegionInit (v : Word) (s : State) : Host.Outcome State Fault Refusal := .next (if s.isOn 7 then s.regionInit v else s)

/-- REGION_INIT_DONE (R202). -/
def execRegionInitDone (s : State) : Host.Outcome State Fault Refusal :=
  .next (if s.isOn 7 then s.setBit FWD_STAT 6 false else s)

/-! ### Exact match (R209, R210) -/

/-- The node of an IID under a PAN select (R209). -/
def State.iidNode (s : State) (iid : BitVec 64) (pan : Nat) : Option Nat :=
  if iid >>> 16 = (0xFFFE00 : BitVec 64) then s.emFind true (pan * 65536 + iid.toNat % 65536)
  else s.emFind false (iid ^^^ (1 : BitVec 64) <<< 57).toNat

/-- The key of FWD_EMKEY. -/
def State.emKey (s : State) : Nat := (s.rd FWD_EMKEY_HI).toNat * 2 ^ 32 + (s.rd FWD_EMKEY_LO).toNat

/-- A lookup's result in FWD_EMSTAT. -/
def State.emResult (s : State) (r : Option Nat) : State :=
  if !s.isOn 7 || s.fwdInit then s
  else (s.setBit FWD_EMSTAT 31 r.isSome).setFld FWD_EMSTAT 16 0 (r.getD 0)

/-- FWD_EMCMD 1. -/
def State.emEui (s : State) : State := s.emResult (s.emFind false s.emKey)

/-- FWD_EMCMD 2. -/
def State.emShort (s : State) : State :=
  s.emResult (s.emFind true (s.fld FWD_EMKEY_HI 1 0 * 65536 + s.fld FWD_EMKEY_LO 15 0))

/-- FWD_EMCMD 3. The command names no PAN select for an IID of the short form: it is a free value. -/
def State.emIid (s : State) : State :=
  let f := s.fresh
  f.2.emResult (f.2.iidNode (BitVec.ofNat 64 s.emKey) (bits f.1 1 0))

/-- EM_LOOKUP_EUI (R210). -/
def execEmLookupEui (s : State) : Host.Outcome State Fault Refusal := .next s.emEui

/-- EM_LOOKUP_SHORT (R210). -/
def execEmLookupShort (s : State) : Host.Outcome State Fault Refusal := .next s.emShort

/-- EM_LOOKUP_IID (R209, R210). -/
def execEmLookupIid (s : State) : Host.Outcome State Fault Refusal := .next s.emIid

/-- A write of FWD_EMCMD (Table 08-8). A code other than 1–3 looks nothing up. -/
def State.writeEmcmd (s : State) (v : Word) : State :=
  match bits v 31 28 with
  | 1 => s.emEui
  | 2 => s.emShort
  | 3 => s.emIid
  | _ => s

/-! ### Route lookup (R203, R206, R173, R218) -/

/-- The walk of R173 from a context up to the MS7200: `none` when it exceeds `fuel` hops, meets a context not ACTIVE, LOST or
RESYNC, or returns to an index already walked. -/
def State.walkUp (s : State) : Nat → List Nat → Nat → Option (List Nat)
  | 0, _, _ => none
  | n + 1, seen, i =>
    if seen.contains i || !(s.nodeState i == 2 || s.nodeState i == 3 || s.nodeState i == 4) then none
    else
      let up := s.node i 0x0C 4
      if up = 0xFFFFFFFF then some (i :: seen)
      else if nodeMax ≤ up then none
      else s.walkUp n (i :: seen) up

/-- Where the last frame went. -/
def State.goes (s : State) (d : List Dest) : State := s.modFwd fun f => { f with dest := d }

/-- Is a frame bound for ETH0, ETH1 or MESH dropped (R218)? -/
def State.sbyDrop (s : State) : Bool := s.mode == 5 && !s.bit FWD_CTL 3

/-- A frame to software's miss queue. -/
def State.missq (s : State) : State := s.goes [.queue (s.fld FWD_CTL 23 16)]

/-- A frame routed to node i (R173): to the egress of its path, or dropped with MAC_CNT16 when its walk ends. -/
def State.routeNode (s : State) (i : Nat) (tooLong : Bool) : State :=
  if s.sbyDrop then (s.bump (FWD_CNTm 11) 31 0).goes []
  else match if tooLong then none else s.walkUp (s.fld MAC_RPLCFG 5 0) [] i with
  | none => (s.bump (MAC_CNTm 16) 31 0).goes []
  | some _ => (s.bump (FWD_CNTm 0) 31 0).goes [.egress (s.node i 0x34 1 / 128) i]

/-- ROUTE_LOOKUP (R203, R206, R209, R173, R174): a frame's IPv6 destination is looked up and the frame forwarded by its
result. `tooLong`: the frame with its source routing header would exceed 2,047 octets. A KIND of 8–15 sends it nowhere. -/
def execRouteLookup (dst : BitVec 128) (tooLong : Bool) (s : State) : Host.Outcome State Fault Refusal :=
  .next (if !s.isOn 7 || !s.bit FWD_CTL 0 || s.mode == 7 then s
    else if s.mode == 9 then s.replayOutput
    else match s.lookupRes dst with
    | none => (s.bump (FWD_CNTm 1) 31 0).missq
    | some (r, _, _) =>
      let arg := s.fld (FWD_RESr r) 16 0
      let out (s : State) (d : Dest) : State := (s.bump (FWD_CNTm 0) 31 0).goes [d]
      match s.fld (FWD_RESr r) 31 28 with
      | 0 => (s.bump (FWD_CNTm 3) 31 0).goes []
      | 1 => if s.sbyDrop then (s.bump (FWD_CNTm 11) 31 0).goes [] else out s (.port 72)
      | 2 => if s.sbyDrop then (s.bump (FWD_CNTm 11) 31 0).goes [] else out s (.port 73)
      | 3 => out s (.port 75)
      | 4 =>
        (match s.iidNode (dst.setWidth 64) (arg % 4) with
         | some i =>
           if s.nodeState i = 0 ∨ s.nodeState i = 5 then (s.bump (FWD_CNTm 2) 31 0).missq else s.routeNode i tooLong
         | none => (s.bump (FWD_CNTm 2) 31 0).missq)
      | 5 => s.routeNode arg tooLong
      | 6 => out s (.queue (arg % 256))
      | 7 => s.missq
      | _ => s.goes [])

/-! ### The change journal (R216) -/

/-- A change journalled: KIND, VID, OLDPORT, PORT, MAC, STAMP, STATIC and INDEX (Table 08-4). In REPLAY it goes to the replay
output (R218). -/
def State.chgRecord (s : State) (kind vid old port : Nat) (mac : BitVec 48) (stamp : Nat) (static : Bool) (idx : Nat) : State :=
  if !s.bit FWD_CTL 2 then s
  else if s.mode == 9 then s.replayOutput
  else
    let seq := s.rd FWD_JSEQ
    let w := s.fld FWD_JWR 12 0
    let r := s.fld FWD_JRD 12 0
    let s := s.wr FWD_JSEQ (seq + 1)
    if (w + 1) % 8192 = r then
      ((s.bump FWD_JLOST 31 0).setBit FWD_STAT 3 true).rated 0x75 recJRNL_OVF 0 0 0 0 true
    else
      let t := s.stamp
      let s := s.putWords ((s.rd FWD_DBASE).toNat + 0x7C0000 + 32 * w)
        [seq, word (kind * 2 ^ 28 + vid * 2 ^ 16 + old * 4 + port), word mac.toNat,
         word (stamp * 2 ^ 16 + mac.toNat / 2 ^ 32), word (b2n static * 2 ^ 14 + idx), 0, t.1, t.2.1]
      let s := s.wr FWD_JWR (word ((w + 1) % 8192))
      let thr := s.fld FWD_JCTL 28 16
      if thr ≠ 0 ∧ (w + 1 + 8192 - r) % 8192 = thr then s.raise 0x75 0x03 else s

/-- A change of an entry journalled. -/
def State.chgEnt (s : State) (kind old : Nat) (e : BrEnt) (idx : Nat) : State :=
  s.chgRecord kind e.vid old e.port e.mac e.stamp.toNat e.static idx

/-! ### The bridge table (R211–R215) -/

/-- Entry `i` of the bridge table: 4 × bucket + way. -/
def State.brEnt (s : State) (i : Nat) : Option BrEnt := tabGet (fun _ => none) s.fwd.br i

/-- FWD_BRPCNTp brought to the table. -/
def State.showBr (s : State) : State :=
  (List.range 4).foldl (fun (s : State) p => s.wr (FWD_BRPCNTp p) (word (s.fwd.br.filter fun e => match e.2 with
    | some b => b.port == p && !b.static
    | none => false).length)) s

/-- An entry set or removed; in REPLAY the table does not change (R218). -/
def State.setBr (s : State) (i : Nat) (e : Option BrEnt) : State :=
  if s.mode == 9 then s.replayOutput
  else (s.modFwd fun f => { f with br := tabSet (fun _ => none) f.br i e }).showBr

/-- The bucket of a key (R211). -/
def brBucket (mac : BitVec 48) (vid : Nat) : Nat := crc32 (beOctets mac.toNat 6 ++ beOctets vid 2) % 4096

/-- The entry of a key. -/
def State.brFind (s : State) (mac : BitVec 48) (vid : Nat) : Option (Nat × BrEnt) :=
  ((List.range 4).map fun w => 4 * brBucket mac vid + w).findSome? fun i => match s.brEnt i with
    | some e => if e.mac == mac && e.vid == vid then some (i, e) else none
    | none => none

/-- The age of an entry: the signed 16-bit difference AGECLK − STAMP (R214). -/
def State.brAge (s : State) (e : BrEnt) : Int := (BitVec.ofNat 16 (s.fld FWD_AGECLK 15 0) - e.stamp).toInt

/-- The eviction LFSR advanced (R213): x¹⁶ + x¹⁴ + x¹³ + x¹¹ + 1, shifting right (log entry 27). -/
def lfsrNext (l : Nat) : Nat :=
  let b := (l ^^^ l / 4 ^^^ l / 8 ^^^ l / 32) % 2
  l / 2 + b * 32768

/-- The way that an insertion takes in a bucket (R213): free, else the way evicted, else none; with the LFSR advanced. -/
def State.brWay (s : State) (b : Nat) : Option Nat × State :=
  match (List.range 4).find? fun w => (s.brEnt (4 * b + w)).isNone with
  | some w => (some w, s)
  | none =>
    let dyn (w : Nat) : Bool := match s.brEnt (4 * b + w) with
      | some e => !e.static
      | none => false
    if !(List.range 4).any dyn then (none, s)
    else if s.bit FWD_BRCFG 16 then
      ((List.range 4).foldl (fun (o : Option Nat) w => if !dyn w then o else match o with
        | none => some w
        | some v => match s.brEnt (4 * b + v), s.brEnt (4 * b + w) with
          | some x, some y => if s.brAge x < s.brAge y then some w else o
          | _, _ => o) none, s)
    else
      let l := s.fld FWD_BRLFSR 15 0
      ((List.range 4).map (fun k => (l + k) % 4) |>.find? dyn, s.wr FWD_BRLFSR (word (lfsrNext l)))

/-- An entry inserted in its bucket, the insertion journalled as `kind` and then the entry displaced (R213). `none`: every way
is static. -/
def State.brInsert (s : State) (e : BrEnt) (kind : Nat) (noj : Bool) : Option Nat × State :=
  let b := brBucket e.mac e.vid
  let r := s.brWay b
  match r.1 with
  | none => (none, r.2.bump (FWD_CNTm 10) 31 0)
  | some w =>
    let i := 4 * b + w
    let old := s.brEnt i
    let s := r.2.setBr i (some e)
    let s := if noj then s else s.chgEnt kind 0 e i
    match old with
    | none => (some i, s)
    | some o => (some i, (if noj then s else s.chgEnt 3 0 o i).bump (FWD_CNTm 6) 31 0)

/-- Learning of a frame's source on its ingress port (R212, R213): `false` when the frame is discarded. -/
def State.learn (s : State) (p : Nat) (src : BitVec 48) (vid : Nat) : Bool × State :=
  let clk : BitVec 16 := BitVec.ofNat 16 (s.fld FWD_AGECLK 15 0)
  if !s.bit (FWD_BRPORTp p) 31 || src.getLsbD 40 then (true, s)
  else match s.brFind src vid with
  | some (i, e) =>
    if e.port = p then (true, s.setBr i (some { e with stamp := clk }))
    else if e.static then (true, s.bump (FWD_CNTm 12) 31 0)
    else
      let n := { e with port := p, stamp := clk }
      (true, ((s.setBr i (some n)).chgEnt 2 e.port n i).bump (FWD_CNTm 5) 31 0)
  | none =>
    if s.fld (FWD_BRPORTp p) 14 0 ≤ s.fld (FWD_BRPCNTp p) 14 0 then
      let s := (s.setBit FWD_STAT 1 true).rated 0x75 recLEARN_LIMIT p 0 (word p) 0 true
      if s.bit (FWD_BRPORTp p) 30 then (true, s.bump (FWD_CNTm 9) 31 0) else (false, s.bump (FWD_CNTm 8) 31 0)
    else
      let r := s.brInsert ⟨src, vid, p, false, clk⟩ 1 false
      (true, if r.1.isSome then r.2.bump (FWD_CNTm 4) 31 0 else r.2)

/-- The frame port of a bridge port; MESH is the router side. -/
def brDest (p : Nat) : Dest := if p = 0 then .port 72 else if p = 1 then .port 73 else if p = 2 then .port 75 else .router

/-- A frame sent to bridge ports, those bound for ETH0, ETH1 and MESH dropped where R218 drops them. -/
def State.bridgeTo (s : State) (ps : List Nat) : State :=
  if !s.sbyDrop then s.goes (ps.map brDest)
  else (s.count (FWD_CNTm 11) 31 0 (ps.filter (· != 2)).length).goes ((ps.filter (· == 2)).map brDest)

/-- BRIDGE_FORWARD (R211–R213): a frame from bridge port p, its source learned when its FCS is correct. -/
def execBridgeForward (p : Fin 4) (dst src : BitVec 48) (vid : Fin 4096) (fcs : Bool) (s : State) :
    Host.Outcome State Fault Refusal :=
  .next (if !s.isOn 7 || !s.bit FWD_CTL 1 || s.mode == 7 then s else
    let r := if fcs then s.learn p src vid else (true, s)
    let s := r.2
    if !r.1 then s.goes []
    else
      let flood := (List.range 4).filter fun q => q != p.val && s.bit FWD_BRCFG q
      if dst.getLsbD 40 then s.bridgeTo flood
      else match s.brFind dst vid with
      | none => s.bridgeTo flood
      | some (_, e) => if e.port = p.val then (s.bump (FWD_CNTm 14) 31 0).goes [] else s.bridgeTo [e.port])

/-- AGER_VISIT (R214): the ager visits a bucket. -/
def execAgerVisit (b : Fin 4096) (s : State) : Host.Outcome State Fault Refusal :=
  .next (if !s.isOn 7 then s else
    (List.range 4).foldl (fun (s : State) w =>
      let i := 4 * b.val + w
      match s.brEnt i with
      | none => s
      | some e =>
        if e.static then s
        else if s.brAge e < 0 then
          (s.setBr i (some { e with stamp := BitVec.ofNat 16 (s.fld FWD_AGECLK 15 0) })).bump (FWD_CNTm 13) 31 0
        else if (s.fld FWD_BRCFG 31 17 : Int) ≤ s.brAge e then
          ((s.setBr i none).chgEnt 4 0 e i).bump (FWD_CNTm 7) 31 0
        else s) s)

/-- A bridge command completes (R215): FWD_BRSTAT and event 0x75 : 0x02. -/
def State.brDone (s : State) (status idx : Nat) : State := (s.wr FWD_BRSTAT (word (idx * 2 ^ 16 + status))).raise 0x75 0x02

/-- A bridge command, BUSY while the region initialises (R202). -/
def State.brCmd (s : State) (f : State → State) : State :=
  if !s.isOn 7 then s else if s.fwdInit then s.brDone stBUSY 0 else f s

/-- The key of FWD_BRKEY. -/
def State.brKey (s : State) : BitVec 48 × Nat :=
  (BitVec.ofNat 48 (s.fld FWD_BRKEY_HI 15 0 * 2 ^ 32 + (s.rd FWD_BRKEY_LO).toNat), s.fld FWD_BRKEY_HI 27 16)

/-- An entry shown in FWD_BRDATA. -/
def State.showEnt (s : State) (e : BrEnt) : State :=
  s.wr FWD_BRDATA (word (2 ^ 31 + b2n e.static * 2 ^ 30 + e.port * 2 ^ 16 + e.stamp.toNat))

/-- LOOKUP (R215). -/
def State.brLookup (s : State) : State := s.brCmd fun s => match s.brFind s.brKey.1 s.brKey.2 with
  | some (i, e) => (s.showEnt e).brDone stOK i
  | none => (s.wr FWD_BRDATA 0).brDone stNOTREADY 0

/-- WRITE (R215): bypasses the learn limit. -/
def State.brWrite (s : State) (noj : Bool) : State := s.brCmd fun s =>
  let k := s.brKey
  let e : BrEnt := ⟨k.1, k.2, s.fld FWD_BRDATA 17 16, s.bit FWD_BRDATA 30, BitVec.ofNat 16 (s.fld FWD_BRDATA 15 0)⟩
  match s.brFind k.1 k.2 with
  | some (i, o) =>
    let s := s.setBr i (some e)
    (if noj then s else s.chgEnt 7 o.port e i).brDone stOK i
  | none => match s.brInsert e 7 noj with
    | (some i, s) => s.brDone stOK i
    | (none, s) => s.brDone stFULL 0

/-- DELETE (R215). -/
def State.brDelete (s : State) (noj : Bool) : State := s.brCmd fun s => match s.brFind s.brKey.1 s.brKey.2 with
  | some (i, e) =>
    let s := s.setBr i none
    (if noj then s else s.chgEnt 5 0 e i).brDone stOK i
  | none => s.brDone stNOTREADY 0

/-- FLUSH (R215): every non-static entry of a port removed, with one FLUSH record. -/
def State.brFlush (s : State) (noj : Bool) (p : Nat) : State := s.brCmd fun s =>
  let s := if s.mode == 9 then s.replayOutput
    else (s.modFwd fun f => { f with br := f.br.filter fun e => match e.2 with
      | some b => b.static || b.port != p
      | none => true }).showBr
  (if noj then s else s.chgRecord 6 0 0 p 0 0 false 0).brDone stOK 0

/-- READIDX (R215). -/
def State.brReadidx (s : State) (i : Nat) : State := s.brCmd fun s => match s.brEnt i with
  | some e =>
    let s := (s.wr FWD_BRKEY_LO (word e.mac.toNat)).wr FWD_BRKEY_HI (word (e.vid * 2 ^ 16 + e.mac.toNat / 2 ^ 32))
    (s.showEnt e).brDone stOK i
  | none => (s.wr FWD_BRDATA 0).brDone stNOTREADY i

/-- BR_LOOKUP (R215). -/
def execBrLookup (s : State) : Host.Outcome State Fault Refusal := .next s.brLookup

/-- BR_WRITE (R215). -/
def execBrWrite (noj : Bool) (s : State) : Host.Outcome State Fault Refusal := .next (s.brWrite noj)

/-- BR_DELETE (R215). -/
def execBrDelete (noj : Bool) (s : State) : Host.Outcome State Fault Refusal := .next (s.brDelete noj)

/-- BR_FLUSH (R215). -/
def execBrFlush (noj : Bool) (p : Fin 4) (s : State) : Host.Outcome State Fault Refusal := .next (s.brFlush noj p)

/-- READIDX (R215). -/
def execReadidx (i : Fin 16384) (s : State) : Host.Outcome State Fault Refusal := .next (s.brReadidx i)

/-- A write of FWD_BRCMD (Table 08-7). -/
def State.writeBrcmd (s : State) (v : Word) : State :=
  let noj := bitAt v 24
  match bits v 31 28 with
  | 1 => s.brLookup
  | 2 => s.brWrite noj
  | 3 => s.brDelete noj
  | 4 => s.brFlush noj (bits v 17 16)
  | 5 => s.brReadidx (bits v 13 0)
  | _ => s.brCmd fun s => s.brDone stRANGE 0

/-! ### Power and reset (R214, R218) -/

/-- One TIME-clock tick of the ageing second (R214). -/
def State.ageTick (s : State) : State :=
  if !s.isOn 7 then s
  else if s.fwd.ticks + 1 < 250000000 then s.modFwd fun f => { f with ticks := f.ticks + 1 }
  else (s.modFwd fun f => { f with ticks := 0 }).wr FWD_AGECLK (word ((s.fld FWD_AGECLK 15 0 + 1) % 65536))

/-- PKT enters RET: the RTC time is kept for the exit. -/
def State.fwdRet (s : State) : State := s.modFwd fun f => { f with retAt := s.elapsed }

/-- PKT leaves RET: AGECLK advances by the whole RTC seconds spent in it. -/
def State.fwdFromRet (s : State) : State :=
  s.wr FWD_AGECLK (word ((s.fld FWD_AGECLK 15 0 + (s.elapsed - s.fwd.retAt) / 65536) % 65536))

/-- A forced entry at VIN loss: a prefix command whose switch edge has not passed is undone and completes PREEMPTED. -/
def State.fwdForced (s : State) : State :=
  match s.fwd.cmd with
  | none => s
  | some c => (s.modFwd fun f => { f with
      cmd := some { c with status := pfxStat stPREEMPTED, res := s.rd FWD_PFXRES, shadow := f.shadow, trie := c.undo }
      trie := c.undo }).showTrie

/-- PKT OFF or a reset: the trie and the registers are lost, the bridge table and the journal cleared. -/
def State.fwdReset (s : State) : State :=
  let base := (s.rd FWD_DBASE).toNat
  let s := s.resetBlock 0x400A0000
  let s := s.modFwd fun f => { f with trie := [], br := [], cmd := none, ticks := 0, dest := [] }
  let n (b : Bool) : Nat := ((s.emTab b).filter fun e => e.bucket.isNone).length
  ((s.setBit FWD_STAT 5 true).setFld FWD_EMSTAT 30 24 (max (n false) (n true))).dropMem (base + 0x7C0000) (base + 0x800000)

end Sys2Proof.Machine
end

