-- ==== Sys2Proof/Machine/HostIf.lean ====
section
/-!
DEFINITION. Sys2Proof/Machine/HostIf.lean: the PCI Express link and the DMA rings (R432–R434), the UART (R437), and the
general-purpose I/O (R440, R441). The QSPI target, which reads and writes the whole address map, is in RegWrite.lean.
-/
namespace Sys2Proof.Machine

/-- A change of the HOST state. -/
def State.modHost (s : State) (f : HostSt → HostSt) : State := { s with host := f s.host }

/-! ### The link (R432, R433) -/

/-- PCIE_LINK_CHANGE (R432): the link is down (0) or in L0 (1), L1 (2) or L2 (3), at a speed (1 2.5 GT/s, 2 5.0 GT/s) and with
MSI vectors enabled. -/
def execPcieLinkChange (link speed : Fin 4) (msi : Fin 33) (s : State) : Host.Outcome State Fault Refusal :=
  .next (if !s.isOn 11 then s else
    let up := link == 1 || link == 2
    let v := b2n up * 2 ^ 31 + (if up then speed.val * 2 ^ 29 else 0) + b2n (link == 2) * 2 ^ 28 + msi.val
    (s.wr HOST_LINK (word v)).modHost fun h => { h with link := link.val })

/-- Is an enabled interrupt pending (R433)? It is delivered on MSI, INTA or QST_IRQ_N. -/
def State.hostIrqOut (s : State) : Bool := s.rd HOST_IRQSTAT &&& s.rd HOST_IRQEN != 0

/-- WAKE_N is driven low (R432). -/
def State.wakeN (s : State) : Bool := s.hostIrqOut && s.host.link == 3

/-- PERST (R432): PERST_N resets the endpoint, the rings and HOST_IRQSTAT. A ring transfer is one command here, so one that it
cuts has not begun: its descriptor is where it was. -/
def execPerst (s : State) : Host.Outcome State Fault Refusal :=
  .next (if !s.isOn 11 then s else
    let s := (s.wr HOST_LINK 0).modHost fun h => { h with link := 0 }
    (s.resetRange 0x40100100 0x40100200).wr HOST_IRQSTAT 0)

/-! ### Rings (R434) -/

/-- The entries of ring k. -/
def State.ringSize (s : State) (k : Nat) : Nat := 2 ^ s.fld (HOST_RINGk_CTL k) 27 24

/-- The entries posted and not completed. -/
def State.ringPosted (s : State) (k : Nat) : Nat :=
  let n := s.ringSize k
  (s.fld (HOST_RINGk_TAIL k) 11 0 % n + n - s.fld (HOST_RINGk_HEAD k) 11 0 % n) % n

/-- A write of ring k's TAIL: posts buffers; beyond HEAD − 1, modulo the size, it stops the ring and sets OVR. -/
def State.ringTail (s : State) (k : Nat) (v : Word) : State :=
  let n := s.ringSize k
  let t := bits v 11 0
  let old := s.fld (HOST_RINGk_TAIL k) 11 0 % n
  let room := (s.fld (HOST_RINGk_HEAD k) 11 0 % n + n - 1 + n - old) % n
  let bad := decide (n ≤ t) || decide (room < (t + n - old) % n)
  let s := s.wr (HOST_RINGk_TAIL k) (word t)
  if bad then s.setBit (HOST_RINGk_STAT k) 31 true else s

/-- RING_TAIL_WRITE (R434). -/
def execRingTailWrite (k : Fin 8) (v : Word) (s : State) : Host.Outcome State Fault Refusal :=
  .next (if s.isOn 11 then s.ringTail k v else s)

/-- Does ring k run, with an entry posted? -/
def State.ringReady (s : State) (k : Nat) : Bool :=
  s.isOn 11 && s.isOn 7 && s.bit HOST_LINK 31 && s.bit (HOST_RINGk_CTL k) 31 && !s.bit (HOST_RINGk_STAT k) 31
    && decide (0 < s.ringPosted k)

/-- An entry completed: what is written into it, HEAD advanced, FRAMES, and the ring's interrupt (R433). -/
def State.ringDone (s : State) (k : Nat) (trunc err : Bool) (len index : Nat) : State :=
  let h := s.fld (HOST_RINGk_HEAD k) 11 0
  let s := s.modHost fun x => { x with entry := some ⟨k, h, trunc, err, len, index⟩ }
  let s := s.wr (HOST_RINGk_HEAD k) (word ((h + 1) % s.ringSize k))
  let s := if err then s.setBit (HOST_RINGk_STAT k) 30 true else s
  (s.bump (HOST_RINGk_STAT k) 15 0).hostIrq (8 + k)

/-- RING_DEVICE_TO_HOST (R434): ring k, 0–3, copies the head frame of DQ, `len` octets long, into the posted buffer of `size`
octets. `err`: a PCI Express error in the copy. Without a credit in FREEQ the descriptor waits. -/
def execRingDeviceToHost (k : Fin 4) (size len : Fin 65536) (err upset : Bool) (s : State) : Host.Outcome State Fault Refusal :=
  .next (
    let dq := s.fld (HOST_RINGk_CTL k) 7 0
    let fq := s.fld (HOST_RINGk_CTL k) 15 8
    if !s.ringReady k || !(s.dqRoom fq || dq == fq) then s else
    match s.dqPop dq upset with
    | (none, s) => s
    | (some (i, _), s) => (s.dqPush fq i).ringDone k (decide (size < len)) err (min size.val len.val) i)

/-- RING_HOST_TO_DEVICE (R434): ring k, 4–7, copies the posted buffer into a frame buffer of FREEQ, which goes to DQ; one that
meets a PCI Express error goes back to FREEQ. -/
def execRingHostToDevice (k : Fin 4) (len : Fin 65536) (err upset : Bool) (s : State) : Host.Outcome State Fault Refusal :=
  .next (
    let r := 4 + k.val
    let dq := s.fld (HOST_RINGk_CTL r) 7 0
    let fq := s.fld (HOST_RINGk_CTL r) 15 8
    if !s.ringReady r || !(err || s.dqRoom dq || dq == fq) then s else
    match s.dqPop fq upset with
    | (none, s) => s
    | (some (i, _), s) => (s.dqPush (if err then fq else dq) i).ringDone r false err len.val i)

/-- A write of HOST_RINGk_CTL: LOG2SIZE is held to 4–12. -/
def State.writeRingCtl (s : State) (k : Nat) (v : Word) : State :=
  let v := putBits v 27 24 (max 4 (min 12 (bits v 27 24)))
  s.wr (HOST_RINGk_CTL k) (v &&& 0x8F00FFFF)

/-! ### The UART (R437) -/

/-- The time of a byte on the line, ns: ten bits of DIV cycles of 2 ns. -/
def State.uartNs (s : State) : Nat := 20 * s.fld HOST_UART_CTL 19 0

/-- HOST_UART_DATA as it reads, without a pop. -/
def State.uartWord (s : State) : Word :=
  word (b2n s.host.uartRx.isEmpty * 2 ^ 31 + b2n (s.bit HOST_UART_DATA 30) * 2 ^ 30 + b2n (s.host.uartTx.length == 16) * 2 ^ 29
    + ((s.host.uartRx.head?).getD 0).toNat)

/-- A byte into the transmit FIFO; ignored when it is full. -/
def State.uartPush (s : State) (b : Byte) : State :=
  if s.host.uartTx.length = 16 then s
  else s.modHost fun h => { h with
    uartTx := h.uartTx ++ [b], txDone := if h.uartTx = [] then s.clock + s.uartNs else h.txDone }

/-- A read of HOST_UART_DATA pops a received byte and clears OVR. -/
def State.uartPop (s : State) : State :=
  let w := s.uartWord
  let s := (s.setBit HOST_UART_DATA 30 false).modHost fun h => { h with uartRx := h.uartRx.tail }
  { s with bus := w }

/-- The transmit FIFO as the clock moves: a byte that has left the line. -/
def State.uartTick (s : State) : State :=
  match s.host.uartTx with
  | [] => s
  | b :: t =>
    if s.isOn 11 && s.bit HOST_UART_CTL 31 && decide (s.host.txDone ≤ s.clock) then
      s.modHost fun h => { h with uartTx := t, uartOut := some b, txDone := s.clock + s.uartNs }
    else s

/-- UART_RX_BYTE (R437): a byte received; into a full FIFO it is lost and sets OVR. -/
def execUartRxByte (b : Byte) (s : State) : Host.Outcome State Fault Refusal :=
  .next (if !s.isOn 11 || !s.bit HOST_UART_CTL 31 then s
    else if s.host.uartRx.length = 16 then s.setBit HOST_UART_DATA 30 true
    else s.modHost fun h => { h with uartRx := h.uartRx ++ [b] })

/-- UART_TX_PUSH (R437). -/
def execUartTxPush (b : Byte) (s : State) : Host.Outcome State Fault Refusal := .next (if s.isOn 11 then s.uartPush b else s)

/-- UART_RX_POP (R437). -/
def execUartRxPop (s : State) : Host.Outcome State Fault Refusal := .next (if s.isOn 11 then s.uartPop else { s with bus := 0 })

/-- A write of HOST_UART_CTL: DIV is held to 167 and above. -/
def State.writeUartCtl (s : State) (v : Word) : State := s.wr HOST_UART_CTL (putBits (v &&& 0x800FFFFF) 19 0 (max 167 (bits v 19 0)))

/-! ### GPIO (R440, R441) -/

/-- The kind of edge chosen for pin n: 0 none, 1 rising, 2 falling, 3 both. -/
def State.edgeKind (s : State) (n : Nat) : Nat := s.fld GPIO_EDGE (2 * n + 1) (2 * n)

/-- The level of GPIO pin n (R440): held for the filter time or not; an edge that its kind selects sets STAT and is raised. -/
def State.gpioEdge (s : State) (n : Fin 16) (level held : Bool) : State :=
  if !s.isOn 11 || s.bit GPIO_IN n == level then s
  else if !held then s.bump GPIO_STAT 31 16
  else
    let s := s.setBit GPIO_IN n level
    if s.edgeKind n == 3 || s.edgeKind n == (if level then 1 else 2) then
      (s.setBit GPIO_STAT n true).raise 0xB1 (0x01 + n.val)
    else s

/-- GPIO_EDGE (R440): the level of pin n changes; `held` says that it holds for FILT µs, else it is a glitch. -/
def execGpioEdge (n : Fin 16) (level held : Bool) (s : State) : Host.Outcome State Fault Refusal :=
  .next (s.gpioEdge n level held)

/-- The pads as GPIO drives them: DIR in [31:16], OUT in [15:0]. While held, the held state. -/
def State.gpioPads (s : State) : Word :=
  if s.bit GPIO_CTL 31 then s.rd GPIO_HELDOUT else word (s.fld GPIO_DIR 15 0 * 65536 + s.fld GPIO_OUT 15 0)

/-- PD11 leaves ON: the pads hold their state (R441). -/
def State.gpioHold (s : State) : State := (s.wr GPIO_HELDOUT s.gpioPads).setBit GPIO_CTL 31 true

/-- A write of GPIO_CTL: RELEASE ends the hold (R441). -/
def State.gpioRelease (s : State) (v : Word) : State := if bitAt v 0 then s.setBit GPIO_CTL 31 false else s

/-- GPIO_RELEASE (R441). -/
def execGpioRelease (s : State) : Host.Outcome State Fault Refusal := .next (if s.isOn 11 then s.gpioRelease 1 else s)

/-- HOST and GPIO after OFF or a reset: their registers, but for the pad latches and the pins sampled in AON. -/
def State.hostReset (s : State) : State :=
  let ctl := s.rd GPIO_CTL
  let held := s.rd GPIO_HELDOUT
  let pin := s.rd GPIO_SYSPIN
  let s := (s.resetBlock 0x40100000).resetBlock 0x40170000
  let s := ((s.wr GPIO_CTL ctl).wr GPIO_HELDOUT held).wr GPIO_SYSPIN pin
  s.modHost fun h => { h with link := 0, uartTx := [], uartRx := [], uartOut := none, entry := none }

end Sys2Proof.Machine
end

