-- ==== Sys2Proof/Machine/Gnss.lean ====
section
/-!
DEFINITION. Sys2Proof/Machine/Gnss.lean: the GNSS reference receiver (11): antenna supply, channels and acquisition,
tracking, measurement epochs and navigation messages with their rings, integrity, and the reference coordinate.
-/
namespace Sys2Proof.Machine

/-- A change of the receiver's own state. -/
def State.modGnss (s : State) (f : GnssSt → GnssSt) : State := { s with gnss := f s.gnss }

/-- A channel after reset. -/
def idleCh (_ : Nat) : GnssCh := ⟨0, false, 0, false, false, false, false⟩

/-- Channel n. -/
def State.gch (s : State) (n : Nat) : GnssCh := tabGet idleCh s.gnss.ch n

/-- Channel n replaced. -/
def State.putGch (s : State) (n : Nat) (x : GnssCh) : State := s.modGnss fun g => { g with ch := tabSet idleCh g.ch n x }

/-- STATE of channel n: 0 IDLE, 1 QUEUED, 2 ACQ, 3 PULLIN, 4 TRACK, 5 LOST. -/
def State.gst (s : State) (n : Nat) : Nat := s.fld (GNSS_CHn_STAT n) 31 29

/-- SIG of channel n. -/
def State.gsig (s : State) (n : Nat) : Nat := s.fld (GNSS_CHn_CFG n) 27 25

/-- PRN of channel n. -/
def State.gprn (s : State) (n : Nat) : Nat := s.fld (GNSS_CHn_CFG n) 24 19

/-- GNSS_FREE and GNSS_ACQ brought to the channels. -/
def State.showGnss (s : State) : State :=
  let idle := (List.range 72).filter fun n => s.gst n == 0
  let s := s.wr GNSS_FREE (word (b2n idle.isEmpty * 2 ^ 31 + idle.length * 2 ^ 16 + idle.headD 0))
  s.wr GNSS_ACQ (word (s.gnss.queue.length * 2 ^ 24 + s.gnss.search.getD 0x7F * 2 ^ 16))

/-- STATE of channel n set; TOWOK and PHLOCK clear on entry to LOST (R272). -/
def State.setGst (s : State) (n st : Nat) : State :=
  let s := s.setFld (GNSS_CHn_STAT n) 31 29 st
  let s := if st = 4 then s else s.setBit (GNSS_CHn_STAT n) 19 false
  if st = 5 then s.setBit (GNSS_CHn_STAT n) 18 false else s

/-! ### Antenna supply (R268) -/

/-- STATE and IMA of GNSS_ANT. -/
def State.setAnt (s : State) (st ma : Nat) : State := (s.setFld GNSS_ANT 18 16 st).setFld GNSS_ANT 31 20 ma

/-- An entry to OPEN or SHORT. -/
def State.antFault (s : State) (st ma : Nat) : State :=
  let s := (s.setBit GNSS_STAT 4 true).raise 0x60 0x01
  s.rated 0x60 recANT_FAULT 0 (word st) (word ma) 0 false

/-- A write of GNSS_ANT: a RETRY of 0 is written as 1; EN switches the supply. -/
def State.writeAnt (s : State) (v : Word) : State :=
  let on := s.bit GNSS_ANT 0
  let r := if bits v 15 8 = 0 then 1 else bits v 15 8
  let s := ((s.setFld GNSS_ANT 15 8 r).setFld GNSS_ANT 4 0 (bits v 4 0))
  if bitAt v 0 then (if on then s else s.setFld GNSS_ANT 18 16 1) else s.setAnt 0 0

/-- ANT_ENABLE (R268): a write of GNSS_ANT. -/
def execAntEnable (v : Word) (s : State) : Host.Outcome State Fault Refusal := .next (if s.isOn 6 then s.writeAnt v else s)

/-- STATE of the antenna supply. -/
def State.antSt (s : State) : Nat := s.fld GNSS_ANT 18 16

/-- ANT_OPEN (R268): the current has been below 3 mA for 100 ms; `ma` the current. -/
def execAntOpen (ma : Fin 4096) (s : State) : Host.Outcome State Fault Refusal :=
  .next (if s.isOn 6 ∧ s.antSt = 1 then (s.setAnt 2 ma).antFault 2 ma else s)

/-- ANT_RECOVER (R268): the current has been at or above 3 mA for 100 ms. -/
def execAntRecover (ma : Fin 4096) (s : State) : Host.Outcome State Fault Refusal :=
  .next (if s.isOn 6 ∧ s.antSt = 2 then s.setAnt 1 ma else s)

/-- ANT_SHORT (R268): the current has been at the limit for 1 ms; the supply is switched off. -/
def execAntShort (ma : Fin 4096) (s : State) : Host.Outcome State Fault Refusal :=
  .next (if s.isOn 6 ∧ (s.antSt = 1 ∨ s.antSt = 2) then (s.setAnt 3 0).antFault 3 ma else s)

/-- ANT_RETRY (R268): RETRY seconds have passed in SHORT. -/
def execAntRetry (s : State) : Host.Outcome State Fault Refusal :=
  .next (if s.isOn 6 ∧ s.antSt = 3 then s.setFld GNSS_ANT 18 16 1 else s)

/-! ### Channel commands (R269, R270) -/

/-- The satellites of a signal (Table 11-1). -/
def prnMax (sig : Nat) : Nat := if sig ≤ 1 then 32 else if sig ≤ 3 then 36 else 63

/-- LASTST of channel n. -/
def State.gnssDone (s : State) (n status : Nat) : State := (s.setFld (GNSS_CHn_STAT n) 15 8 status).showGnss

/-- A command refused FULL. -/
def State.acqFull (s : State) (n : Nat) : State := ((s.setBit GNSS_STAT 3 true).bump GNSS_CNT 7 0).gnssDone n stFULL

/-- The fields of GNSS_CHn_CFG that any write sets, SP, PLLBW and DLLBW at the nearer limit. -/
def State.setLoops (s : State) (n : Nat) (v : Word) : State :=
  let a := GNSS_CHn_CFG n
  let s := s.setFld a 18 12 (max 3 (min 64 (bits v 18 12)))
  let s := s.setFld a 11 8 (max 1 (min 12 (bits v 11 8)))
  (s.setFld a 7 4 (max 1 (bits v 7 4))).setBit a 3 (bitAt v 3)

/-- A search queued. -/
def State.enqueueSearch (s : State) (n : Nat) (aided : Bool) : State :=
  ((s.modGnss fun g => { g with queue := g.queue ++ [n] }).setGst n 1).putGch n { s.gch n with aided := aided }

/-- The channel that tracks the L1-band signal of a satellite, for a hand-over to its L5-band signal (R270). -/
def State.handover (s : State) (sig prn : Nat) : Option Nat :=
  if sig % 2 = 0 then none
  else (List.range 72).find? fun m => s.gst m == 4 && s.gsig m == sig - 1 && s.gprn m == prn

/-- ASSIGN (R269, R270) with the value written. -/
def State.assign (s : State) (n : Nat) (v : Word) : State :=
  let sig := bits v 27 25
  let prn := bits v 24 19
  if s.gst n ≠ 0 then s.gnssDone n stBUSY
  else if (List.range 72).any fun m => m != n && s.gst m != 0 && s.gsig m == sig && s.gprn m == prn then
    s.gnssDone n stALREADY
  else if 5 < sig ∨ prn = 0 ∨ prnMax sig < prn then s.gnssDone n stRANGE
  else
    let take (s : State) : State :=
      let s := (s.setLoops n v).setFld (GNSS_CHn_CFG n) 27 19 (bits v 27 19)
      (s.setFld (GNSS_CHn_STAT n) 7 0 0).putGch n (idleCh n)
    match s.handover sig prn with
    | some m =>
      let d := roundDiv ((s.gch m).dop * 115) 154
      let s := take s
      ((s.putGch n { s.gch n with dop := d }).setGst n 3).gnssDone n stOK
    | none =>
      if 16 ≤ s.gnss.queue.length then s.acqFull n
      else ((take s).enqueueSearch n false).gnssDone n stOK

/-- A channel taken out of the acquisition queue and engine. -/
def State.withdrawCh (s : State) (n : Nat) : State :=
  s.modGnss fun g => { g with queue := g.queue.filter (· != n), search := if g.search = some n then none else g.search }

/-- RELEASE (R269). -/
def State.release (s : State) (n : Nat) (v : Word) : State :=
  let s := ((s.setLoops n v).withdrawCh n).wr (GNSS_CHn_STAT n) 0
  (s.putGch n (idleCh n)).gnssDone n stOK

/-- REACQ (R269): from TRACK, PULLIN or LOST; NOTREADY from the other states. -/
def State.reacq (s : State) (n : Nat) (v : Word) : State :=
  if s.gst n < 3 then s.gnssDone n stNOTREADY
  else if 16 ≤ s.gnss.queue.length then s.acqFull n
  else ((s.setLoops n v).enqueueSearch n true).gnssDone n stOK

/-- A write of GNSS_CHn_CFG (Table 11-13). -/
def State.writeChCfg (s : State) (n : Nat) (v : Word) : State :=
  match bits v 31 28 with
  | 1 => s.assign n v
  | 2 => s.release n v
  | 3 => s.reacq n v
  | _ => s.gnssDone n stRANGE

/-- ASSIGN (R269): the value written, CMD aside. -/
def execAssign (n : Fin 72) (v : BitVec 28) (s : State) : Host.Outcome State Fault Refusal :=
  .next (if s.isOn 6 then s.assign n (v.zeroExtend 32) else s)

/-- RELEASE (R269). -/
def execRelease (n : Fin 72) (v : BitVec 28) (s : State) : Host.Outcome State Fault Refusal :=
  .next (if s.isOn 6 then s.release n (v.zeroExtend 32) else s)

/-- REACQ (R269). -/
def execReacq (n : Fin 72) (v : BitVec 28) (s : State) : Host.Outcome State Fault Refusal :=
  .next (if s.isOn 6 then s.reacq n (v.zeroExtend 32) else s)

/-! ### Search and tracking (R270–R272) -/

/-- Does the baseband run? -/
def State.gnssRuns (s : State) : Bool := s.isOn 6 && s.bit GNSS_CTL 0

/-- SEARCH_START (R270): the engine takes the next search of the queue. -/
def execSearchStart (s : State) : Host.Outcome State Fault Refusal :=
  .next (match s.gnssRuns, s.gnss.search, s.gnss.queue with
    | true, none, n :: t => ((s.modGnss fun g => { g with queue := t, search := some n }).setGst n 2).showGnss
    | _, _, _ => s)

/-- SEARCH_DONE (R270): the search ends; a success moves the channel to PULLIN with the Doppler found, a failure to LOST. -/
def execSearchDone (ok : Bool) (dop : Int) (s : State) : Host.Outcome State Fault Refusal :=
  .next (match s.gnssRuns, s.gnss.search with
    | true, some n =>
      let s := s.modGnss fun g => { g with search := none }
      (if ok then (s.setGst n 3).putGch n { s.gch n with dop := dop } else (s.setGst n 5).raise 0x61 0x02).showGnss
    | _, _ => s)

/-- TRACK_ENTRY (R271): PLL lock has held for 200 ms; HALF is set on a data component. -/
def execTrackEntry (n : Fin 72) (s : State) : Host.Outcome State Fault Refusal :=
  .next (if s.gnssRuns ∧ s.gst n = 3 then
      let s := ((s.setGst n 4).setBit (GNSS_CHn_STAT n) 19 true).setBit (GNSS_CHn_STAT n) 17 (s.gsig n == 0)
      s.putGch n { s.gch n with lockAt := s.clock }
    else s)

/-- PULLIN_TIMEOUT (R271): not in TRACK within 2 s. -/
def execPullinTimeout (n : Fin 72) (s : State) : Host.Outcome State Fault Refusal :=
  .next (if s.gnssRuns ∧ s.gst n = 3 then s.setGst n 5 else s)

/-- LOSS_OF_LOCK (R271): C/N0 below 25 dB-Hz for 500 ms; the channel is LOST, and queued for an aided search when the queue
has room. -/
def execLossOfLock (n : Fin 72) (s : State) : Host.Outcome State Fault Refusal :=
  .next (if !s.gnssRuns || s.gst n != 4 then s else
    let s := (s.setGst n 5).raise 0x61 0x01
    (if s.gnss.queue.length < 16 then s.enqueueSearch n true else s).showGnss)

/-- CYCLE_SLIP (R271): LOCK restarts, SLIPS counts, HALF is set again on a data component. -/
def execCycleSlip (n : Fin 72) (s : State) : Host.Outcome State Fault Refusal :=
  .next (if !s.gnssRuns || s.gst n != 4 then s else
    let s := (s.bump (GNSS_CHn_STAT n) 7 0).setBit GNSS_STAT 6 true
    let s := if s.gsig n = 0 then s.setBit (GNSS_CHn_STAT n) 17 true else s
    s.putGch n { s.gch n with lockAt := s.clock, slip := true })

/-- BIT_SYNCHRONISATION (R271): the coherent interval of a data component becomes 20 ms. -/
def execBitSynchronisation (n : Fin 72) (s : State) : Host.Outcome State Fault Refusal :=
  .next (if s.gnssRuns ∧ 3 ≤ s.gst n ∧ s.gst n ≤ 4 ∧ s.gsig n = 0 then s.putGch n { s.gch n with coh20 := true } else s)

/-- A write of GNSS_CHn_TXT (R272). -/
def State.writeTxt (s : State) (n : Nat) (v : Word) : State :=
  ((s.wr (GNSS_CHn_TXT n) (word (bits v 29 0))).setBit (GNSS_CHn_STAT n) 18 true).putGch n { s.gch n with byTxt := true }

/-- TXT_WRITE (R272). -/
def execTxtWrite (n : Fin 72) (v : Word) (s : State) : Host.Outcome State Fault Refusal :=
  .next (if s.isOn 6 then s.writeTxt n v else s)

/-! ### Measurement epochs (R273, R274) -/

/-- Epochs per second (R273). -/
def State.epochRate (s : State) : Nat :=
  match s.fld GNSS_CTL 7 4 with
  | 1 => 2 | 2 => 4 | 3 => 5 | 4 => 10 | 5 => 20
  | _ => 1

/-- Seven words followed by a word with the CRC-16 over their bytes (Tables 11-4, 11-5). -/
def withCrc (ws : List Word) : List Word := ws ++ [word (crc16 (ws.flatMap fun w => leOctets w.toNat 4))]

/-- Is channel n excluded? -/
def State.excluded (s : State) (n : Nat) : Bool := s.bit (GNSS_EXCLk (n / 32)) (n % 32)

/-- The antenna and cable delay as a range in 2⁻¹⁶ m. -/
def State.cableRange (s : State) : Int :=
  roundDiv ((BitVec.ofNat 16 (s.fld GNSS_CABLE 15 0)).toInt * (299792458 * 65536)) 10000000000

/-- The record of a channel in TRACK (Table 11-5). -/
def State.measRecord (s : State) (m : GnssMeas) : List Word :=
  let n := m.ch.val
  let x := s.gch n
  let st := s.rd (GNSS_CHn_STAT n)
  let pv := bitAt st 18 && m.inWindow && !s.upd.gnssPause
  let ph := bitAt st 19 && !s.upd.gnssPause
  let flags := b2n pv * 128 + b2n ph * 64 + b2n (bitAt st 17) * 32 + b2n x.slip * 16 + b2n (s.excluded n) * 8
    + b2n (s.bit GNSS_INTEG 31) * 4 + b2n x.navok * 2 + b2n (s.gsig n != 0)
  let pr := if pv then (((m.range : Int) - s.cableRange) % 2 ^ 48).toNat else 0
  let adr := if ph then (m.phase % 2 ^ 48).toNat else 0
  let lock := min ((s.clock - x.lockAt) / 1000000) 16777215
  withCrc [word (s.gsig n * 2 ^ 29 + s.gprn n * 2 ^ 23 + n * 2 ^ 16 + m.cn0.toNat * 2 ^ 8 + flags), word (pr / 65536),
    word (pr % 65536 * 65536 + adr / 2 ^ 32), word adr, iword m.doppler, word (lock * 256 + bits st 7 0), 0]

/-- The header of an epoch (Table 11-4). -/
def State.epochHeader (s : State) (nrec rangeErr : Nat) (t : Nat) : List Word :=
  let flags := b2n (s.bit GNSS_REFSTAT 31) * 8 + b2n (s.mode == 6) * 4 + b2n s.upd.gnssPause * 2 + b2n (s.bit GNSS_INTEG 31)
  withCrc [word (0x4D45 * 65536 + nrec * 256 + flags), word (t / 2 ^ 32), word t,
    word (s.tqState * 2 ^ 30 + min s.tqErr (2 ^ 30 - 1)), s.rd GNSS_EPOCH, word (rangeErr * 65536), 0]

/-- The epoch instant at or before now: k / RATE seconds, rounded to the nearest grain (R4, R273). -/
def State.epochInstant (s : State) : Nat :=
  let r := s.epochRate
  (roundDiv (s.netNow * r / 2 ^ 32 * 2 ^ 32) r).toNat

/-- MEASUREMENT_EPOCH (R273, R274): the channels in TRACK are measured into the next slot of the ring; an epoch that finds
it full is lost. -/
def execMeasurementEpoch (ms : List GnssMeas) (s : State) : Host.Outcome State Fault Refusal :=
  .next (if !s.gnssRuns || !s.isOn 12 || !s.time.running then s else
    let ms := ((List.finRange 72).filterMap fun n => ms.find? fun m => m.ch == n).filter fun m => s.gst m.ch == 4
    let bad := (ms.filter fun m => s.bit (GNSS_CHn_STAT m.ch) 18 && !m.inWindow).length
    let w := s.fld GNSS_MRPTR 5 0
    let wrote := s.bit GNSS_CTL 1 && (w + 1) % 64 != s.fld GNSS_MRPTR 21 16
    let lost := s.bit GNSS_CTL 1 && !wrote
    let recs := ms.flatMap s.measRecord
    let head := s.epochHeader ms.length bad s.epochInstant
    let s := ms.foldl (fun (s : State) m =>
      (s.setFld (GNSS_CHn_STAT m.ch) 27 20 m.cn0.toNat).putGch m.ch { s.gch m.ch with slip := false }) s
    let s := if wrote then
        let a := (s.rd GNSS_MRBASE).toNat + 4096 * w
        (((s.putWords (a + 32) recs).putWords a head).setFld GNSS_MRPTR 5 0 ((w + 1) % 64)).raise 0x62 0x01
      else s
    let s := if lost then
        ((s.bump GNSS_CNT 31 24).setBit GNSS_STAT 0 true).rated 0x62 recEPOCH_LOST 0 0 (s.rd GNSS_EPOCH) 0 true
      else s
    s.wr GNSS_EPOCH (s.rd GNSS_EPOCH + 1))

/-! ### Navigation messages (R272, R275) -/

/-- KIND of a navigation record (Table 11-7). -/
def navKind (sig sub : Nat) : Nat :=
  match sig with
  | 0 => 0 | 1 => 1 | 2 => 2 | 4 => 3 + sub
  | _ => 6

/-- The time of week of channel n is known by a message; one that replaces a different one of TXT is a TOWERR (R272). -/
def State.setTow (s : State) (n : Nat) (differs : Bool) : State :=
  let x := s.gch n
  let err := differs && x.byTxt && s.bit (GNSS_CHn_STAT n) 18
  let s := if err then s.setBit GNSS_STAT 7 true else s
  (s.setBit (GNSS_CHn_STAT n) 18 true).putGch n { x with byTxt := false, slip := x.slip || err }

/-- NAV_MESSAGE (R272, R275): a message of a channel in TRACK is checked and written to the ring. -/
def execNavMessage (m : NavMsg) (s : State) : Host.Outcome State Fault Refusal :=
  .next (let n := m.ch.val
    let sig := s.gsig n
    if !s.gnssRuns || s.gst n != 4 || sig == 3 then s else
    let s := s.putGch n { s.gch n with navok := m.parok }
    let s := if !m.parok then (s.bump GNSS_CNT 15 8).setBit GNSS_STAT 2 true else
      let s := if sig = 0 then s.setBit (GNSS_CHn_STAT n) 17 false else s
      if !m.tow then s else
        let s := s.setTow n m.differs
        if sig ≠ 2 then s else (List.range 72).foldl (fun (s : State) k =>
          if s.gst k == 4 && s.gsig k == 3 && s.gprn k == s.gprn n then s.setTow k m.differs else s) s
    if !s.bit GNSS_CTL 2 then s else
    let w := s.fld GNSS_NRPTR 9 0
    if (w + 1) % 1024 = s.fld GNSS_NRPTR 25 16 then (s.bump GNSS_CNT 23 16).setBit GNSS_STAT 1 true else
      let ws := [word (sig * 2 ^ 29 + s.gprn n * 2 ^ 23 + n * 2 ^ 16 + navKind sig m.sub * 2 ^ 8 + b2n m.parok * 128),
        word (m.nbits * 65536 + (if sig = 0 then m.badw.toNat else 0)), m.sec, m.grn]
      let s := s.putWords ((s.rd GNSS_NRBASE).toNat + 96 * w) (ws ++ (m.data ++ List.replicate 20 0).take 20)
      (s.setFld GNSS_NRPTR 9 0 ((w + 1) % 1024)).raise 0x62 0x02)

/-! ### Integrity and the reference coordinate (R277, R278) -/

/-- SPOOF cleared (R277). -/
def State.spoofClear (s : State) : State :=
  if !s.bit GNSS_INTEG 31 then s else
  ((s.setBit GNSS_INTEG 31 false).raise 0x63 0x02).record 0x63 recSPOOF_CLEAR
    (word ((s.clock - s.gnss.spoofAt) / 1000000000)) 0 0

/-- A write of GNSS_INTEG (R277): SPOOF from 0 to 1 raises the fault, with the change, signals and condition that the base
image found; the host cannot clear it by a write. -/
def State.writeInteg (s : State) (a : Agent) (v median agreed cond : Word) : State :=
  let s := s.setBit GNSS_INTEG 30 (bitAt v 30)
  if bitAt v 31 then
    (if s.bit GNSS_INTEG 31 then s else
      let s := ((s.setBit GNSS_INTEG 31 true).setBit GNSS_STAT 5 true).modGnss fun g => { g with spoofAt := s.clock }
      ((s.raise 0x63 0x01).fault 17 0x63 0 0).record 0x63 recSPOOF_SUSPECT median agreed cond)
  else match a with
    | .core _ => s.spoofClear
    | _ => s

/-- SPOOF_WRITE (R277). -/
def execSpoofWrite (a : Agent) (v median agreed cond : Word) (s : State) : Host.Outcome State Fault Refusal :=
  .next (if s.isOn 6 then s.writeInteg a v median agreed cond else s)

/-- The coordinate registers and GNSS_REFSTAT. -/
def refRegs : List Nat := [GNSS_REFX_LO, GNSS_REFX_HI, GNSS_REFY_LO, GNSS_REFY_HI, GNSS_REFZ_LO, GNSS_REFZ_HI, GNSS_REFSTAT]

/-- May the coordinate registers be written (R278)? -/
def State.refOpen (s : State) : Bool := s.mode == 6 || s.mode == 1 || s.mode == 10

/-- A write of GNSS_REFSTAT (R278, R279): FIXED = 1 copies the registers to eMRAM and writes REF_SET, and SURVEY_DONE for a
coordinate of the survey; FIXED = 0 unfixes it, and the survey's time starts again. -/
def State.writeRefstat (s : State) (v : Word) : State :=
  if !s.refOpen then s else
  let s := s.wr GNSS_REFSTAT (v &&& 0xE000FFFF)
  if bitAt v 31 then
    let s := s.modGnss fun g => { g with ref := refRegs.map s.rd }
    let s := s.record 0x63 recREF_SET (word (bits v 30 29)) (word (bits v 15 0)) 0
    if s.mode = 6 ∧ bits v 30 29 = 1 then
      s.record 0x63 recSURVEY_DONE (word ((s.clock - s.gnss.surveyAt) / 60000000000)) (word (bits v 15 0)) 0
    else s
  else s.modGnss fun g => { g with surveyAt := s.clock }

/-- REF_FIX (R278). -/
def execRefFix (v : Word) (s : State) : Host.Outcome State Fault Refusal := .next (if s.isOn 6 then s.writeRefstat v else s)

/-! ### Power and reset (R284) -/

/-- GNSS leaves RET: channels that were in PULLIN or TRACK are queued for an aided search; beyond the queue's 16 they enter
LOST. -/
def State.gnssFromRet (s : State) : State :=
  ((List.range 72).foldl (fun (s : State) n =>
    if s.gst n ≠ 3 ∧ s.gst n ≠ 4 then s
    else if s.gnss.queue.length < 16 then s.enqueueSearch n true else s.setGst n 5) s).showGnss

/-- GNSS out of OFF, or any reset: registers at reset, the coordinate from eMRAM, every channel IDLE. -/
def State.gnssReset (s : State) : State :=
  let s := (s.resetBlock 0x400D0000).modGnss fun g => { g with queue := [], search := none, ch := [] }
  (refRegs.zip s.gnss.ref).foldl (fun (s : State) e => s.wr e.1 e.2) s

end Sys2Proof.Machine
end

