-- ==== Sys2Proof/Machine/Sched.lean ====
section
/-!
DEFINITION. Sys2Proof/Machine/Sched.lean: scheduling, shaping and policing (09): flows and their keys, start-time fair
queuing, shapers, the flow commands, the sweep of PEND.COUNT, and the policers.
-/
namespace Sys2Proof.Machine

/-- A change of SCHED's own state. -/
def State.modSched (s : State) (f : SchedSt → SchedSt) : State := { s with sched := f s.sched }

/-- A FREE flow. -/
def freeFlow (_ : Nat) : Flow :=
  { bound := false, auto := false, frames := [], start := 0, fl := 0, since := 0, woke := none, sent := 0, qfull := 0,
    aged := 0 }

/-- A shaper after reset. -/
def freeShaper (_ : Nat) : Shaper := ⟨0x7D000000, 0, 0⟩

/-- A policer after reset. -/
def freePolicer (_ : Nat) : Policer := ⟨0, 0, 0, 0, 0, 0⟩

/-- Flow f. -/
def State.flow (s : State) (f : Nat) : Flow := tabGet freeFlow s.sched.flow f

/-- Flow f replaced. -/
def State.putFlow (s : State) (f : Nat) (x : Flow) : State :=
  s.modSched fun k => { k with flow := tabSet freeFlow k.flow f x }

/-- STATE of flow f: 0 FREE, 1 IDLE, 2 ACTIVE, 3 ASLEEP. -/
def State.flowState (s : State) (f : Nat) : Nat := s.fld (SCHED_FLOWf_STAT f) 31 30

/-- The egress of flow f. -/
def State.flowEg (s : State) (f : Nat) : Nat := s.fld (SCHED_FLOWf_STAT f) 29 28

/-- Is flow 4,095 SHARED? -/
def State.sharedFlow (s : State) : Bool := s.bit SCHED_FLOWS 0

/-- SCHED_EGe_STAT and SCHED_FLOWS.BOUND brought to the flows. -/
def State.showSched (s : State) : State :=
  let s := s.setFld SCHED_FLOWS 28 16 s.sched.flow.length
  (List.range 4).foldl (fun (s : State) e =>
    let fs := s.sched.flow.filter fun x => s.flowEg x.1 == e && x.2.frames != []
    let n := (fs.map fun x => x.2.frames.length).sum
    s.wr (SCHED_EGe_STAT e) (word (fs.length * 2 ^ 16 + min n 65535))) s

/-- The signed difference of two tags. -/
def tagDiff (a b : Word) : Int := (a - b).toInt

/-- STATE of flow f set, with the instant from which its FL is disregarded. -/
def State.setFlowState (s : State) (f st : Nat) : State :=
  (s.setFld (SCHED_FLOWf_STAT f) 31 30 st).putFlow f { s.flow f with since := s.clock }

/-- Is a flow keyed by an S-node or a D-node, and not shared (R227)? -/
def State.nodeFlow (s : State) (f : Nat) : Bool :=
  let v := s.rd (SCHED_FLOWf_STAT f)
  !bitAt v 19 && s.nodeClass (bits v 16 0) != 0 && !(f == 4095 && s.sharedFlow)

/-- PEND.COUNT of a node-keyed frame's context moved (R223). -/
def State.pendCount (s : State) (word0 : Word) (up : Bool) : State :=
  if bitAt word0 29 then s else
  let i := bits word0 16 0
  let v := s.node i 0x30 2
  let n := v % 32768
  s.setNode i 0x30 2 (v / 32768 * 32768 + if up then min (n + 1) 32767 else n - 1)

/-- In REPLAY a selection or a drop is written to the replay output (R236). -/
def State.schedOut (s : State) : State := if s.mode == 9 then s.replayOutput else s

/-- A flow freed: its binding gone. -/
def State.freeFlow (s : State) (f : Nat) : State :=
  let q := s.fld (SCHED_FLOWf_STAT f) 26 20
  let s := (s.wr (SCHED_FLOWf_STAT f) (word (q * 2 ^ 20))).putFlow f (Machine.freeFlow f)
  if f = 4095 then s.setBit SCHED_FLOWS 0 false else s

/-- A flow without frames after one left it: flow 4,095 when SHARED is freed; a node's flow sleeps; another is IDLE (R222,
R227). -/
def State.emptied (s : State) (f : Nat) : State :=
  if f == 4095 && s.sharedFlow then s.freeFlow f
  else s.setFlowState f (if s.nodeFlow f then 3 else 1)

/-- Frames of flow f dropped by age while its head has waited AGEMAX seconds (R228). -/
def State.dropAged (s : State) (f : Nat) : Nat → State
  | 0 => s
  | n + 1 =>
    let x := s.flow f
    let age := s.fld (SCHED_EGe_TIM (s.flowEg f)) 31 16
    match x.frames with
    | h :: t =>
      if age = 0 ∨ s.clock - h.since < age * 1000000000 then s
      else
        let s := (s.putFlow f { x with frames := t, aged := min (x.aged + 1) 65535 }).schedOut
        (((s.pendCount h.word0 false).bump (SCHED_CNTm 2) 31 0).setBit SCHED_STAT 2 true).dropAged f n
    | [] => s

/-- The frames of flow f that have aged are dropped, and the flow is emptied when none is left. -/
def State.ageFlow (s : State) (f : Nat) : State :=
  let had := (s.flow f).frames != []
  let s := s.dropAged f (s.flow f).frames.length
  if had && (s.flow f).frames == [] && s.flowState f == 2 then s.emptied f else s

/-- A flow's head takes its start tag: V, or FL when it is later and the flow has not been IDLE or ASLEEP for more than 1 s;
the flow is ACTIVE (R225). -/
def State.startFlow (s : State) (f : Nat) : State :=
  let x := s.flow f
  let v := s.rd (SCHED_EGe_VT (s.flowEg f))
  let tag := if 0 < tagDiff x.fl v ∧ s.clock - x.since ≤ 1000000000 then x.fl else v
  (s.putFlow f { x with start := tag }).setFlowState f 2

/-- A flow woken (R227): ACTIVE with frames, IDLE without; WAKEHOLD counts from here. -/
def State.wakeFlow (s : State) (f : Nat) : State :=
  let s := if s.flowState f ≠ 3 then s else
    let s := s.ageFlow f
    if (s.flow f).frames = [] then s.setFlowState f 1 else s.startFlow f
  s.putFlow f { s.flow f with woke := some s.clock }

/-- The flows of a node wake when the MAC gives its pending bit set (R227). -/
def State.wakeNode (s : State) (i : Nat) : State :=
  ((s.sched.flow.map (·.1)).foldl (fun (s : State) f =>
    let v := s.rd (SCHED_FLOWf_STAT f)
    if !bitAt v 19 && bits v 16 0 == i && !(f == 4095 && s.sharedFlow) then s.wakeFlow f else s) s).showSched

/-- A flow bound to a key (scheduler word 0): IDLE, or ASLEEP for an S-node or a D-node (R222, R227). -/
def State.bindFlow (s : State) (f : Nat) (word0 : Word) (auto : Bool) : State :=
  let q := if auto then s.fld SCHED_CTL 7 1 else s.fld (SCHED_FLOWf_STAT f) 26 20
  let s := s.wr (SCHED_FLOWf_STAT f)
    (word (2 ^ 30 + bits word0 31 30 * 2 ^ 28 + q * 2 ^ 20 + bits word0 29 29 * 2 ^ 19 + bits word0 16 0))
  let s := if auto then s.wr (SCHED_FLOWf_CFG f) (word (s.fld SCHED_CTL 31 16 * 2 ^ 16)) else s
  let s := s.putFlow f { Machine.freeFlow f with bound := true, auto := auto }
  s.setFlowState f (if s.nodeFlow f then 3 else 1)

/-- The flow bound to a key. -/
def State.flowOf (s : State) (word0 : Word) : Option Nat :=
  (s.sched.flow.map (·.1)).find? fun f =>
    let v := s.rd (SCHED_FLOWf_STAT f)
    bits v 29 28 == bits word0 31 30 && bitAt v 19 == bitAt word0 29 && bits v 16 0 == bits word0 16 0

/-- The lowest FREE flow of 0–4,094. -/
def State.lowFlow (s : State) : Option Nat := firstNat (fun f => !(s.flow f).bound) 4095 0

/-- The flow that a frame joins (R222). -/
def State.joinFlow (s : State) (word0 : Word) : Nat × State :=
  match s.flowOf word0 with
  | some f => (f, s)
  | none =>
    let passed (s : State) : Nat × State :=
      let s := if s.bit SCHED_STAT 0 then s else s.raise 0x76 0x01
      let s := (s.bump (SCHED_CNTm 3) 31 0).setBit SCHED_STAT 0 true
      (4095, s.rated 0x76 recFLOW_OVF 0 0 word0 0 true)
    if s.sharedFlow then passed s
    else match s.lowFlow with
    | some f => (f, s.bindFlow f word0 true)
    | none =>
      if !(s.flow 4095).bound then (4095, s.bindFlow 4095 word0 true)
      else
        let s := (s.setBit SCHED_FLOWS 0 true).setBit (SCHED_FLOWf_STAT 4095) 27 true
        let s := if s.flowState 4095 = 3 then s.wakeFlow 4095 else s
        passed s

/-- A frame arrives at SCHED (R221–R223, R225). -/
def State.schedArrive (s : State) (e desc : Nat) (word0 word1 : Word) : State :=
  let airb := bits word1 15 0
  if bits word0 31 30 ≠ e ∨ (!bitAt word0 29 ∧ nodeMax ≤ bits word0 16 0) ∨ (bitAt word0 29 ∧ 255 < bits word0 16 0) ∨ airb = 0 then
    ((s.bump (SCHED_CNTm 7) 31 0).setBit SCHED_STAT 4 true).schedOut
  else
    let r := s.joinFlow word0
    let f := r.1
    let s := r.2
    let x := s.flow f
    if s.fld (SCHED_FLOWf_STAT f) 26 20 ≤ x.frames.length then
      let s := (s.putFlow f { x with qfull := min (x.qfull + 1) 65535 }).schedOut
      let s := ((s.bump (SCHED_CNTm 1) 31 0).setBit SCHED_STAT 1 true).raise 0x76 0x02
      s.rated 0x76 recQFULL 0 0 (word f) 0 true
    else
      let s := s.putFlow f { x with frames := x.frames ++ [⟨desc, word0, airb, s.clock⟩] }
      let s := (s.pendCount word0 true).bump (SCHED_CNTm 0) 31 0
      if s.flowState f = 1 then s.startFlow f else s

/-- Does SCHED take arrivals: enabled and no sweep running? -/
def State.schedOpen (s : State) : Bool := s.isOn 7 && s.bit SCHED_CTL 0 && !s.bit SCHED_STAT 5

/-- SCHED_ENQUEUE (R221–R223): a frame arrives at egress e with its two scheduler words, as a forwarding result of a
descriptor, or (`desc` none) from the head of the egress's input queue. -/
def execSchedEnqueue (e : Fin 4) (desc : Option (Fin 16384)) (word0 word1 : Word) (s : State) :
    Host.Outcome State Fault Refusal :=
  .next (if !s.schedOpen then s else match desc with
    | some d => (s.schedArrive e d word0 word1).showSched
    | none => match s.dqPop (s.fld (SCHED_EGe_CFG e) 15 8) false with
      | (some (d, _), s) => (s.schedArrive e d word0 word1).showSched
      | (none, s) => s)

/-! ### Shapers (R229, R230) -/

/-- Shaper n. -/
def State.shaper (s : State) (n : Nat) : Shaper := tabGet freeShaper s.sched.shp n

/-- Shaper n replaced, with SCHED_SHPs_TOK. -/
def State.putShaper (s : State) (n : Nat) (x : Shaper) : State :=
  (s.modSched fun k => { k with shp := tabSet freeShaper k.shp n x }).wr (SCHED_SHPs_TOK n) (iword (x.tok / 65536))

/-- Is a shaper enabled? -/
def Shaper.on (x : Shaper) : Bool := bitAt x.cfg 31

/-- Does a shaper let a frame of AIRB air bytes pass (R226, R229)? -/
def Shaper.passes (x : Shaper) (airb : Nat) : Bool := !x.on || decide (((min airb x.burst : Nat) : Int) * 65536 ≤ x.tok)

/-- AIRB charged to a shaper. -/
def State.chargeShaper (s : State) (n airb : Nat) : State :=
  let x := s.shaper n
  if !x.on then s else s.putShaper n { x with tok := max (x.tok - (airb : Int) * 65536) (-4294967296) }

/-- What a shaper adds in a time of ns, in 2⁻¹⁶ byte. -/
def Shaper.gain (x : Shaper) (ns : Nat) : Int := roundDiv (bits x.cfg 23 0 * ns * 65536) 1000000000

/-- Tokens added and clipped to BURST; a disabled shaper holds BURST. -/
def Shaper.fill (x : Shaper) (ns : Nat) : Shaper :=
  { x with tok := if x.on then min (x.tok + x.gain ns) ((x.burst : Int) * 65536) else (x.burst : Int) * 65536 }

/-- SHAPER_REFILL (R229, R230): a pending change applies, then the refill of the period, then the clip. -/
def execShaperRefill (n : Fin 256) (s : State) : Host.Outcome State Fault Refusal :=
  .next (if !s.isOn 7 then s else
    let x := s.shaper n
    let r := SCHED_SHPs_BURST n
    let x := if !s.bit r 31 then x else
      let cfg := s.rd (SCHED_SHPs_CFG n)
      let burst := s.fld r 15 0
      { cfg := cfg, burst := burst, tok := if bitAt cfg 31 && !x.on then (burst : Int) * 65536 else x.tok }
    (s.setBit r 31 false).putShaper n (x.fill (bits x.cfg 30 24 * 8000)))

/-! ### Selection (R224, R226) -/

/-- Is flow f eligible on egress e? -/
def State.eligible (s : State) (e f : Nat) : Bool :=
  s.flowEg f == e && s.flowState f == 2 && match (s.flow f).frames with
  | [] => false
  | h :: _ =>
    let cfg := s.rd (SCHED_FLOWf_CFG f)
    (!bitAt cfg 8 || (s.shaper (bits cfg 7 0)).passes h.airb)
      && (!s.bit (SCHED_EGe_CFG e) 30 || (s.shaper (s.fld (SCHED_EGe_CFG e) 23 16)).passes h.airb)

/-- The eligible flow with the smallest S, the lowest flow among equals. -/
def State.pickFlow (s : State) (e : Nat) : Option Nat :=
  (s.sched.flow.map (·.1)).foldl (fun (b : Option Nat) f => if !s.eligible e f then b else match b with
    | none => some f
    | some g => if tagDiff (s.flow f).start (s.flow g).start < 0 then some f else b) none

/-- Descriptors in the output queue of egress e. -/
def State.outDepth (s : State) (e : Nat) : Nat :=
  (tabGet (fun _ => (⟨[], 0, false, false⟩ : DescQ)) s.qfab.dq (s.fld (SCHED_EGe_CFG e) 7 0)).items.length

/-- The selection of flow f's head on egress e (R224, R226). -/
def State.selectFlow (s : State) (e f : Nat) : State :=
  let x := s.flow f
  match x.frames with
  | [] => s
  | h :: t =>
    let cfg := s.rd (SCHED_FLOWf_CFG f)
    let fin := x.start + word (ceilDiv (h.airb * 65536) (bits cfg 31 16))
    let s := (s.dqPush (s.fld (SCHED_EGe_CFG e) 7 0) h.desc).schedOut
    let s := if bitAt cfg 8 then s.chargeShaper (bits cfg 7 0) h.airb else s
    let s := if s.bit (SCHED_EGe_CFG e) 30 then s.chargeShaper (s.fld (SCHED_EGe_CFG e) 23 16) h.airb else s
    let s := s.wr (SCHED_EGe_VT e) x.start
    let s := s.modSched fun k => { k with
      maxF := vmod k.maxF e fun m => if 0 < tagDiff fin m then fin else m }
    let s := s.putFlow f { x with frames := t, start := fin, fl := fin, sent := min (x.sent + 1) 0xFFFFFFFF }
    let s := s.pendCount h.word0 false
    let s := if t = [] then s.emptied f else s.ageFlow f
    if (s.sched.flow.any fun y => s.flowEg y.1 == e && s.flowState y.1 == 2 && y.2.frames != []) then s
    else s.wr (SCHED_EGe_VT e) (vget s.sched.maxF e 0)

/-- SELECTION (R226): egress e selects the eligible flow with the smallest start tag. -/
def execSelection (e : Fin 4) (s : State) : Host.Outcome State Fault Refusal :=
  .next (if !s.schedOpen || !s.bit (SCHED_EGe_CFG e) 31 || s.mode == 7 || decide (s.fld (SCHED_EGe_CFG e) 27 24 ≤ s.outDepth e) then s
    else match s.pickFlow e with
    | none => s
    | some f => (s.selectFlow e f).showSched)

/-- WAKEHOLD_EXPIRY (R227): WAKEHOLD ms after its last wake a node's flow is ASLEEP again. -/
def execWakeholdExpiry (f : Fin 4096) (s : State) : Host.Outcome State Fault Refusal :=
  .next (if !s.isOn 7 || (s.flow f).woke.isNone || !(s.flow f).bound || !s.nodeFlow f then s else
    ((s.putFlow f { s.flow f with woke := none }).setFlowState f 3).showSched)

/-- AGE_SWEEP (R228): the sweep of egress e, once per second. -/
def execAgeSweep (e : Fin 4) (s : State) : Host.Outcome State Fault Refusal :=
  .next (if !s.isOn 7 then s else
    ((s.sched.flow.map (·.1)).foldl (fun (s : State) f => if s.flowEg f = e.val then s.ageFlow f else s) s).showSched)

/-- FLOW_IDLE_EXPIRY (R222): a flow bound by R222 has been IDLE for FIDLE seconds. -/
def execFlowIdleExpiry (f : Fin 4096) (s : State) : Host.Outcome State Fault Refusal :=
  .next (if s.isOn 7 ∧ (s.flow f).auto ∧ s.flowState f = 1 ∧ s.fld SCHED_CTL 15 8 ≠ 0 then (s.freeFlow f).showSched else s)

/-! ### Flow commands (R222, R227, R235, R237) -/

/-- A flow command completes. -/
def State.flowDone (s : State) (f status : Nat) : State := (s.wr SCHED_FLOWCMDSTAT (word (f * 256 + status))).showSched

/-- BIND of SCHED_FLOWKEY. -/
def State.flowBind (s : State) : State :=
  if !s.isOn 7 then s else
  let k := s.rd SCHED_FLOWKEY
  if bitAt k 29 ∧ 255 < bits k 16 0 then s.flowDone 0 stRANGE
  else match s.flowOf k with
  | some f => s.flowDone f stALREADY
  | none => match s.lowFlow with
    | some f => (s.bindFlow f k false).flowDone f stOK
    | none => s.flowDone 0 stFULL

/-- FREE of flow f (R235). -/
def State.flowFree (s : State) (f : Nat) : State :=
  if !s.isOn 7 then s
  else if (s.flow f).frames ≠ [] ∨ (f = 4095 ∧ s.sharedFlow) then s.flowDone f stNOTREADY
  else if (s.flow f).bound then (s.freeFlow f).flowDone f stOK else s.flowDone f stOK

/-- WAKE of flow f (R227). -/
def State.flowWake (s : State) (f : Nat) : State :=
  if !s.isOn 7 then s
  else if !(s.flow f).bound then s.flowDone f stNOTREADY else (s.wakeFlow f).flowDone f stOK

/-- SLEEP of flow f (R227): flow 4,095 while SHARED is never ASLEEP. -/
def State.flowSleep (s : State) (f : Nat) : State :=
  if !s.isOn 7 then s
  else if !(s.flow f).bound || (f == 4095 && s.sharedFlow) then s.flowDone f stNOTREADY
  else ((s.putFlow f { s.flow f with woke := none }).setFlowState f 3).flowDone f stOK

/-- READ of flow f (R237). -/
def State.flowRead (s : State) (f : Nat) (clr : Bool) : State :=
  if !s.isOn 7 then s else
  let x := s.flow f
  let s := (s.wr (SCHED_FLOWWINw 0) (if x.frames = [] then 0 else x.start)).wr (SCHED_FLOWWINw 1) x.fl
  let s := (s.wr (SCHED_FLOWWINw 2) (word x.sent)).wr (SCHED_FLOWWINw 3) (word (x.qfull * 65536 + x.aged))
  (if clr && x.bound then s.putFlow f { x with sent := 0, qfull := 0, aged := 0 } else s).flowDone f stOK

/-- FLOW_BIND (R222). -/
def execFlowBind (s : State) : Host.Outcome State Fault Refusal := .next s.flowBind

/-- FLOW_FREE (R235). -/
def execFlowFree (f : Fin 4096) (s : State) : Host.Outcome State Fault Refusal := .next (s.flowFree f)

/-- FLOW_WAKE (R227). -/
def execFlowWake (f : Fin 4096) (s : State) : Host.Outcome State Fault Refusal := .next (s.flowWake f)

/-- FLOW_SLEEP (R227). -/
def execFlowSleep (f : Fin 4096) (s : State) : Host.Outcome State Fault Refusal := .next (s.flowSleep f)

/-- FLOW_READ (R237). -/
def execFlowRead (f : Fin 4096) (clr : Bool) (s : State) : Host.Outcome State Fault Refusal := .next (s.flowRead f clr)

/-- A write of SCHED_FLOWCMD (Table 09-5). -/
def State.writeFlowcmd (s : State) (v : Word) : State :=
  let f := bits v 11 0
  match bits v 31 28 with
  | 1 => s.flowBind
  | 2 => s.flowFree f
  | 3 => s.flowWake f
  | 4 => s.flowSleep f
  | 5 => s.flowRead f (bitAt v 27)
  | _ => if s.isOn 7 then s.flowDone f stRANGE else s

/-! ### Policers (R231–R234) -/

/-- Policer i. -/
def State.policer (s : State) (i : Nat) : Policer := tabGet freePolicer s.sched.pol i

/-- Policer i replaced. -/
def State.putPolicer (s : State) (i : Nat) (x : Policer) : State :=
  s.modSched fun k => { k with pol := tabSet freePolicer k.pol i x }

/-- CBS, and PBS or EBS, in 2⁻¹⁶ byte. -/
def State.polBurst (s : State) (i : Nat) : Nat × Nat :=
  (s.fld (SCHED_POLi_BS i) 31 16 * 16 * 65536, s.fld (SCHED_POLi_BS i) 15 0 * 16 * 65536)

/-- Bytes, in 2⁻¹⁶, that a rate in kb/s brings in a number of PKT cycles of 2 ns. -/
def polGain (kbps cycles : Nat) : Nat := kbps * 125 * 65536 * 2 * cycles / 1000000000

/-- The buckets of policer i advanced by the PKT cycles since its last frame (R232): RFC 2697 fills the excess bucket with
what the committed one does not take; RFC 2698 fills each at its own rate. -/
def State.polAdvance (s : State) (i : Nat) (cycles : Nat) : Policer :=
  let x := s.policer i
  let b := s.polBurst i
  let g := polGain (s.fld (SCHED_POLi_CIR i) 19 0) cycles
  if s.bit (SCHED_POLi_CFG i) 30 then
    { x with tc := min b.1 (x.tc + g), tp := min b.2 (x.tp + polGain (s.fld (SCHED_POLi_PIR i) 19 0) cycles) }
  else { x with tc := min b.1 (x.tc + g), tp := min b.2 (x.tp + (x.tc + g - b.1)) }

/-- The colour of a frame of B 2⁻¹⁶ bytes with its pre-colour (0 green, 1 yellow, 2 red), and the buckets after it, as
RFC 2697 (`tr` false) and RFC 2698 define. -/
def Policer.mark (x : Policer) (tr : Bool) (pre b : Nat) : Nat × Policer :=
  if tr then
    (if pre = 2 ∨ x.tp < b then (2, x)
     else if pre = 1 ∨ x.tc < b then (1, { x with tp := x.tp - b })
     else (0, { x with tc := x.tc - b, tp := x.tp - b }))
  else if pre = 0 ∧ b ≤ x.tc then (0, { x with tc := x.tc - b })
  else if pre ≤ 1 ∧ b ≤ x.tp then (1, { x with tp := x.tp - b })
  else (2, x)

/-- An entry of a pre-colour map; 3 is red. -/
def preColour (w : Word) (i : Nat) : Nat := min 2 (bits w (2 * i + 1) (2 * i))

/-- The policer decision of a frame from ETH p (R231–R234): its length in octets, its outer VLAN ID, DSCP, and 2 × PCP + DEI
where it has them. Answers whether it is dropped, and the DSCP it is given. -/
def State.police (s : State) (p len : Nat) (vid dscp pcp : Option Nat) : Bool × Option Nat × State :=
  let sel := s.rd (SCHED_PSELp p)
  let k := match bits sel 29 28 with
    | 1 => vid.getD 0
    | 2 => dscp.getD 0
    | _ => 0
  let i := (bits sel 9 0 + (k &&& bits sel 25 16)) % 1024
  let cfg := s.rd (SCHED_POLi_CFG i)
  if !bitAt sel 31 || !bitAt cfg 31 then (false, none, s) else
  let x := { s.polAdvance i ((s.clock - (s.policer i).last) / 2) with last := s.clock }
  let pre := if !bitAt cfg 29 then 0
    else if bitAt cfg 28 then (match pcp with
      | some m => preColour (s.rd SCHED_PCPMAP) m
      | none => 0)
    else match dscp with
      | some m => preColour (s.rd (SCHED_DSCPMAPk (m / 16))) (m % 16)
      | none => 0
  let r := x.mark (bitAt cfg 30) pre (len * 65536)
  let inc (n : Nat) : Nat := min (n + 1) 0xFFFFFFFF
  let act := match r.1 with
    | 0 => 0
    | 1 => min 2 (bits cfg 19 18)
    | _ => min 2 (bits cfg 17 16)
  let s := match r.1 with
    | 0 => s.putPolicer i { r.2 with green := inc r.2.green }
    | 1 => (s.putPolicer i { r.2 with yellow := inc r.2.yellow }).bump (SCHED_CNTm 5) 31 0
    | _ => (s.putPolicer i { r.2 with red := inc r.2.red }).bump (SCHED_CNTm 4) 31 0
  match act with
  | 0 => (false, none, s)
  | 1 => (false, dscp.map fun _ => if r.1 = 1 then bits cfg 13 8 else bits cfg 5 0, s)
  | _ => (true, none, ((s.bump (SCHED_CNTm 6) 31 0).setBit SCHED_STAT 3 true).schedOut)

/-- A write of SCHED_POLi_CFG: both buckets are full when EN is written 1 (R232). -/
def State.writePolCfg (s : State) (i : Nat) (v : Word) : State :=
  let s := s.wr (SCHED_POLi_CFG i) (v &&& 0xF00F3F3F)
  if !bitAt v 31 then s
  else s.putPolicer i { s.policer i with tc := (s.polBurst i).1, tp := (s.polBurst i).2, last := s.clock }

/-- A write of SCHED_POLCMD (R237): policer i to the window, its counts cleared with CLR. -/
def State.policerRead (s : State) (i : Nat) (clr : Bool) : State :=
  if !s.isOn 7 then s else
  let x := s.policer i
  let s := (s.wr (SCHED_POLWINw 0) (word (x.tc / 65536))).wr (SCHED_POLWINw 1) (word (x.tp / 65536))
  let s := ((s.wr (SCHED_POLWINw 2) (word x.green)).wr (SCHED_POLWINw 3) (word x.yellow)).wr (SCHED_POLWINw 4) (word x.red)
  if clr then s.putPolicer i { x with green := 0, yellow := 0, red := 0 } else s

/-- POLICER_READ (R237). -/
def execPolicerRead (i : Fin 1024) (clr : Bool) (s : State) : Host.Outcome State Fault Refusal := .next (s.policerRead i clr)

/-! ### The sweep, power and reset (R236) -/

/-- A write of SCHED_CTL: a write of 1 to EN starts the sweep when one is due; DEFW and DEFQ of 0 are written as 1. -/
def State.writeSchedCtl (s : State) (v : Word) : State :=
  let v := if bits v 31 16 = 0 then putBits v 31 16 1 else v
  let v := if bits v 7 1 = 0 then putBits v 7 1 1 else v
  let s := s.wr SCHED_CTL v
  if bitAt v 0 && s.sched.sweepDue then (s.modSched fun k => { k with sweepDue := false }).setBit SCHED_STAT 5 true else s

/-- PEND_SWEEP (R236): the write of SCHED_CTL that sets EN. -/
def execPendSweep (v : Word) (s : State) : Host.Outcome State Fault Refusal := .next (if s.isOn 7 then s.writeSchedCtl v else s)

/-- PEND.COUNT of every context cleared, FLAG kept. -/
def State.clearPend (s : State) : State :=
  let base := (s.rd MAC_NTBASE).toNat
  { s with mem := s.mem.filterMap fun c =>
      if c.1 < base ∨ base + 256 * nodeMax ≤ c.1 then some c
      else if (c.1 - base) % 256 = 0x30 then none
      else if (c.1 - base) % 256 = 0x31 then (let b := c.2 &&& 0x80; if b = 0 then none else some (c.1, b))
      else some c }

/-- PEND_SWEEP_DONE (R236): the sweep completes, and event 0x76 : 0x03 is raised. -/
def execPendSweepDone (s : State) : Host.Outcome State Fault Refusal :=
  .next (if s.isOn 7 ∧ s.bit SCHED_STAT 5 then (s.clearPend.setBit SCHED_STAT 5 false).raise 0x76 0x03 else s)

/-- The queues are emptied (R199, R236): every flow is freed, V is 0, shapers and policers are full, and a sweep is due. -/
def State.schedEmptied (s : State) : State :=
  let s := (s.sched.flow.map (·.1)).foldl (fun (s : State) f => s.freeFlow f) s
  let s := (List.range 4).foldl (fun (s : State) e => s.wr (SCHED_EGe_VT e) 0) s
  let s := (s.sched.shp.map (·.1)).foldl (fun (s : State) n =>
    s.putShaper n { s.shaper n with tok := ((s.shaper n).burst : Int) * 65536 }) s
  let s := (s.sched.pol.map (·.1)).foldl (fun (s : State) i =>
    s.putPolicer i { s.policer i with tc := (s.polBurst i).1, tp := (s.polBurst i).2 }) s
  (s.modSched fun k => { k with maxF := Vector.replicate 4 0, sweepDue := true }).showSched

/-- PKT enters RET. -/
def State.schedRet (s : State) : State := s.modSched fun k => { k with retAt := s.elapsed }

/-- PKT leaves RET: shapers and policers are credited with the RTC time spent in it. -/
def State.schedFromRet (s : State) : State :=
  let ns := (s.elapsed - s.sched.retAt) * 1000000000 / 65536
  let s := (s.sched.shp.map (·.1)).foldl (fun (s : State) n => s.putShaper n ((s.shaper n).fill ns)) s
  (s.sched.pol.map (·.1)).foldl (fun (s : State) i =>
    s.putPolicer i { s.polAdvance i (ns / 2) with last := s.clock }) s

/-- PKT OFF or a reset: registers at reset, everything empty. -/
def State.schedReset (s : State) : State :=
  let s := (s.schedEmptied).resetBlock 0x400B0000
  s.modSched fun k => { k with flow := [], shp := [], pol := [] }

end Sys2Proof.Machine
end

