-- ==== Sys2Proof/Machine/Mac.lean ====
section
/-!
DEFINITION. Sys2Proof/Machine/Mac.lean: mesh access (06): the chain and its slots, filtering, the receive decision with its
acknowledgement, flooding, scheduled contacts, LOST and resynchronisation, and the commands of the node table.
-/
namespace Sys2Proof.Machine

/-! ### The chain (R153–R155, R168, R169) -/

/-- A MAC counter advanced. -/
def State.macCount (s : State) (m : Nat) : State := s.bump (MAC_CNTm m) 31 0

/-- The start of slot `n` of the chain that starts at `sec` seconds, in grains (R153). -/
def slotStart (sec n : Nat) : Nat := (sec * 2 ^ 32 + (roundDiv (n * 1073741824) 100).toNat) % 2 ^ 64

/-- The slot of that chain that an instant falls in, when it falls in the chain. -/
def slotAt (sec t : Nat) : Option Nat :=
  let d := tdiff t (sec * 2 ^ 32)
  if d < 0 ∨ 8589934592 ≤ d then none
  else
    let n := d.toNat * 100 / 1073741824
    some (min 799 (if 0 ≤ tdiff t (slotStart sec (n + 1)) then n + 1 else n))

/-- The entry of slot `n` of a bank and path. -/
def State.slotEntry (s : State) (b p n : Nat) : Word := s.rd (MAC_SLOTb_p_s b p n)

/-- SPAN of an entry, in slots. -/
def spanOf (v : Word) : Nat := bits v 27 25 + 1

/-- The slot whose entry covers slot `n`, walking the spans from slot `i` (R154): a skipped entry covers its span too. -/
def State.coverFrom (s : State) (b p n : Nat) : Nat → Nat → Nat
  | 0, i => i
  | k + 1, i => let j := i + spanOf (s.slotEntry b p i)
    if n < j then i else s.coverFrom b p n k j

/-- The slot whose entry covers slot `n`. -/
def State.cover (s : State) (b p n : Nat) : Nat := s.coverFrom b p n 800 0

/-- CHAIN of a chain's frames and MAC_CHAIN: seconds[16:1] of its start. -/
def chainNo (sec : Nat) : Nat := sec / 2 % 65536

/-- MAC_CHAIN as it reads now. -/
def State.macChain (s : State) : Word :=
  match s.mac.chain with
  | none => 0
  | some c => match slotAt c.start s.now with
    | some n => word (chainNo c.start * 65536 + n)
    | none => word (chainNo c.start * 65536 + 799)

/-- The resynchronisation bit of path p in MAC_CHAINCTL: RSA, RSB. -/
def rsBit (p : Nat) : Nat := 4 + p

/-- The end of the chain in progress: a resynchronisation chain clears its bit and writes its record (R168). -/
def State.endChain (s : State) : State :=
  match s.mac.chain with
  | none => s
  | some c => (List.range 2).foldl (fun (s : State) p =>
      if vget c.rs p false then
        ((s.setBit MAC_CHAINCTL (rsBit p) false).record 0x70 recRESYNC (word p) (word (chainNo c.start)) 0).raise 0x70 0x06
      else s) (s.modMac fun m => { m with chain := none, prev := some c })

/-- CHAIN_START (R153, R155, R168, R169): an even second begins. The chain before it ends; a chain starts while EN is set, TIME
runs and is not FREERUN, and the block is not in BACKUP. -/
def execChainStart (s : State) : Host.Outcome State Fault Refusal :=
  .next (if !s.isOn 7 then s else
    let s := s.endChain
    if !s.bit MAC_CTL 0 || !s.isOn 12 || !s.time.running || s.tqState == 0 || s.mode == 7 then s else
    let sec := s.time.sec.toNat / 2 * 2
    let next := s.fld MAC_CHAINCTL 0 0
    let s := if next = s.fld MAC_CHAINCTL 8 8 then s else
      (((s.setFld MAC_CHAINCTL 8 8 next).setBit MAC_STAT 3 true).record 0x70 recBANK_SWITCH (word next)
        (word (chainNo sec)) 0).raise 0x70 0x05
    let s := if !s.mac.backupExit then s else
      ((s.setFld MAC_RSEPOCH 7 0 ((s.fld MAC_RSEPOCH 7 0 + 1) % 256)).wr MAC_RSEXIT (word sec)).modMac fun m =>
        { m with backupExit := false }
    let a := s.bit MAC_CHAINCTL 4
    let b := s.bit MAC_CHAINCTL 5
    let s := if a then s.wr MAC_RSTIME0 (word sec) else s
    let s := if b then s.wr MAC_RSTIME1 (word sec) else s
    (s.modMac fun m => { m with chain := some ⟨sec, next, #v[a, b]⟩ }).raise 0x70 0x01)

/-! ### MAC-built transmissions (R153, R154) -/

/-- An entry skipped, or a transmission that did not go out (R154). -/
def State.slotSkip (s : State) : State := (s.macCount 10).setBit MAC_STAT 2 true

/-- MAC_TXENTp.BASE. -/
def State.txBase (s : State) (p : Nat) : Nat := s.fld (if p = 0 then MAC_TXENT0 else MAC_TXENT1) 9 0

/-- A frame given to the chain of path p, which serves it as class 0; a chain that cannot take it skips it. -/
def State.macSend (s : State) (p : Nat) (m : TxCmd) (f : MacFrame) : State :=
  let s := s.modMac fun k => { k with built := vset k.built p (some f) }
  if !s.isOn 4 || !s.chainOn p || s.fld (txFrq p m.entry) 27 0 == 0 || decide (16 ≤ s.txDepth p) then s.slotSkip
  else s.acceptTx p m

/-- TXOFF in ns, BPRE and BRATE of MAC_CTL. -/
def State.txOff (s : State) : Nat := s.fld MAC_CTL 31 24 * 1000

/-- A power that the spec states nowhere, as for beacons, polls, broadcasts and Enh-Acks: a free value (log entry 28). -/
def State.freePower (s : State) : Int × State :=
  let f := s.fresh
  ((BitVec.ofNat 12 (bits f.1 11 0)).toInt, f.2)

/-- A command of the MAC for channel `ch` of path p at T, with the parts its kind sets. -/
def State.macCmd (s : State) (p ch t lateMax : Nat) (power : Int) (rate pre : Nat) (frame : TxFrame) : TxCmd :=
  { src := .mac, tag := 0, sec := word (t / 2 ^ 32), grn := word t, lateMax := lateMax, stop := false, entry := s.txBase p + ch
    power := power, rate := rate, fec := false, uni := false, pre := pre, target := 0, frame := frame, ksel := 0, ctr := 0
    order := 0, fetched := false, displaced := false, off := 0, demoted := false }

/-- The chain and the entry that slot `n` of path p evaluates now: none while no chain runs, in a resynchronisation chain, or
for a slot inside a span (R154). -/
def State.slotNow (s : State) (p n : Nat) : Option (ChainRun × Word) :=
  match s.mac.chain with
  | none => none
  | some c =>
    if !s.isOn 7 || s.mode == 7 || (s.dom 7).hold == some .delay || vget c.rs p false then none
    else if s.cover c.bank p n = n then some (c, s.slotEntry c.bank p n) else none

/-- KIND of an entry, and the kinds 6 and 7 that are skipped. -/
def kindIs (v : Word) (k : Nat) : Bool := bits v 31 29 == k

/-- An entry of a slot of kind `k` evaluated: skipped when it holds no kind or `bad` holds for it (R154). -/
def State.slotEval (s : State) (p n k : Nat) (bad : Word → Bool) (f : State → ChainRun → Word → State) : State :=
  match s.slotNow p n with
  | none => s
  | some (c, v) =>
    if 6 ≤ bits v 31 29 then s.slotSkip
    else if !kindIs v k then s
    else if bad v || decide (1023 < s.txBase p + bits v 24 18) && (k == 1 || k == 2 || k == 4) then s.slotSkip
    else f s c v

/-- Is a MAC-built frame inhibited now, so that nothing of it is used up (R181)? -/
def State.macInhibit (s : State) : Bool := (s.txInhibit 0 false).isSome

/-- The entries that a beacon at `rate`, `pre` and a span carries (R161): the lowest of BACKMAX, the entries held, and the
number that lets its ramp-down end within the span. -/
def State.nackRoom (s : State) (rate pre span : Nat) : Nat :=
  let fits (k : Nat) : Bool := decide (s.txOff + bitsNs rate (8 * (pre + 4 + 41 + 3 * k)) + 8000 ≤ span * 2500000)
  let most := min (min (s.fld MAC_CTL 13 9) 16) s.mac.deferred.length
  ((List.range (most + 1)).filter fits).getLast?.getD 0

/-- The oldest `k` deferred entries are in a beacon; one that has been in two is dropped (R161). -/
def State.takeNacks (s : State) (k : Nat) : State :=
  let l := s.mac.deferred
  let l := (l.take k).map (fun d => { d with beacons := d.beacons + 1 }) ++ l.drop k
  let s := s.modMac fun m => { m with deferred := l.filter fun d => decide (d.beacons < 2) }
  s.count (MAC_CNTm 8) 31 0 (l.filter fun d => decide (2 ≤ d.beacons)).length

/-- A beacon of slot n on channel ch (R156, R161). Which PAN's broadcast key protects it is stated nowhere: the PAN select
is a free value. -/
def State.sendBeacon (s : State) (p n ch span : Nat) (c : ChainRun) (resync : Bool) : State :=
  let rate := s.fld MAC_CTL 3 2
  let pre := s.fld MAC_CTL 19 14
  let t := (slotStart c.start n + (roundDiv (s.txOff * 2 ^ 32) 1000000000).toNat) % 2 ^ 64
  let k := if s.macInhibit then 0 else s.nackRoom rate pre span
  let nack := (s.mac.deferred.take k).map fun d => (d.node, d.dsn)
  let s := s.takeNacks k
  let w := s.freePower
  let g := w.2.fresh
  let s := g.2
  let frame : TxFrame := { len := 41 + 3 * k, secured := true
                           pan := BitVec.ofNat 16 (s.fld (MAC_PANj (bits g.1 1 0)) 15 0), dest := 0xFFFF, flood := false, corr := false }
  let at_ := after t (bitsNs rate (8 * (pre + 2)))
  s.macSend p (s.macCmd p ch t 0 w.1 rate pre frame)
    (.beacon (chainNo c.start) n (word (at_ / 2 ^ 32)) (word at_) (b2n (s.bit MAC_CTL 8) + 2 * b2n resync) nack)

/-- SLOT_BEACON (R154, R156, R168): a BEACON entry of slot n; in a resynchronisation chain every even slot is one, with SPAN 2,
on the channel of the bank's slot-0 entry. -/
def execSlotBeacon (p : Fin 2) (n : Fin 800) (s : State) : Host.Outcome State Fault Refusal :=
  .next (match s.mac.chain with
    | none => s
    | some c =>
      if vget c.rs p.val false then
        (if !s.isOn 7 || s.mode == 7 || (s.dom 7).hold == some .delay || n.val % 2 == 1 then s else
         let ch := bits (s.slotEntry c.bank p 0) 24 18
         if 1023 < s.txBase p + ch then s.slotSkip else s.sendBeacon p n ch 2 c true)
      else s.slotEval p n 1 (fun v => decide (spanOf v < 2) || bits v 17 0 != 0) fun s c v =>
        s.sendBeacon p n (bits v 24 18) (spanOf v) c false)

/-- Is an S-node woken for a POLL at T (R158): a wake frame with its WAKE address, its WGRP address or 0xFFFF ended no more
than 20 ms before? -/
def State.woken (s : State) (i t : Nat) : Bool :=
  s.mac.wakes.any fun (e : Nat × Nat) =>
    (e.1 == s.node i 0x2C 2 || e.1 == 0xFFFF || (e.1 == s.node i 0x2E 2 && e.1 != 0))
      && decide (0 ≤ tdiff t e.2 ∧ tdiff t e.2 ≤ 85899345)

/-- May node i be polled at T (Table 06-6, R158)? -/
def State.pollable (s : State) (i t : Nat) : Bool :=
  if s.nodeClass i = 1 then (s.nodeState i == 2 || s.nodeState i == 3) && s.woken i t else s.nodeState i == 2

/-- The air time of a frame in ns at a rate, with FEC or without (R100, R135). -/
def frameNs (rate pre len : Nat) (fec : Bool) : Nat :=
  bitsNs rate (if fec then 8 * (pre + 2) + codedBits len else 8 * (pre + 4 + len))

/-- MAXLEN of a poll (R157): the largest answer that, with its Enh-Ack, ends within the span. -/
def State.maxLen (s : State) (rate pre poll : Nat) (fec fcs4 : Bool) (span : Nat) : Nat :=
  let ack := frameNs rate (s.fld MAC_CTL 23 20) (30 + 2 * b2n fcs4) fec
  ((List.range 2048).filter fun n =>
    decide (s.txOff + poll + 1000000 + frameNs rate pre n fec + 1000000 + ack + 8000 ≤ span * 2500000)).getLast?.getD 0

/-- A POLL to node i (R157). -/
def State.sendPoll (s : State) (p i : Nat) (c : ChainRun) (v : Word) (t : Nat) : State :=
  let r := s.node i 0x12 1
  let rate := r % 4
  let fec := r / 8 % 2 == 1
  let fcs4 := r / 16 % 2 == 1
  let pre := s.node i 0x13 1 % 64
  let len := 34 + 2 * b2n fcs4
  let w := s.freePower
  let s := w.2
  let s := if s.macInhibit then s else s.setNode i 0x29 1 ((s.node i 0x29 1 + 1) % 256)
  let frame : TxFrame := { len := len, secured := true, pan := BitVec.ofNat 16 (s.fld (MAC_PANj (s.node i 0x0A 1 % 4)) 15 0)
                           dest := BitVec.ofNat 16 (s.node i 8 2), flood := false, corr := false }
  let m := { s.macCmd p (bits v 24 18) t 50 w.1 rate pre frame with uni := true, target := word i, fec := fec }
  s.macSend p m (.poll (chainNo c.start) i (s.node i 0x37 1) (s.node i 0x28 1)
    (s.maxLen rate pre (frameNs rate pre len fec) fec fcs4 (spanOf v)))

/-- A pair entered in the seen-cache; a full cache loses its oldest entry (R170). -/
def State.seenAdd (s : State) (origin seq : Nat) : State :=
  let s := if s.mac.seen.length < 4096 then s else (s.modMac fun m => { m with seen := m.seen.tail }).macCount 14
  s.modMac fun m => { m with seen := m.seen ++ [(origin, seq, s.clock)] }

/-- SLOT_POLL (R154, R157, R158, R170): a POLL entry of slot n. With BC it sends the head of the broadcast queue, which the
command gives: the frame with its rate and preamble, `none` for an empty queue; a FLOOD takes ORIGIN and the next SEQ. -/
def execSlotPoll (p : Fin 2) (n : Fin 800) (head : Option (TxFrame × Fin 4 × Fin 64)) (s : State) :
    Host.Outcome State Fault Refusal :=
  .next (s.slotEval p n 2 (fun _ => false) fun s c v =>
    let t := (slotStart c.start n + (roundDiv (s.txOff * 2 ^ 32) 1000000000).toNat) % 2 ^ 64
    if bitAt v 17 then
      match head with
      | none => s.slotSkip
      | some (frame, rate, pre) =>
        let w := s.freePower
        let s := w.2
        let flood := frame.flood && !s.macInhibit
        let origin := s.fld MAC_FLOODCFG 31 16
        let seq := s.fld MAC_FLOODSEQ 15 0
        let s := if flood then (s.seenAdd origin seq).wr MAC_FLOODSEQ (word ((seq + 1) % 65536)) else s
        s.macSend p (s.macCmd p (bits v 24 18) t 50 w.1 rate pre frame) (.broadcast (if flood then some (origin, seq) else none))
    else
      let i := bits v 16 0
      let ch : Int := (bits v 24 18 : Int) + (BitVec.ofNat 8 (s.node i 0x37 1)).toInt
      if !s.pollable i t || decide (ch < 0) || decide (127 < ch) then s.slotSkip else s.sendPoll p i c v t)

/-- SLOT_LISTEN (R154, R163): a LISTEN entry; its expectations are evaluated node by node. -/
def execSlotListen (p : Fin 2) (n : Fin 800) (s : State) : Host.Outcome State Fault Refusal :=
  .next (s.slotEval p n 3 (fun v => decide (4095 < bits v 16 0) || bitAt v 17) fun s _ _ => s)

/-- SLOT_WAKE (R154, R162): a WAKE entry sends REPEAT wake frames to ARG[15:0]. -/
def execSlotWake (p : Fin 2) (n : Fin 800) (s : State) : Host.Outcome State Fault Refusal :=
  .next (s.slotEval p n 4 (fun v => decide (spanOf v < 3) || bits v 15 0 == 0 || bits v 17 16 != 0) fun s c v =>
    let rep := (2500 * spanOf v - 516) / 5000
    let t := (slotStart c.start n + (roundDiv (s.txOff * 2 ^ 32) 1000000000).toNat) % 2 ^ 64
    let power := (BitVec.ofNat 12 (s.fld MAC_WAKEPWR 11 0)).toInt
    let frame : TxFrame := { len := 0, secured := false, pan := 0, dest := 0, flood := false, corr := false }
    let m := { s.macCmd p (bits v 24 18) t 200 power 8 0 frame with
      target := word (bits v 15 0 + (rep - 1) * 65536), fetched := true }
    s.macSend p m (.wake (bits v 15 0) rep))

/-- SLOT_ALARM (R154): an ALARM entry; any node may send on its channels, and the MAC does nothing. -/
def execSlotAlarm (p : Fin 2) (n : Fin 800) (s : State) : Host.Outcome State Fault Refusal :=
  .next (s.slotEval p n 5 (fun v => bits v 16 0 == 0 || decide (127 < bits v 16 0) || bitAt v 17
    || decide (128 < bits v 24 18 + bits v 16 0)) fun s _ _ => s)

/-! ### LOST (R167) -/

/-- Node i enters LOST: cause 0 its brim is above BMAX, 1 MISSMAX reached. -/
def State.enterLost (s : State) (i cause : Nat) : State :=
  let s := s.setNodeState i 3
  let s := if s.mac.lost.length < 256 then s.modMac fun m => { m with lost := m.lost ++ [i] } else s.macCount 18
  let s := ((s.macCount 11).setBit MAC_STAT 5 true).raise 0x70 0x02
  s.rated 0x70 recNODE_LOST 0 0 (word i) (word cause) true

/-- A read of MAC_LOSTQ: the head index, removed; 0 when the queue is empty. -/
def State.lostqPop (s : State) : State :=
  match s.mac.lost with
  | [] => { s with bus := 0 }
  | i :: t => { s.modMac fun m => { m with lost := t } with bus := word (2 ^ 31 + i) }

/-- LOSTQ_POP (R167). -/
def execLostqPop (s : State) : Host.Outcome State Fault Refusal := .next (if s.isOn 7 then s.lostqPop else { s with bus := 0 })

/-! ### Scheduled contacts (R163–R166, R169) -/

/-- LSEC:LGRN of a context in grains. -/
def State.lastContact (s : State) (i : Nat) : Nat := s.node i 0x14 4 * 2 ^ 32 + s.node i 0x18 4

/-- The nodes of listen list `arg` (R163). -/
def State.listenList (s : State) (arg : Nat) : List Nat :=
  let a := (s.rd MAC_LLBASE).toNat + 256 * arg
  (List.range (min 63 (s.loadN a 4))).map fun k => s.loadN (a + 4 * (k + 1)) 4

/-- Slots by which an evaluation precedes its expected slot (R164). -/
def State.evalLead (s : State) : Nat := ceilDiv (s.fld MAC_BRIMCFG 31 22) 50 + 1

/-- The chain for which node i is evaluated: the chain in progress, or the next one when the evaluation lies before its
start. -/
def State.evalChain (s : State) (i : Nat) : Option ChainRun :=
  s.mac.chain.map fun c =>
    if s.evalLead ≤ s.node i 0x32 2 then c
    else ⟨c.start + 2, s.fld MAC_CHAINCTL 0 0, #v[s.bit MAC_CHAINCTL 4, s.bit MAC_CHAINCTL 5]⟩

/-- Is node i expected in a chain (R163)? -/
def State.expected (s : State) (i : Nat) (c : ChainRun) : Bool :=
  let slot := s.node i 0x32 2
  let p := s.node i 0x34 1 / 128
  let period := s.node i 0x35 1
  let st := s.nodeState i
  (s.nodeClass i == 1 || s.nodeClass i == 2) && decide (slot < 800) && (st == 2 || st == 3 || st == 4)
    && !vget c.rs p false && c.start / 2 % max 1 period == s.node i 0x36 1
    && (let v := s.slotEntry c.bank p (s.cover c.bank p slot)
        kindIs v 3 && decide (bits v 16 0 ≤ 4095) && (s.listenList (bits v 16 0)).contains i)

/-- E of node i in a chain (R163). -/
def State.expectAt (s : State) (i : Nat) (c : ChainRun) : Nat :=
  after (slotStart c.start (s.node i 0x32 2)) (500000 + bitsNs (s.node i 0x12 1 % 4) (8 * (s.node i 0x13 1 + 2)))

/-- Must a D-node resynchronise (R169)? -/
def State.mustResync (s : State) (i : Nat) : Bool :=
  s.nodeClass i == 2 && (s.node i 0x3C 1 != s.fld MAC_RSEPOCH 7 0
    || decide (tdiff (s.lastContact i) ((s.rd MAC_RSEXIT).toNat * 2 ^ 32) < 0))

/-- The brim of R164 in units of 10⁻⁷ ns · 2⁻³²: BMIN plus twice the drifts over the time since Tref. -/
def brimUnits (bmin drift : Nat) (grains : Nat) : Nat := bmin * 10 ^ 12 * 2 ^ 32 + 2 * drift * grains * 10 ^ 9

/-- EXPECTATION_EVALUATION (R163, R164, R167, R169): node i is evaluated before its slot. -/
def execExpectationEvaluation (i : Fin 131072) (s : State) : Host.Outcome State Fault Refusal :=
  .next (if !s.isOn 7 || s.mode == 7 then s else
    match s.evalChain i with
    | none => s
    | some c =>
      if !s.expected i c then s else
      let s := if s.mustResync i then s.setNodeState i 4 else s
      let p := s.node i 0x34 1 / 128
      let e := s.expectAt i c
      let rs := (s.rd (if p = 0 then MAC_RSTIME0 else MAC_RSTIME1)).toNat * 2 ^ 32
      let l := s.lastContact i
      let tref := if (s.nodeState i == 3 || s.nodeState i == 4) && decide (0 < tdiff rs l) then rs else l
      let b := brimUnits (s.fld MAC_BRIMCFG 21 12) (s.fld MAC_BRIMCFG 11 4 + s.node i 0x1C 2) (tdiff e tref).toNat
      let s := s.setNode i 0x1E 2 (min 65535 (ceilDiv b (10 ^ 12 * 2 ^ 32)))
      if b ≤ s.fld MAC_BRIMCFG 31 22 * 10 ^ 12 * 2 ^ 32 then
        let h := (roundDiv b (2 * 10 ^ 16)).toNat
        s.modMac fun m => { m with wins := m.wins ++ [⟨i, p, e, (e + 2 ^ 64 - h % 2 ^ 64) % 2 ^ 64, (e + h) % 2 ^ 64, false⟩] }
      else if s.nodeState i = 2 then s.enterLost i 0 else s)

/-- EXPECTATION_WINDOW_CLOSE (R165): the window of node i closes; without a contact MISS counts. -/
def execExpectationWindowClose (i : Fin 131072) (s : State) : Host.Outcome State Fault Refusal :=
  .next (if !s.isOn 7 then s else
    match s.mac.wins.find? fun w => w.node == i.val with
    | none => s
    | some w =>
      let s := s.modMac fun m => { m with wins := m.wins.erase w }
      if w.contact then s else
      let miss := min 255 (s.node i 0x3B 1 + 1)
      let s := (s.setNode i 0x3B 1 miss).macCount 12
      if miss = s.fld MAC_BRIMCFG 3 0 ∧ s.nodeState i ≠ 3 then s.enterLost i 1 else s)

/-- The drift sample of a contact with timing error e after a time of Δ grains, and the new DRIFT (R166), rounded to the
nearest 0.1 ppm and capped. -/
def newDrift (drift cap : Nat) (e : Int) (d : Nat) : Nat :=
  let sample := (roundDiv (e.natAbs * 10000000) d).toNat
  min cap (max sample (roundDiv (7 * drift + sample) 8).toNat)

/-- TCORR of a timing error in grains: −e in µs, saturated (R166). -/
def tcorrOf (e : Int) : BitVec 16 := BitVec.ofInt 16 (max (-32767) (min 32767 (-(roundDiv (e * 1000000) (2 ^ 32)))))

/-- An accepted frame of node i with its SFD instant: LSEC:LGRN, MISS, and LOST or RESYNC back to ACTIVE; a contact inside its
window also sets RSE and DRIFT (R165, R166). Answers TCORR, 0x8000 for none. -/
def State.contact (s : State) (i t : Nat) : BitVec 16 × State :=
  let last := s.lastContact i
  let s := ((s.setNode i 0x14 4 (t / 2 ^ 32)).setNode i 0x18 4 (t % 2 ^ 32)).setNode i 0x3B 1 0
  let s := if s.nodeState i = 3 ∨ s.nodeState i = 4 then s.setNodeState i 2 else s
  match s.mac.wins.find? fun w => w.node == i && decide (0 ≤ tdiff t w.lo) && decide (tdiff t w.hi < 0) with
  | none => (0x8000, s)
  | some w =>
    let e := tdiff t w.e
    let s := s.modMac fun m => { m with wins := m.wins.map fun x => if x = w then { x with contact := true } else x }
    let s := (if s.nodeState i = 2 then s else s.setNodeState i 2).setNode i 0x3C 1 (s.fld MAC_RSEPOCH 7 0)
    let d := tdiff t last
    let s := if d < 42949672960 then s else s.setNode i 0x1C 2 (newDrift (s.node i 0x1C 2) (s.fld MAC_DNODE 31 16) e d.toNat)
    (tcorrOf e, s)

/-! ### Filtering (R149–R151, R248, R249) -/

/-- Is a type of Table 06-3, and the IE long enough for it (R150)? -/
def mlpOk (f : MlpFrame) (oui : Nat) : Bool :=
  f.ver == 1 && f.oui.toNat == oui && match f.typ.val with
  | 0x01 => decide (7 + 13 ≤ f.ieLen)
  | 0x02 => decide (7 + 4 ≤ f.ieLen)
  | 0x03 => decide (7 ≤ f.ieLen)
  | 0x04 => decide (7 + 2 ≤ f.ieLen)
  | 0x05 => decide (7 + 4 ≤ f.ieLen)
  | 0x06 => decide (7 + 9 ≤ f.ieLen)
  | 0x07 => decide (7 ≤ f.ieLen)
  | 0x08 => decide (7 + 4 ≤ f.ieLen)
  | 0x09 => decide (7 + 2 ≤ f.ieLen)
  | 0x0A => decide (7 + 2 ≤ f.ieLen)
  | _ => false

/-- Is a frame broadcast? -/
def isBroadcast (f : MlpFrame) : Bool := f.dest == .short 0xFFFF

/-- Does the destination match (R151)? -/
def State.addressed (s : State) (f : MlpFrame) : Bool :=
  match f.dest with
  | .ext a => a.toNat == (s.rd MAC_EUI_HI).toNat * 2 ^ 32 + (s.rd MAC_EUI_LO).toNat
  | .short a =>
    if a = 0xFFFF then (s.panSelect f.pan).isSome
    else (List.range 16).any fun i => s.bit (MAC_OWNi_PAN i) 31 && s.fld (MAC_OWNi_PAN i) 15 0 == f.pan.toNat
      && s.fld (MAC_OWNi_ADDR i) 15 0 == a.toNat

/-- The node of a frame's source: by EUI-64, or by (PAN select, short address) (R151, R209). -/
def State.sourceNode (s : State) (f : MlpFrame) : Option Nat :=
  match f.src with
  | .ext a => s.emFind false a.toNat
  | .short a => (s.panSelect f.pan).bind fun j => s.emFind true (j * 65536 + a.toNat)

/-- Is a frame a JOIN_REQ? -/
def isJoin (f : MlpFrame) : Bool := f.typ == 0x05

/-- The key of a received frame loaded into slot q (Table 10-5, R242): whether it could be had; whether the frame's key index
names the node's next epoch, and whether it names an epoch at all (R249). -/
def State.rxKey (s : State) (q : Nat) (f : MlpFrame) (node : Option Nat) : Bool × Bool × Bool × State :=
  let put (r : Nat × Nat × Option KeyVal × State) (next : Bool) : Bool × Bool × Bool × State :=
    if r.1 = stOK then (true, next, true, r.2.2.2.setSlot q r.2.2.1) else (false, false, true, r.2.2.2)
  let link (j eui epoch : Nat) (next : Bool) : Bool × Bool × Bool × State :=
    if !s.bit (KEYS_PANj j) 31 then (false, false, true, s.bump (KEYS_CNTm 3) 31 0)
    else put (s.derive 0 (s.fld (KEYS_PANj j) 27 16) (BitVec.ofNat 64 eui) (BitVec.ofNat 16 epoch)) next
  if isBroadcast f || f.typ == 0x08 then
    (match s.panSelect f.pan with
     | none => (false, false, true, s)
     | some j =>
       if !s.bit (KEYS_PANj j) 15 then (false, false, true, s.bump (KEYS_CNTm 3) 31 0)
       else put (s.stored 0 (s.fld (KEYS_PANj j) 11 0)) false)
  else match node with
  | some i =>
    let epoch := s.node i 0x2A 2
    let j := s.node i 0x0A 1 % 4
    if isJoin f then link j (s.nodeEui i) epoch false
    else if f.keyIndex.toNat = epoch % 256 then link j (s.nodeEui i) epoch false
    else if f.keyIndex.toNat = (epoch + 1) % 256 then link j (s.nodeEui i) ((epoch + 1) % 65536) true
    else (true, false, false, s)
  | none => match f.src, s.panSelect f.pan with
    | .ext a, some j => link j a.toNat f.keyIndex.toNat false
    | _, _ => (false, false, true, s)

/-- MAC_FILTER (R149–R151, R248): the first three words of a frame on port q are in. A frame dropped counts once; one that
passes waits for its decision. -/
def execMacFilter (q : Fin 65) (f : MlpFrame) (s : State) : Host.Outcome State Fault Refusal :=
  .next (if !s.isOn 7 then s else
    let s := s.modMac fun m => { m with head := tabSet (fun _ => none) m.head q.val none }
    if !s.addressed f then s.macCount 0
    else if !f.security || !f.secured then s.macCount 2
    else if !f.options then s.macCount 1
    else if !mlpOk f (s.fld MAC_OUI 23 0) then (s.macCount 1).setBit MAC_STAT 0 true
    else
      let node := s.sourceNode f
      if node.isNone && !isJoin f then s.macCount 19
      else
        let k := s.rxKey q f node
        let s := k.2.2.2
        if !k.1 then s.macCount 2
        else s.modMac fun m => { m with head := tabSet (fun _ => none) m.head q.val (some ⟨f, node, k.2.1, k.2.2.1⟩) })

/-! ### The decision (R159–R161, R165, R170, R175, R177) -/

/-- What a trailer says (Table 04-9). -/
structure Trailer where
  foff : BitVec 16
  rssi : Nat
  lq : Nat
  ch : Nat
  rate : Nat
  fec : Bool
  w400 : Bool
  status : Nat
  fcs2 : Bool
  dw : Bool

/-- The trailer of the frame on port q, once its EOF has been read. -/
def State.trailer (s : State) (q : Nat) : Option Trailer :=
  let p := s.port q
  match if p.rIn then [] else p.frame.reverse with
  | w1 :: w0 :: _ =>
    some { foff := (w0 >>> 48).setWidth 16, rssi := (w0 >>> 36).toNat % 4096, lq := (w0 >>> 28).toNat % 256
           ch := (w0 >>> 20).toNat % 256, rate := (w0 >>> 18).toNat % 4, fec := w0.getLsbD 17, w400 := w0.getLsbD 16
           status := (w0 >>> 8).toNat % 256, fcs2 := w1.getLsbD 17, dw := w1.getLsbD 16 }
  | _ => none

/-- RATE of a context from a trailer (Table 06-11). -/
def Trailer.rateByte (t : Trailer) : Nat :=
  t.rate + 4 * b2n t.w400 + 8 * b2n t.fec + 16 * b2n (!t.fcs2) + 32 * b2n t.dw

/-- The frame on port q decided: its outcome, delivered or not; the key slot is cleared. -/
def State.decided (s : State) (q outcome : Nat) (delivered full : Bool) : State :=
  let s := if s.mode == 9 then s.replayOutput else s
  (s.setSlot q none).modMac fun m => { m with
    head := tabSet (fun _ => none) m.head q none, out := some ⟨q, outcome, delivered, full⟩ }

/-- A JOIN_REQ refused FULL (R177). -/
def State.joinFull (s : State) (eui : Nat) : State :=
  (((s.macCount 15).setBit MAC_STAT 4 true).raise 0x70 0x04).rated 0x70 recJOIN_FULL 0 0 (word eui)
    (word (eui / 2 ^ 32)) true

/-- An authenticated JOIN_REQ from an EUI-64 (R177, R210): whether it is marked FULL. -/
def State.joinReq (s : State) (eui : Nat) (t : Trailer) : Bool × State :=
  match s.emFind false eui with
  | some _ => (false, s)
  | none => match s.freeNode with
    | none => (true, s.joinFull eui)
    | some i => match s.emInsert false eui i with
      | none => (true, (s.emOverflow false).joinFull eui)
      | some u =>
        let u := (u.setNodeState i 1).setNode i 0 8 eui
        (false, ((u.setNode i 0x12 1 t.rateByte).setNode i 0x1C 2 (s.fld MAC_DNODE 15 0)).raise 0x70 0x03)

/-- The IMM bit of the entry that covers an instant on path p: of the chain in progress or the one before it; a
resynchronisation chain has none (R159, R168). -/
def State.immAt (s : State) (p t : Nat) : Bool :=
  let find (c : Option ChainRun) : Option Bool := c.bind fun c => (slotAt c.start t).map fun n =>
    !vget c.rs p false && bitAt (s.slotEntry c.bank p (s.cover c.bank p n)) 28
  ((find s.mac.chain).or (find s.mac.prev)).getD false

/-- The immediate ACK of R160, built and protected at the decision: claimed on the chain of the receiving path at the last
bit plus 1,000 µs, or deferred when its counter or its chain cannot be had. `none` means deferred. -/
def State.sendAck (s : State) (p i dsn : Nat) (t : Trailer) (tcorr : BitVec 16) (ckptFails : Bool) : State :=
  let k := s.consumeNode i ckptFails
  let s := k.2
  let e := s.txBase p + t.ch % 128
  if k.1.isNone || decide (1023 < e) || !s.isOn 4 || !s.chainOn p then s.ackFail i dsn else
  let pend := s.node i 0x30 2 != 0
  let w := s.freePower
  let s := w.2
  let c := s.preCorrect p e (t.foff.toInt * 5)
  let s := c.2
  let at_ := after s.now 1000000
  let frame : TxFrame := { len := 30 + 2 * b2n (!t.fcs2), secured := true
                           pan := BitVec.ofNat 16 (s.fld (MAC_PANj (s.node i 0x0A 1 % 4)) 15 0)
                           dest := BitVec.ofNat 16 (s.node i 8 2), flood := false, corr := false }
  let m := { s.macCmd p (t.ch % 128) at_ 100 w.1 t.rate (s.fld MAC_CTL 23 20) frame with
    src := .ack i dsn, fec := t.fec, ksel := 2, fetched := true, off := c.1 }
  let s := s.modMac fun x => { x with built := vset x.built p (some (.enhAck i dsn pend tcorr)) }
  let s := s.acceptTx p m
  if pend then s.wakeNode i else s

/-- The acknowledgement of a frame of node i that is NEW or DUP (R159, R160, R181). -/
def State.acknowledge (s : State) (q : Nat) (f : MlpFrame) (i sfd : Nat) (t : Trailer) (tcorr : BitVec 16)
    (ckptFails : Bool) : State :=
  if !f.ar || isBroadcast f || isJoin f || !s.bit MAC_CTL 1 || s.mode == 5 || s.mode == 9 then s
  else if q < 64 ∧ s.immAt (t.ch / 128) sfd ∧ !s.bit MAC_CTL 5 ∧ s.mode ≠ 8 then
    s.sendAck (t.ch / 128) i f.dsn.toNat t tcorr ckptFails
  else s.deferAck i f.dsn.toNat

/-- A NEW frame enters the context (R165, R175); TCORR for its ACK. -/
def State.acceptFrame (s : State) (i : Nat) (f : MlpFrame) (t : Trailer) (sfd : Nat) : BitVec 16 × State :=
  let r := s.contact i sfd
  let s := (r.2.setNode i 0x20 4 f.counter.toNat).setNode i 0x28 1 f.dsn.toNat
  let s := s.setNode i 0x10 2 (BitVec.ofInt 16 (t.foff.toInt * 5)).toNat
  let s := s.setNode i 0x38 2 (BitVec.ofInt 16 (BitVec.ofNat 12 t.rssi).toInt).toNat
  (r.1, (s.setNode i 0x3A 1 t.lq).nodeCount i 0)

/-- The epoch of node i advances (R249): EPOCH, and FCOUT with its checkpoint as 0, but in STANDBY (R181). -/
def State.epochAdv (s : State) (i : Nat) : State :=
  let e := (s.node i 0x2A 2 + 1) % 65536
  let s := s.setNode i 0x2A 2 e
  let s := if s.mode == 5 || s.mode == 9 then s else
    ((s.setNode i 0x24 4 0).setNodeCkpt i 0).markRestored i
  let s := s.modKeys fun k => { k with nodeExh := tabSet (fun _ => false) k.nodeExh i false }
  s.rated 0x80 recEPOCH_ADV 0 0 (word i) (word e) true

/-- A FLOOD that is NEW (R170): `true` when it is delivered. -/
def State.floodIn (s : State) (origin seq : Nat) : Bool × State :=
  if origin = s.fld MAC_FLOODCFG 31 16 ∨ (s.mac.seen.any fun (e : Nat × Nat × Nat) => e.1 == origin && e.2.1 == seq) then
    (false, s.macCount 13)
  else (true, s.seenAdd origin seq)

/-- A frame whose MIC fails (Table 06-8). -/
def State.micFail (s : State) (q : Nat) (node : Option Nat) : State :=
  let s := s.macCount 3
  (match node with
   | some i => s.nodeCount i 3
   | none => s).decided q 3 false false

/-- RECEIVE_DECISION (R159–R161, R165, R170, R175, R177, R249): the frame on port q has ended, and the MAC decides. `mic`: the
CCM* check under the key of its slot passes; `ckptFails`: the checkpoint write of an Enh-Ack's counter fails (R252). -/
def execReceiveDecision (q : Fin 65) (mic ckptFails : Bool) (s : State) : Host.Outcome State Fault Refusal :=
  .next (if !s.isOn 7 then s else
    match tabGet (fun _ => none) s.mac.head q.val, s.trailer q with
    | some h, some t =>
      let f := h.frame
      if t.status ≠ 0 then s.decided q 4 false false
      else if !h.key then ((s.bump (KEYS_CNTm 4) 31 0).setBit KEYS_FLAGS 4 true).micFail q h.node
      else if !mic then s.micFail q h.node
      else if isJoin f then
        (let eui := match f.src with
           | .ext a => a.toNat
           | .short _ => 0
         let r := s.joinReq eui t
         r.2.decided q 0 true r.1)
      else match h.node with
      | none => s.decided q 5 false false
      | some i =>
        let sfd := tabGet (fun _ => 0) s.mac.sfd q.val
        let fc := s.node i 0x20 4
        let c := f.counter.toNat
        if h.next || decide (fc < c) then
          let s := if h.next then s.epochAdv i else s
          let r := s.acceptFrame i f t sfd
          let s := r.2
          let d := if f.typ = 0x08 then s.floodIn f.origin.toNat f.seq.toNat else (true, s)
          (d.2.acknowledge q f i sfd t r.1 ckptFails).decided q 0 d.1 false
        else if c = fc ∧ s.node i 0x28 1 = f.dsn.toNat ∧ tdiff sfd (s.lastContact i) < 8589934592 then
          let s := (s.macCount 4).nodeCount i 1
          (s.acknowledge q f i sfd t 0x8000 ckptFails).decided q 1 false false
        else
          let s := (((s.macCount 5).setBit MAC_STAT 6 true).nodeCount i 2).rated 0x70 recREPLAY 0 0 (word i) 0 true
          s.decided q 2 false false
    | _, _ => s)

/-- DEFERRED_ACK_EXPIRY (R161): the oldest deferred entry is 2 s old and dropped. -/
def execDeferredAckExpiry (s : State) : Host.Outcome State Fault Refusal :=
  .next (match s.mac.deferred with
    | [] => s
    | d :: t => if d.since + 2000000000 ≤ s.clock then (s.modMac fun m => { m with deferred := t }).macCount 8 else s)

/-- FLOOD_CACHE_EXPIRY (R170): the entries AGE seconds old expire. -/
def execFloodCacheExpiry (s : State) : Host.Outcome State Fault Refusal :=
  .next (let young (e : Nat × Nat × Nat) : Bool := decide (s.clock < e.2.2 + s.fld MAC_FLOODCFG 15 8 * 1000000000)
    s.modMac fun m => { m with seen := m.seen.filter young })

/-! ### Commands of the node table (R176, R177, R210, R254) -/

/-- A node command completes. -/
def State.nodeDone (s : State) (i status : Nat) : State := s.wr MAC_NODECMDSTAT (word (i * 256 + status))

/-- A node command on a context that is not FREE, while the block runs. -/
def State.nodeCmd (s : State) (i : Nat) (f : State → State) : State :=
  if !s.isOn 7 then s else if s.nodeState i = 0 then s.nodeDone i stNOTREADY else f s

/-- READ: the hardware area to the window. -/
def State.nodeRead (s : State) (i : Nat) : State := s.nodeCmd i fun s =>
  ((List.range 32).foldl (fun (s : State) w => s.wr (MAC_NODEWINw w) (word (s.node i (4 * w) 4))) s).nodeDone i stOK

/-- The keys of a context: its EUI-64, and its (PAN select, short address) when the short address is assigned. -/
def State.nodeKeys (s : State) (i : Nat) : List (Bool × Nat) :=
  let a := s.node i 8 2
  (if s.nodeEui i = 0 then [] else [(false, s.nodeEui i)])
    ++ (if 1 ≤ a ∧ a ≤ 0xFFFD then [(true, s.nodeShort i)] else [])

/-- The masked words of the window stored into context i (R176, R210, R254): RANGE for a key of another context and FULL for
one without room, with nothing written. -/
def State.nodeStore (s : State) (i : Nat) : State :=
  let u := (List.range 32).foldl (fun (u : State) w =>
    if s.bit MAC_NODEWMASK w then u.setNode i (4 * w) 4 (s.rd (MAC_NODEWINw w)).toNat else u) s
  let old := s.nodeKeys i
  let new := u.nodeKeys i
  if new.any fun k => match s.emFind k.1 k.2 with
      | some j => j != i
      | none => false then s.nodeDone i stRANGE
  else
    let gone := old.filter fun k => !new.contains k
    let add := new.filter fun k => (s.emFind k.1 k.2).isNone
    let u := gone.foldl (fun (u : State) k => u.setEm k.1 ((u.emTab k.1).filter fun e => e.key != k.2)) u
    let r := add.foldl (fun (a : Option State) k => a.bind fun u => u.emInsert k.1 k.2 i) (some u)
    match r with
    | none =>
      (add.foldl (fun (s : State) k => if (s.emInsert k.1 k.2 i).isNone then s.emOverflow k.1 else s) s).nodeDone i stFULL
    | some u =>
      let a := s.nodeState i
      let b := u.nodeState i
      let u := if a = 0 ∧ b ≠ 0 then u.setFld MAC_NODES 17 0 (s.fld MAC_NODES 17 0 - 1)
        else if a ≠ 0 ∧ b = 0 then u.setFld MAC_NODES 17 0 (s.fld MAC_NODES 17 0 + 1) else u
      let fc := u.node i 0x24 4
      let u := if fc = s.node i 0x24 4 then u else
        (if s.mode == 5 then u else u.setNodeCkpt i (word (fc / 1024 * 1024))).markRestored i
      let u := if u.node i 0x2A 2 = s.node i 0x2A 2 then u else
        u.modKeys fun k => { k with nodeExh := tabSet (fun _ => false) k.nodeExh i false }
      u.nodeDone i stOK

/-- WRITE (R176). -/
def State.nodeWrite (s : State) (i : Nat) : State := s.nodeCmd i fun s => s.nodeStore i

/-- ALLOC (R176, R209): the lowest FREE context takes the masked words, and is JOINING unless they give a state. -/
def State.nodeAlloc (s : State) : State :=
  if !s.isOn 7 then s else
  match s.freeNode with
  | none => s.nodeDone 0 stFULL
  | some i =>
    let u := s.nodeStore i
    if u.fld MAC_NODECMDSTAT 7 0 = stOK ∧ u.nodeState i = 0 then u.setNodeState i 1 else u

/-- REMOVE (R177): QUARANTINE, its keys removed. -/
def State.nodeRemove (s : State) (i : Nat) : State := s.nodeCmd i fun s =>
  let s := (s.setNodeState i 5).emRemove i
  (s.modMac fun m => { m with quar := tabSet (fun _ => 0) m.quar i (s.clock + 1) }).nodeDone i stOK

/-- STATE (R176): a value of Table 06-11, others RANGE. -/
def State.nodeSetState (s : State) (i st : Nat) : State := s.nodeCmd i fun s =>
  if 5 < st then s.nodeDone i stRANGE else (s.setNodeState i st).nodeDone i stOK

/-- NODE_READ (R176). -/
def execNodeRead (i : Fin 131072) (s : State) : Host.Outcome State Fault Refusal := .next (s.nodeRead i)

/-- NODE_WRITE (R176). -/
def execNodeWrite (i : Fin 131072) (s : State) : Host.Outcome State Fault Refusal := .next (s.nodeWrite i)

/-- NODE_ALLOC (R176). -/
def execNodeAlloc (s : State) : Host.Outcome State Fault Refusal := .next s.nodeAlloc

/-- NODE_REMOVE (R177). -/
def execNodeRemove (i : Fin 131072) (s : State) : Host.Outcome State Fault Refusal := .next (s.nodeRemove i)

/-- NODE_STATE (R176). -/
def execNodeState (i : Fin 131072) (st : Fin 16) (s : State) : Host.Outcome State Fault Refusal := .next (s.nodeSetState i st)

/-- A write of MAC_NODECMD (Table 06-15). -/
def State.writeNodecmd (s : State) (v : Word) : State :=
  let i := bits v 16 0
  match bits v 31 28 with
  | 1 => s.nodeRead i
  | 2 => s.nodeWrite i
  | 3 => s.nodeAlloc
  | 4 => s.nodeRemove i
  | 5 => s.nodeSetState i (bits v 27 24)
  | _ => if s.isOn 7 then s.nodeDone i stRANGE else s

/-- QUARANTINE_EXPIRY (R177): after 4 s the context is FREE. -/
def execQuarantineExpiry (i : Fin 131072) (s : State) : Host.Outcome State Fault Refusal :=
  .next (let t := tabGet (fun _ => 0) s.mac.quar i.val
    if t = 0 ∨ s.clock + 1 < t + 4000000000 then s else
    let s := s.modMac fun m => { m with quar := tabSet (fun _ => 0) m.quar i.val 0 }
    if s.nodeState i = 5 then s.setNodeState i 0 else s)

/-! ### Power and reset (R179, R180) -/

/-- When a command of the MAC still to be sent has its hop start within 2.55 ms: the time to its end, ns. -/
def State.macWork (s : State) (p : Nat) : List Nat :=
  let c := s.chain p
  ((c.run.map (·.cmd)).toList ++ c.queue).filterMap fun m =>
    let mine := match m.src with
      | .mac => true
      | .ack _ _ => true
      | _ => false
    if mine && decide (tdiff (s.hopStart p m) s.now ≤ 10952167) then
      some ((tdiff (after m.t (m.dur + 8000)) s.now).toNat * 1000000000 / 2 ^ 32)
    else none

/-- Does an entry still to be built on path p have its hop start within 2.55 ms? -/
def State.macNext (s : State) (p : Nat) : Bool :=
  match s.mac.chain with
  | none => false
  | some c => match slotAt c.start s.now with
    | none => false
    | some k => [k + 1, k + 2].any fun n => decide (n < 800)
        && (if vget c.rs p false then n % 2 == 0 else s.cover c.bank p n == n
              && (let v := s.slotEntry c.bank p n; kindIs v 1 || kindIs v 2 || kindIs v 4))
        && decide (tdiff (before (after (slotStart c.start n) s.txOff) 33000) s.now ≤ 10952167)

/-- The MAC's answer in the PKT handshake (R179): `some 0` GRANT, `some n` DELAY of n × 10 µs, `none` REFUSE CHAIN. -/
def State.macAnswer (s : State) : Option Nat :=
  let heads := s.mac.head.map fun e => match s.laneFrame e.1 with
    | some f => s.laneLeft f
    | none => some 10000
  let work := heads ++ ((s.macWork 0) ++ (s.macWork 1)).map some
  if s.macNext 0 || s.macNext 1 then none
  else work.foldl (fun (b : Option Nat) e => match b, e with
    | some m, some ns => if 2550000 < ns then none else some (max m (max 1 ((ns + 9999) / 10000)))
    | _, _ => none) (some 0)

/-- PKT leaves RET after `rtc` × 2⁻¹⁶ s (R179): the chain goes on at the next slot boundary, the slots that passed count as
skipped, and windows that fell in RET close without a miss. -/
def State.macFromRet (s : State) (rtc : Nat) : State :=
  match s.mac.chain with
  | none => s
  | some c =>
    let s := s.count (MAC_CNTm 10) 31 0 (rtc * 1000000000 / 65536 / 2500000)
    s.modMac fun m => { m with
      chain := some { c with start := s.time.sec.toNat / 2 * 2 }
      wins := m.wins.filter fun w => decide (tdiff s.now w.hi < 0) }

/-- A forced entry at VIN loss (R179): undecided frames and pending ACKs are discarded. -/
def State.macForced (s : State) : State := s.modMac fun m => { m with head := [] }

/-- PKT OFF or any reset (R180). -/
def State.macReset (s : State) : State :=
  let s := s.resetBlock 0x40080000
  s.modMac fun m => { m with
    chain := none, prev := none, built := Vector.replicate 2 none, deferred := [], lost := [], seen := [], wakes := []
    wins := [], head := [], sfd := [], out := none }

end Sys2Proof.Machine
end

