-- ==== Sys2Proof/Machine/Net.lean ====
section
/-!
DEFINITION. Sys2Proof/Machine/Net.lean: the Ethernet ports with PTP classification and insertion (03: R73–R77; 18: R428–R431)
and the MDIO controller.
-/
namespace Sys2Proof.Machine

/-- A change of the NET state. -/
def State.modNet (s : State) (f : NetSt → NetSt) : State := { s with net := f s.net }

/-- Octets `i` and `i + 1` of a frame as a number, most significant first. -/
def be16 (l : List Byte) (i : Nat) : Nat := (l.getD i 0).toNat * 256 + (l.getD (i + 1) 0).toNat

/-- Octets from position `i` of a frame replaced by `v`. -/
def patch (l : List Byte) (i : Nat) (v : List Byte) : List Byte :=
  if i + v.length ≤ l.length then l.take i ++ v ++ l.drop (i + v.length) else l

/-- The block ID of Ethernet port p. -/
def ethBlock (p : Nat) : Nat := 0xA0 + p

/-! ### Classification (R74, R75) -/

/-- The encapsulations of Table 03-4. -/
inductive Encap where
  | l2 | udp4 | udp6
  deriving DecidableEq, Repr

/-- Where the Ethertype of a frame stands: after the addresses, or after one VLAN tag. -/
def typeAt (l : List Byte) : Nat := if be16 l 12 = 0x8100 then 16 else 12

/-- The encapsulation of a PTP event message that a port classifies, and where its PTP message begins. -/
def State.ptpEvent (s : State) (p : Nat) (l : List Byte) : Option (Encap × Nat) :=
  let c := s.rd (NET_PTP_CTLp p)
  let t := typeAt l
  let ty := be16 l t
  let h := t + 2
  let found : Option (Encap × Nat) :=
    if ty = 0x88F7 then (if bitAt c 1 then some (.l2, h) else none)
    else if ty = 0x0800 then
      let ihl := (l.getD h 0).toNat % 16 * 4
      if bitAt c 2 && (l.getD (h + 9) 0) == 17 && be16 l (h + ihl + 2) == 319 then some (.udp4, h + ihl + 8) else none
    else if ty = 0x86DD then
      (if bitAt c 3 && (l.getD (h + 6) 0) == 17 && be16 l (h + 42) == 319 then some (.udp6, h + 48) else none)
    else none
  match found with
  | none => none
  | some (e, o) => if bitAt c 0 && decide ((l.getD o 0).toNat % 16 < 4) then some (e, o) else none

/-- Is a stamp event lost because a line that selects it is still pending (R75, R40)? -/
def State.stampLost (s : State) (block event : Nat) : Bool :=
  (List.finRange 8).any fun c => (List.finRange 32).any fun (m : Fin 32) =>
    s.fld (SEQ_EVSELn_m c.val m.val) 15 0 == block * 256 + event
      && (bitAt (s.core c).evpend m.val || bitAt (s.core c).held m.val)

/-- A stamp event raised, and whether it was lost, which counts in STAMP_MISS. -/
def State.stampEvent (s : State) (p event : Nat) : Bool × State :=
  let lost := s.stampLost (ethBlock p) event
  let t := s.raise (ethBlock p) event
  (lost, if lost then t.bump (NET_PTPCNTp p) 23 16 else t)

/-! ### Receiving (R190, R231, R428, R429) -/

/-- The FCS of a frame, least significant octet first. -/
def fcsOf (l : List Byte) : List Byte := let c := crc32 l; (List.range 4).map fun i => BitVec.ofNat 8 (c / 2 ^ (8 * i))

/-- A frame as words of a port, the first octet most significant. -/
def frameWords (l : List Byte) : List FWord :=
  let n := (l.length + 7) / 8
  (List.range n).map fun i =>
    let d := ((l.drop (8 * i) ++ List.replicate 8 0).take 8).foldl (fun (v : BitVec 64) (o : Byte) => (v <<< 8) ||| o.setWidth 64) 0
    mkFWord d (i == 0) (i + 1 == n) false

/-- Words given to port q by its producer. -/
def State.produceAll (s : State) (q : Nat) (ws : List FWord) : State := ws.foldl (fun (s : State) w => s.produce q w) s

/-- The keys of R231 and R233 in a frame: outer VLAN ID, DSCP, and 2 × PCP + DEI. -/
def policeKeys (l : List Byte) : Option Nat × Option Nat × Option Nat :=
  let tagged := be16 l 12 == 0x8100
  let t := typeAt l
  let ty := be16 l t
  let dscp := if ty = 0x0800 then some ((l.getD (t + 3) 0).toNat / 4)
    else if ty = 0x86DD then some (be16 l (t + 2) / 64 % 64) else none
  (if tagged then some (be16 l 14 % 4096) else none, dscp, if tagged then some (be16 l 14 / 4096) else none)

/-- An error count of a port: RXOVF 24, FCS 16, LONG 8, PAUSE 0. -/
def State.ethErr (s : State) (p i : Nat) : State := s.bump (NET_PORTp_ERR p) (i + 7) i

/-- ETH_RX_FRAME (R429, R75, R231): port p receives a frame, its FCS included. A frame below the 64 octets of R428 is
dropped (log entry 33). -/
def execEthRxFrame (p : Fin 2) (octets : List Byte) (s : State) : Host.Outcome State Fault Refusal :=
  .next (
    let body := octets.take (octets.length - 4)
    let port := s.port (70 + p)
    if !s.isOn 10 || !s.bit (NET_PORTp_CTL p) 31 || !s.bit (NET_PORTp_STAT p) 31 || decide (octets.length < 64) then s
    else if 2048 < octets.length then s.ethErr p 8
    else if octets.drop (octets.length - 4) ≠ fcsOf body then s.ethErr p 16
    else if be16 body (typeAt body) = 0x8808 ∧ be16 body (typeAt body + 2) = 1 then s.ethErr p 0
    else if 32768 < (port.wait.length + (octets.length + 7) / 8) * 8 then s.ethErr p 24
    else
      let s := s.bump (NET_PORTp_RXOK p) 31 0
      let st := match s.ptpEvent p body with
        | some _ => s.stampEvent p 1
        | none => (false, s)
      let s := st.2.produceAll (70 + p) (frameWords octets)
      let k := policeKeys body
      let r := if s.isOn 7 then s.police p octets.length k.1 k.2.1 k.2.2 else (false, none, s)
      r.2.2.modNet fun n => { n with rx := vset n.rx p (some ⟨r.1, r.2.1, st.1⟩) })

/-! ### Transmitting and insertion (R75–R77) -/

/-- Is the end-to-end transparent clock on: TC set on both ports? -/
def State.ptpTc (s : State) : Bool := s.bit (NET_PTP_CTLp 0) 4 && s.bit (NET_PTP_CTLp 1) 4

/-- A LATE_STAMP counted and recorded (R77). -/
def State.lateStamp (s : State) (p : Nat) : State :=
  (s.bump (NET_PTPCNTp p) 31 24).rated (ethBlock p) recLATE_STAMP p 0 (word p) 0 true

/-- Is the message a Sync built with twoStepFlag clear? -/
def oneStepSync (l : List Byte) (o : Nat) : Bool := (l.getD o 0).toNat % 16 == 0 && (l.getD (o + 6) 0).toNat / 2 % 2 == 0

/-- The ones' complement sum of 16-bit words of octets, the last padded with zero. -/
def onesSum (l : List Byte) : Nat :=
  let s := (List.range ((l.length + 1) / 2)).foldl (fun a i => a + be16 (l ++ [0]) (2 * i)) 0
  let s := s % 65536 + s / 65536
  s % 65536 + s / 65536

/-- A modified frame made good (R76): the UDP checksum of an IPv4 frame zero; the last two octets of the UDP payload of an IPv6
frame adjusted so that its sum stays that of the frame `old`. -/
def fixChecksum (old new : List Byte) (e : Encap) (o : Nat) : List Byte :=
  match e with
  | .l2 => new
  | .udp4 => patch new (o - 2) [0, 0]
  | .udp6 =>
    let n := be16 old (o - 4) - 8
    let part (l : List Byte) := (l.drop o).take n
    let bare := patch (part new) (n - 2) [0, 0]
    let d := (onesSum (part old) + 2 * 65535 - onesSum bare) % 65535
    let v := if n % 2 = 0 then [BitVec.ofNat 8 (d / 256), BitVec.ofNat 8 d] else [BitVec.ofNat 8 d, BitVec.ofNat 8 (d / 256)]
    patch new (o + n - 2) v

/-- A signed amount added to correctionField. -/
def addCorrection (l : List Byte) (o : Nat) (x : Int) : List Byte :=
  patch l (o + 8) (beOctets (((beNat ((l.drop (o + 8)).take 8) : Int) + x) % 2 ^ 64).toNat 8)

/-- twoStepFlag of the message set or cleared. -/
def setTwoStep (l : List Byte) (o : Nat) (b : Bool) : List Byte :=
  patch l (o + 6) [if b then (l.getD (o + 6) 0) ||| 2 else (l.getD (o + 6) 0) &&& 0xFD]

/-- The frame as it leaves port p, with its FCS. -/
def State.ethOut (s : State) (p : Nat) (l : List Byte) : State := s.modNet fun n => { n with out := vset n.out p (l ++ fcsOf l) }

/-- A frame that leaves without its insertion (R77): a one-step Sync with twoStepFlag set, any other as it is. -/
def State.leaveLate (s : State) (p : Nat) (e : Encap) (o : Nat) (l : List Byte) : State :=
  let new := if oneStepSync l o then fixChecksum l (setTwoStep l o true) e o else l
  (s.ethOut p new).lateStamp p

/-- ETH_TX_FRAME (R75, R431): a frame, without its FCS, commits to the egress pipeline of port p. A PTP event frame awaits an
insertion when it is a one-step Sync, or while the transparent clock is on (log entry 34). -/
def execEthTxFrame (p : Fin 2) (octets : List Byte) (s : State) : Host.Outcome State Fault Refusal :=
  .next (if !s.isOn 10 || !s.bit (NET_PORTp_CTL p) 31 || !s.bit (NET_PORTp_STAT p) 31 then s else
    let s := (s.bump (NET_PORTp_TXOK p) 31 0).ethOut p octets
    match s.ptpEvent p octets with
    | none => s
    | some (e, o) =>
      let r := s.stampEvent p 2
      if r.1 then r.2.leaveLate p e o octets
      else if oneStepSync octets o || s.ptpTc then
        r.2.modNet fun n => { n with wait := vmod n.wait p fun l => l ++ [⟨octets, o, s.clock⟩] }
      else r.2)

/-- The deadline of an insertion in ns after the stamp event (Table 03-4). -/
def State.insertDeadline (s : State) (kind : Nat) (e : Encap) (l : List Byte) : Nat :=
  let d := match e with
    | .l2 => if kind = 0 then 1104 else 1120
    | .udp4 => if kind = 0 then 1328 else 1344
    | .udp6 => if kind = 0 then 1488 else 1504
  d + (if typeAt l = 16 then 32 else 0) - s.fld TIME_STAMPCAL 2 0

/-- An insertion requested by NET_INSp_GO (R76, R77): it applies to the oldest frame of port p that awaits one. -/
def State.insertGo (s : State) (p kind : Nat) : State :=
  match vget s.net.wait p [] with
  | [] => s
  | f :: rest =>
    let s := s.modNet fun n => { n with wait := vset n.wait p rest }
    let e := match s.ptpEvent p f.octets with
      | some (e, _) => e
      | none => .l2
    if f.since + s.insertDeadline kind e f.octets < s.clock then s.leaveLate p e f.off f.octets
    else
      let grn := s.rd (NET_INSp_GRN p)
      let new := if kind = 0 then
          let ns := grn.toNat * 1000000000
          let sec := s.fld (NET_INSp_SHI p) 15 0 * 2 ^ 32 + (s.rd (NET_INSp_SLO p)).toNat
          let l := patch f.octets (f.off + 34) (beOctets sec 6 ++ beOctets (ns / 2 ^ 32) 4)
          setTwoStep (addCorrection l f.off (ns % 2 ^ 32 / 65536 : Nat)) f.off false
        else addCorrection f.octets f.off (roundDiv (grn.toInt * 1000000000) 65536)
      (s.ethOut p (fixChecksum f.octets new e f.off)).bump (NET_PTPCNTp p) 15 0

/-- INSERT_ORIGIN (R76): NET_INSp_GO written with KIND 0. -/
def execInsertOrigin (p : Fin 2) (s : State) : Host.Outcome State Fault Refusal := .next (if s.isOn 10 then s.insertGo p 0 else s)

/-- INSERT_RESIDENCE (R76): NET_INSp_GO written with KIND 1. -/
def execInsertResidence (p : Fin 2) (s : State) : Host.Outcome State Fault Refusal :=
  .next (if s.isOn 10 then s.insertGo p 1 else s)

/-! ### Link and MDIO (R429, R430) -/

/-- LINK_CHANGE (R429): the link of port p goes up, with negotiation done, speed and duplex, or down, which ends a frame on its
way in with ABORT. -/
def execLinkChange (p : Fin 2) (up anDone fdx : Bool) (speed : Fin 4) (s : State) : Host.Outcome State Fault Refusal :=
  .next (if !s.isOn 10 || s.bit (NET_PORTp_STAT p) 31 == up then s else
    let v := if up then word (2 ^ 31 + b2n anDone * 2 ^ 30 + speed.val * 2 ^ 28 + b2n fdx * 2 ^ 27) else 0
    let s := s.wr (NET_PORTp_STAT p) v
    let s := if !up && (s.port (70 + p)).wIn then s.produce (70 + p) (mkFWord 0 false true true) else s
    s.raise (ethBlock p) 0x03)

/-- A write of NET_MDIO_CMD (R430): starts a frame, unless one is in progress or OP is none of Table 18-14. -/
def State.mdioCmd (s : State) (v : Word) : State :=
  if s.bit NET_MDIO_DATA 31 || decide (4 < bits v 31 29) then s
  else (s.setBit NET_MDIO_DATA 31 true).modNet fun n => { n with mdio := some (bits v 31 29, bits v 25 21, bits v 20 16) }

/-- The command word of an MDIO frame. -/
def mdioWord (op phy reg : Nat) : Word := word (op * 2 ^ 29 + phy * 2 ^ 21 + reg * 2 ^ 16)

/-- An MDIO command while NET is ON. -/
def State.mdioStart (s : State) (op phy reg : Nat) : Host.Outcome State Fault Refusal :=
  .next (if s.isOn 10 then s.mdioCmd (mdioWord op phy reg) else s)

/-- MDIO_C22_WRITE (R430). -/
def execMdioC22Write (phy reg : Fin 32) (s : State) : Host.Outcome State Fault Refusal := s.mdioStart 0 phy reg

/-- MDIO_C22_READ (R430). -/
def execMdioC22Read (phy reg : Fin 32) (s : State) : Host.Outcome State Fault Refusal := s.mdioStart 1 phy reg

/-- MDIO_C45_ADDRESS (R430). -/
def execMdioC45Address (phy reg : Fin 32) (s : State) : Host.Outcome State Fault Refusal := s.mdioStart 2 phy reg

/-- MDIO_C45_WRITE (R430). -/
def execMdioC45Write (phy reg : Fin 32) (s : State) : Host.Outcome State Fault Refusal := s.mdioStart 3 phy reg

/-- MDIO_C45_READ (R430). -/
def execMdioC45Read (phy reg : Fin 32) (s : State) : Host.Outcome State Fault Refusal := s.mdioStart 4 phy reg

/-- MDIO_DONE (R430): the frame completes; a read takes the PHY's data, or with no PHY sets ERR and reads 0xFFFF. -/
def execMdioDone (data : Option (BitVec 16)) (s : State) : Host.Outcome State Fault Refusal :=
  .next (match s.net.mdio with
    | none => s
    | some (op, _, _) =>
      let s := (s.setBit NET_MDIO_DATA 31 false).modNet fun n => { n with mdio := none }
      if op = 1 ∨ op = 4 then
        (s.setBit NET_MDIO_DATA 30 data.isNone).setFld NET_MDIO_DATA 15 0 (data.getD 0xFFFF).toNat
      else s.setBit NET_MDIO_DATA 30 false)

/-- A write of NET_MDIO_DATA: DIV is held to 4–49. -/
def State.writeMdioData (s : State) (v : Word) : State :=
  (s.setFld NET_MDIO_DATA 23 16 (max 4 (min 49 (bits v 23 16)))).setFld NET_MDIO_DATA 15 0 (bits v 15 0)

/-- NET after OFF or a reset: its registers but those kept, and its frames. -/
def State.netReset (s : State) : State :=
  (s.resetBlock 0x400F0000).modNet fun _ =>
    { wait := Vector.replicate 2 [], out := Vector.replicate 2 [], rx := Vector.replicate 2 none, mdio := none }

end Sys2Proof.Machine
end

