-- ==== Sys2Proof/Machine/Timed.lean ====
section
/-!
DEFINITION. Sys2Proof/Machine/Timed.lean: TARM slots and their firing (R33, R57), pulse generators (R69–R72), and the
mains axis with MWAIT (R78–R81).
-/
namespace Sys2Proof.Machine

/-! ### Next boundaries -/

/-- The first boundary start + k × period that lies after `now`, as seconds[31:0]:grains, and how many were missed; a time
not past is its own first boundary (R57). Times are compared by R56. -/
def nextBoundary (start period now : Nat) : Nat × Nat :=
  let d := tdiff now start
  if d < 0 ∨ period = 0 then (start % 2 ^ 64, 0)
  else
    let k := d.toNat / period + 1
    ((start + k * period) % 2 ^ 64, k)

/-- A period of seconds and grains in grains. -/
def periodOf (psec pgrn : Word) : Nat := psec.toNat * 2 ^ 32 + pgrn.toNat

/-! ### Pulse generators -/

/-- Generator n. -/
def State.pulseGen (s : State) (n : Nat) : PulseGen := vget s.time.pulse n ⟨none, 0, none⟩

/-- Generator n changed. -/
def State.modPulse (s : State) (n : Nat) (f : PulseGen → PulseGen) : State :=
  s.modTime fun t => { t with pulse := vmod t.pulse n f }

/-- The period of generator n in grains, 0 for a single pulse. -/
def State.pulsePeriod (s : State) (n : Nat) : Nat :=
  if s.bit (TIME_PULSEn_CTL n) 1 then periodOf (word (s.fld (TIME_PULSEn_PSEC n) 15 0)) (s.rd (TIME_PULSEn_PFRAC n)) else 0

/-- A width of the period or more is clipped to the period less 4 ns, with PCLIP (R69); the minimum is 8 ns. -/
def State.clipWidth (s : State) (n : Nat) : State :=
  let p := s.pulsePeriod n
  let w := (s.rd (TIME_PULSEn_WIDTH n)).toNat
  let pns := p * 1000000000 / 2 ^ 32
  if p ≠ 0 ∧ pns ≤ w then (s.wr (TIME_PULSEn_WIDTH n) (word (pns - 4))).setBit TIME_STAT 8 true
  else if w < 8 then s.wr (TIME_PULSEn_WIDTH n) 8 else s

/-- Generator n set running from its start registers (R69): start 0:0 is the next whole second; past boundaries of a
periodic start are skipped and counted, and a single start in the past is skipped (R57). -/
def State.startPulse (s : State) (n : Nat) : State :=
  let s := s.clipWidth n
  if !s.bit (TIME_PULSEn_CTL n) 0 then s.modPulse n fun p => { p with next := none } else
  let st := tval (s.rd (TIME_PULSEn_SSEC n)) (s.rd (TIME_PULSEn_SFRAC n))
  let now := s.netNow % 2 ^ 64
  let st := if st = 0 then (now / 2 ^ 32 + 1) % 2 ^ 32 * 2 ^ 32 else st
  let p := s.pulsePeriod n
  if p = 0 ∧ 0 < tdiff now st then
    (s.bump (TIME_PULSEn_CNT n) 15 0).modPulse n fun g => { g with next := none }
  else
    let b := nextBoundary st p now
    (s.count (TIME_PULSEn_CNT n) 15 0 b.2).modPulse n fun g => { g with next := some (word (b.1 / 2 ^ 32), word b.1) }

/-- A register write to generator n takes it from the core that held it by TARM and frees that slot (R70). -/
def State.takePulse (s : State) (n : Nat) : State :=
  let o := s.fld (TIME_PULSEn_CTL n) 11 8
  if o = 15 then s else
    let slot := (s.pulseGen n).slot
    (s.modCore (Fin.ofNat 8 o) fun k => { k with tarm := vset k.tarm slot none }).setFld (TIME_PULSEn_CTL n) 11 8 15

/-- Is generator n squelched now (R72)? -/
def State.squelched (s : State) (n : Nat) : Bool :=
  s.bit (TIME_PULSEn_CTL n) 3 && (s.tqState == 0 || decide ((s.rd TIME_SQLIM).toNat < s.tqErr))

/-- PULSE_EDGE (R69, R71, R72, R57): generator n's scheduled leading edge comes. A past edge is skipped and counted, a
squelched one is counted, any other asserts the output for WIDTH ns and raises 0xC1 : n + 1. -/
def execPulseEdge (n : Fin 4) (s : State) : Host.Outcome State Fault Refusal :=
  .next (match (s.pulseGen n).next with
    | none => s
    | some (sec, grn) =>
      if !s.isOn 12 || !s.time.running || !s.bit (TIME_PULSEn_CTL n) 0 then s else
      let t := tval sec grn
      let now := s.netNow % 2 ^ 64
      let p := s.pulsePeriod n
      if 17 < tdiff now t then
        let b := nextBoundary t p now
        (s.count (TIME_PULSEn_CNT n) 15 0 (max 1 b.2)).modPulse n fun g =>
          { g with next := if p = 0 then none else some (word (b.1 / 2 ^ 32), word b.1) }
      else
        let nx := (t + p) % 2 ^ 64
        let s := s.modPulse n fun g => { g with next := if p = 0 then none else some (word (nx / 2 ^ 32), word nx) }
        if s.squelched n then (s.bump (TIME_PULSEn_CNT n) 31 16).setBit (TIME_PULSEn_CTL n) 5 true
        else
          let s := s.setBit (TIME_PULSEn_CTL n) 5 false
          let s := s.modPulse n fun g => { g with ends := some (s.clock + (s.rd (TIME_PULSEn_WIDTH n)).toNat) }
          s.raise 0xC1 (n.val + 1))

/-! ### TARM (R33, R70) -/

/-- The lowest free TARM slot of a core. -/
def Core.freeSlot (k : Core) : Option Nat := (List.range 8).find? fun i => (vget k.tarm i none).isNone

/-- The status of an event armed for time `t`: LATE when it is already past (R57). -/
def State.armStatus (s : State) (t : Nat) : Nat :=
  if s.time.running ∧ 0 < tdiff (s.netNow % 2 ^ 64) t then stLATE else stOK

/-- TARM (R33): arms a once or periodic event from the 16-byte descriptor at ga; imm[4:0] the line, imm[15:5] reserved
(imm18[17:16] are zero in this form). -/
def execTarm (c : Fin 8) (gd ga : Fin 16) (imm : BitVec 16) (s : State) : Host.Outcome State Fault Refusal :=
  .next (s.issue c fun s => s.legal c (imm.toNat / 32 != 0) fun s => s.serve c gd [12] fun s =>
    match (s.core c).freeSlot with
    | none => s.complete c gd stFULL
    | some i =>
      let d := s.desc c (s.gpr c ga) 4
      let slot : TarmSlot := ⟨d.getD 0 0, d.getD 1 0, d.getD 3 0 &&& 0xFFFF, d.getD 2 0, Fin.ofNat 32 imm.toNat, none⟩
      let st := s.armStatus (tval slot.sec slot.grn)
      (s.modCore c fun k => { k with tarm := vset k.tarm i (some slot) }).complete c gd st i)

/-- TARM with PULSE (R70): takes pulse generator imm[1:0] by the descriptor; imm[15:2] reserved. -/
def execTarmPulse (c : Fin 8) (gd ga : Fin 16) (imm : BitVec 16) (s : State) : Host.Outcome State Fault Refusal :=
  .next (s.issue c fun s => s.legal c (imm.toNat / 4 != 0) fun s => s.serve c gd [12] fun s =>
    match (s.core c).freeSlot with
    | none => s.complete c gd stFULL
    | some i =>
      let n := imm.toNat % 4
      let d := s.desc c (s.gpr c ga) 4
      let w3 := d.getD 3 0
      let slot : TarmSlot := ⟨d.getD 0 0, d.getD 1 0, w3 &&& 0xFFFF, d.getD 2 0, 0, some (Fin.ofNat 4 n)⟩
      let st := s.armStatus (tval slot.sec slot.grn)
      let s := (s.takePulse n).modCore c fun k => { k with tarm := vset k.tarm i (some slot) }
      let s := (s.wr (TIME_PULSEn_SSEC n) slot.sec).wr (TIME_PULSEn_SFRAC n) slot.grn
      let s := (s.wr (TIME_PULSEn_PSEC n) slot.psec).wr (TIME_PULSEn_PFRAC n) slot.pgrn
      let s := if bits w3 31 16 = 0 then s else s.wr (TIME_PULSEn_WIDTH n) (word (bits w3 31 16 * 16000))
      let s := s.setBit (TIME_PULSEn_CTL n) 1 (periodOf slot.psec slot.pgrn != 0)
      let s := (s.setBit (TIME_PULSEn_CTL n) 0 true).setFld (TIME_PULSEn_CTL n) 11 8 c.val
      let s := s.modPulse n fun g => { g with slot := i }
      (s.startPulse n).complete c gd st i)

/-- TARM with CANCEL (R33): frees slot imm[2:0]; a slot that is not armed changes nothing; imm[15:3] reserved. A pulse slot
gives its generator back, which stops (log entry 15). -/
def execTarmCancel (c : Fin 8) (gd : Fin 16) (imm : BitVec 16) (s : State) : Host.Outcome State Fault Refusal :=
  .next (s.issue c fun s => s.legal c (imm.toNat / 8 != 0) fun s => s.serve c gd [12] fun s =>
    let i := imm.toNat % 8
    let s := match vget (s.core c).tarm i none with
      | some { pulse := some n, .. } =>
        ((s.setBit (TIME_PULSEn_CTL n) 0 false).setFld (TIME_PULSEn_CTL n) 11 8 15).modPulse n fun g => { g with next := none }
      | _ => s
    (s.modCore c fun k => { k with tarm := vset k.tarm i none }).complete c gd stOK i)

/-- TARM_FIRE (R33, R57, R45): slot i of core c has reached its time and raises its line, whatever the state of the core's
domain. A once slot is freed; a periodic one moves to its next period, or, fired late, to its next boundary in the
future. A firing more than one tick after its time is LATE. -/
def execTarmFire (c : Fin 8) (i : Fin 8) (s : State) : Host.Outcome State Fault Refusal :=
  .next (match (s.core c).tarm.get i with
    | some { pulse := none, sec := sec, grn := grn, psec := psec, pgrn := pgrn, line := line } =>
      let t := tval sec grn
      let now := s.netNow % 2 ^ 64
      if !s.isOn 12 || !s.time.running || decide (tdiff now t < 0) then s else
      let late := decide (17 < tdiff now t)
      let p := periodOf psec pgrn
      let nx := if late then (nextBoundary t p now).1 else (t + p) % 2 ^ 64
      let slot : Option TarmSlot := if p = 0 then none else
        some { sec := word (nx / 2 ^ 32), grn := word nx, psec := psec, pgrn := pgrn, line := line, pulse := none }
      let s := if late then s.setBit TIME_STAT 7 true else s
      (s.modCore c fun k => { k with tarm := vset k.tarm i slot }).deliver c line
    | _ => s)

/-! ### The mains axis (R78–R81) -/

/-- The axis position in 2⁻¹⁶ cycle since cycle `mCyc0` began (R79). -/
def State.mainsPos (s : State) : Nat :=
  65536 * s.time.mSince / max 1 (s.rd TIME_MAINS_PER).toNat + s.fld TIME_MAINS_PHOFF 15 0

/-- The cycle count now. -/
def State.mainsCyc (s : State) : Word := s.time.mCyc0 + word (s.mainsPos / 65536)

/-- The angle now. -/
def State.mainsAng (s : State) : Nat := s.mainsPos % 65536

/-- Is the axis lost (R80)? While disabled it is. -/
def State.mainsLost (s : State) : Bool := s.bit TIME_MAINS_STAT 0

/-- Has the axis reached a cycle and angle? Cycles compare by signed 32-bit difference (R81). -/
def State.mainsReached (s : State) (cyc : Word) (ang : Nat) : Bool :=
  let d := (s.mainsCyc - cyc).toInt
  decide (0 < d) || (d == 0 && decide (ang ≤ s.mainsAng))

/-- Has the axis passed a cycle and angle strictly? -/
def State.mainsPast (s : State) (cyc : Word) (ang : Nat) : Bool :=
  let d := (s.mainsCyc - cyc).toInt
  decide (0 < d) || (d == 0 && decide (ang < s.mainsAng))

/-- MWAIT (R32, R81): ga the cycle, gb[15:0] the angle, func14[0] FREEWHEEL; func14[13:1] reserved. Past at issue is LATE,
but while the axis is lost HOLD waits and FREEWHEEL completes LOST. -/
def execMwait (c : Fin 8) (gd ga gb : Fin 16) (func : BitVec 14) (s : State) : Host.Outcome State Fault Refusal :=
  .next (s.issue c fun s => s.legal c (func.toNat / 2 != 0) fun s => s.serve c gd [12] fun s =>
    let cyc := s.gpr c ga
    let ang := bits (s.gpr c gb) 15 0
    let fw := func.getLsbD 0
    if s.mainsLost then
      (if fw && s.mainsReached cyc ang then s.complete c gd stLOST
       else s.waitAt c (.mwait gd cyc (BitVec.ofNat 16 ang) fw false))
    else if s.mainsPast cyc ang then s.complete c gd stLATE
    else if s.mainsReached cyc ang then s.complete c gd stOK
    else s.waitAt c (.mwait gd cyc (BitVec.ofNat 16 ang) fw false))

/-- MWAIT_DONE (R32, R81, R30): the waiting MWAIT of core c completes OK at its cycle and angle, LATE when the axis was
regained past it, LOST under FREEWHEEL while the axis is lost, NOTREADY when TIME has left ON. -/
def execMwaitDone (c : Fin 8) (s : State) : Host.Outcome State Fault Refusal :=
  .next (match (s.core c).run with
    | .waiting (.mwait _ cyc ang fw late) =>
      if !s.isOn 12 then s.finishAt c (completion stNOTREADY 12)
      else if late then s.finishAt c (completion stLATE)
      else if !s.mainsReached cyc ang.toNat then s
      else if s.mainsLost then (if fw then s.finishAt c (completion stLOST) else s)
      else s.finishAt c (completion stOK)
    | _ => s)

/-- HOLD waits, and Plank banks that hold, whose target the estimated axis has passed at the regain (R81, R379). -/
def State.markHeld (s : State) : State :=
  let held (b : Nat) : Bool := s.fld (PLANK_BANKb_STAT b) 31 29 == 3 && s.fld (PLANK_BANKb_STAT b) 28 27 == 2
    && !s.bit TIME_MAINS_CTL 2 && s.mainsPast (s.rd (PLANK_BANKb_TSEC b)) (s.fld (PLANK_BANKb_TGRN b) 15 0)
  let s := { s with plank := { s.plank with late := #v[vget s.plank.late 0 false || held 0, vget s.plank.late 1 false || held 1] } }
  { s with cores := s.cores.map fun k => match k.run with
      | .waiting (.mwait gd cyc ang false late) =>
        { k with run := .waiting (.mwait gd cyc ang false (late || s.mainsPast cyc ang.toNat)) }
      | _ => k }

/-- The phase set by a valid edge (R79): PHOFF in the cycle whose PHOFF instant lies nearest; the count never decreases. -/
def State.setPhase (s : State) : State :=
  let ph := s.fld TIME_MAINS_PHOFF 15 0
  let pos := s.mainsPos
  let n := (pos - ph + 32768) / 65536
  let n := max n (pos / 65536)
  s.modTime fun t => { t with mCyc0 := t.mCyc0 + word n, mSince := 0 }

/-- The mean of the valid intervals as TIME_MAINS_PER. -/
def State.setPer (s : State) : State :=
  let l := s.time.mIvals
  if l = [] then s else s.wr TIME_MAINS_PER (word (roundDiv l.sum l.length).toNat)

/-- MAINS_EDGE (R78–R80): a filtered edge of MAINS_IN, `falling` its polarity. Edges of the other polarity are not used;
one under 4 ms after the last accepted edge is a glitch; an interval outside 15.38–22.22 ms counts in RANGE and restarts
the measurement; a valid edge corrects the axis, or counts towards its regain. -/
def execMainsEdge (falling : Bool) (s : State) : Host.Outcome State Fault Refusal :=
  .next (if !s.isOn 12 || !s.bit TIME_MAINS_CTL 0 || s.bit TIME_MAINS_CTL 1 != falling then s else
    match s.time.mEdge with
    | none => s.modTime fun t => { t with mEdge := some 0 }
    | some iv =>
      if iv < 1000000 then
        (s.bump TIME_MAINS_STAT 31 16).rated 0xC2 recGLITCH 0 0 0 0 true
      else if iv < 3845000 ∨ 5555000 < iv then
        ((s.bump TIME_MAINS_STAT 15 8).modTime fun t => { t with mEdge := some 0, mRun := 0 }).rated 0xC2 recRANGE 0 0 0 0 true
      else
        let s := s.modTime fun t => { t with mEdge := some 0, mIvals := (iv :: t.mIvals).take 8 }
        if !s.mainsLost then ((s.setPer).setPhase).raise 0xC2 0x01
        else
          let s := s.modTime fun t => { t with mRun := t.mRun + 1 }
          let s := s.raise 0xC2 0x01
          if s.time.mRun < 8 then s else
            let before := s.mainsAng
            let s := (s.setPer.markHeld).setPhase
            let s := (s.setBit TIME_MAINS_STAT 0 false).setBit TIME_MAINS_STAT 1 true
            let s := s.modTime fun t => { t with mRun := 0 }
            let corr : Int := (BitVec.ofNat 16 (s.mainsAng + 65536 - before)).toInt
            (s.record 0xC2 recMAINS_REGAIN s.mainsCyc (s.rd TIME_MAINS_PER) (iword corr)).raise 0xC2 0x03)

/-- The axis becomes lost, with its record and event. -/
def State.loseMains (s : State) : State :=
  if s.mainsLost then s else
  let s := (s.setBit TIME_MAINS_STAT 0 true).modTime fun t => { t with mRun := 0 }
  (s.record 0xC2 recMAINS_LOST s.mainsCyc (s.rd TIME_MAINS_PER) 0).raise 0xC2 0x02

/-- MAINS_LOST (R80): no valid edge has come for 100 ms. The axis goes on by the last PER. -/
def execMainsLost (s : State) : Host.Outcome State Fault Refusal := .next (if s.isOn 12 then s.loseMains else s)

/-- The mains group as captured now: CYC, and ANG with LOST and STALE. -/
def State.mainsWords (s : State) (stale : Bool) : List Word :=
  [s.mainsCyc, word (b2n s.mainsLost * 2 ^ 31 + b2n stale * 2 ^ 30 + s.mainsAng)]

/-- A read of word `i` of the mains group by an agent (R79, as R58). -/
def State.mainsRead (s : State) (a : Agent) (i : Nat) : Word × State :=
  let h := vget s.time.mshadow (agentIdx a) ⟨false, [], 0, false⟩
  let r := h.read i 2 s.mainsWords
  (r.1, s.modTime fun t => { t with mshadow := vset t.mshadow (agentIdx a) r.2 })

/-- MAINS_CAPTURE (R79): a read of TIME_MAINS_CYC (word 0) or TIME_MAINS_ANG (word 1) by an agent. -/
def execMainsCapture (a : Agent) (i : Fin 2) (s : State) : Host.Outcome State Fault Refusal :=
  .next (if s.isOn 12 then (let r := s.mainsRead a i; { r.2 with bus := r.1 }) else { s with bus := 0 })

end Sys2Proof.Machine
end

