-- ==== Sys2Proof/Machine/Rtc.lean ====
section
/-!
DEFINITION. Sys2Proof/Machine/Rtc.lean: the real-time clock (14): the tick edge with its trim, shift, commit, weekday, alarms
and snapshot, the staging registers, the crystal, and the snapshot groups; with the release of every snapshot group of R58.
A command that names what happens on a tick edge is that edge (log entry 32).
-/
namespace Sys2Proof.Machine

/-- A change of the RTC state. -/
def State.modRtc (s : State) (f : RtcSt → RtcSt) : State := { s with rtc := f s.rtc }

/-! ### The tick edge (R336, R337, R341–R345) -/

/-- TRIM, signed ppm. -/
def State.trim (s : State) : Int := (BitVec.ofNat 8 (s.fld RTC_TRIM 7 0)).toInt

/-- The increment of a tick in 2⁻¹⁶ s, and the accumulator after it (R337). -/
def State.rtcIncrement (s : State) : Nat × Nat :=
  let v : Int := s.rtc.acc + roundDiv (s.trim * 33554432) 1000000
  ((2 + v / 16777216).toNat, (v % 16777216).toNat)

/-- RTC_SEC:RTC_FRAC set to a count modulo 2⁶⁴. -/
def State.setCount (s : State) (v : Nat) : State :=
  let s := (s.wr RTC_SEC_LO (word (v / 65536))).setFld RTC_SEC_HI 15 0 (v / 2 ^ 48 % 65536)
  s.wr RTC_FRAC (word (v % 65536))

/-- Is a number of seconds the start of a day (R342)? -/
def State.dayStart (s : State) (sec : Nat) : Bool := ((sec : Int) - s.fld RTC_DAYBASE 16 0) % 86400 == 0

/-- How far an alarm lies ahead, in 2⁻¹⁶ s, as a signed 48-bit difference (R343). -/
def State.alarmAhead (s : State) (n : Nat) : Int :=
  let alm := (s.rd (RTC_ALMn_SEC n)).toNat * 65536 + s.fld (RTC_ALMn_FRAC n) 15 0
  (BitVec.ofNat 48 alm - BitVec.ofNat 48 s.rtcNow).toInt

/-- Alarm n fires (R343). -/
def State.fireAlarm (s : State) (n : Nat) (late : Bool) : State :=
  let ahead := s.alarmAhead n
  let s := s.setBit RTC_STAT (3 + n) true
  let s := if late then s.setBit RTC_STAT 5 true else s
  let s := s.raise 0x02 (0x01 + n)
  let s := s.wake 5 n (s.wakeMap (1 + n))
  let s := s.modRtc fun r => { r with late := vset r.late n false }
  let per := s.fld (RTC_ALMn_CTL n) 16 0
  if per = 0 then s.setBit (RTC_ALMn_CTL n) 31 false
  else
    let k := (-ahead).toNat / (per * 65536) + 1
    s.wr (RTC_ALMn_SEC n) (s.rd (RTC_ALMn_SEC n) + word (k * per))

/-- Alarm n compared with the count of an edge (R343, R345). -/
def State.checkAlarm (s : State) (n : Nat) (commit : Bool) : State :=
  if s.bit (RTC_ALMn_CTL n) 31 && decide (s.alarmAhead n ≤ 0) then s.fireAlarm n (commit || vget s.rtc.late n false) else s

/-- The snapshot of R344: the network time of the first TIME edge at or after the tick plus 8 ns. -/
def State.tsnap (s : State) : State :=
  if !s.isOn 12 then s else
  let t := s.timeTick.timeTick
  let t := if s.time.phase.val = 0 then t else t.timeTick
  let s := (s.wr RTC_TSNAP_SEC (word t.time.sec.toNat)).wr RTC_TSNAP_GRN t.time.grn
  (s.wr RTC_TSNAP_RSEC (s.rd RTC_SEC_LO)).wr RTC_TSNAP_RFRAC (s.rd RTC_FRAC)

/-- The weekday after a change of the seconds from `a` to `b` (R342). -/
def State.weekday (s : State) (a b : Nat) : Nat :=
  let w := s.fld RTC_WDAY 2 0
  if b = (a + 1) % 2 ^ 48 ∧ s.dayStart b then (w + 1) % 7
  else if a = (b + 1) % 2 ^ 48 ∧ s.dayStart a then (w + 6) % 7 else w

/-- The count on a tick edge with the shift that is pending: old and new value in 2⁻¹⁶ s. -/
def State.rtcNext (s : State) : Nat :=
  let sh : Int := if s.bit RTC_SHIFT 31 then (BitVec.ofNat 17 (s.fld RTC_SHIFT 16 0)).toInt else 0
  ((s.rtcNow + s.rtcIncrement.1 + sh : Int) % 2 ^ 64).toNat

/-- A tick edge of the RTC, in the order of R345. -/
def State.rtcTick (s : State) : State :=
  let old := s.rtcNow
  let inc := s.rtcIncrement
  let ctime := s.bit RTC_STAT 9 && s.rtc.commit.1
  let cday := s.bit RTC_STAT 9 && s.rtc.commit.2
  let staged := (s.fld RTC_SETSEC_HI 15 0 * 2 ^ 32 + (s.rd RTC_SETSEC_LO).toNat) * 65536 + s.fld RTC_SETFRAC 15 0
  let new := if ctime then staged else s.rtcNext
  let day := if cday then s.fld RTC_SETWDAY 2 0 else if ctime then s.fld RTC_WDAY 2 0
    else s.weekday (old / 65536) (new / 65536)
  let s := if ctime && s.bit RTC_SHIFT 31 then s.setBit RTC_STAT 7 true else s
  let s := (s.setBit RTC_SHIFT 31 false).setBit RTC_STAT 9 false
  let s := s.modRtc fun r => { r with
    acc := if ctime then 0 else inc.2, elapsed := r.elapsed + inc.1, commit := (false, false) }
  let s := (s.setCount new).wr RTC_WDAY (word day)
  let s := if !ctime then s else
    (s.setBit RTC_STAT 31 false).record 0x02 recRTC_SET (word (old / 65536)) (word (new / 65536)) (word (new % 65536))
  let s := (s.checkAlarm 0 ctime).checkAlarm 1 ctime
  if !ctime && old / 65536 != new / 65536 then s.tsnap else s

/-- WEEKDAY_ADVANCE (R342): the tick edge on which the weekday changes. -/
def execWeekdayAdvance (s : State) : Host.Outcome State Fault Refusal :=
  .next (if s.fld RTC_WDAY 2 0 ≠ s.rtcTick.fld RTC_WDAY 2 0 then s.rtcTick else s)

/-- RTC_ALARM (R343): the tick edge on which alarm n fires. -/
def execRtcAlarm (n : Fin 2) (s : State) : Host.Outcome State Fault Refusal :=
  .next (let c := s.bit RTC_STAT 9 && s.rtc.commit.1
    let staged := (s.fld RTC_SETSEC_HI 15 0 * 2 ^ 32 + (s.rd RTC_SETSEC_LO).toNat) * 65536 + s.fld RTC_SETFRAC 15 0
    let new := s.setCount (if c then staged else s.rtcNext)
    if s.bit (RTC_ALMn_CTL n) 31 && decide (new.alarmAhead n ≤ 0) then s.rtcTick else s)

/-- RTC_TSNAP (R344): the tick edge on which RTC_SEC changes other than by a commit. -/
def execRtcTsnap (s : State) : Host.Outcome State Fault Refusal :=
  .next (if !(s.bit RTC_STAT 9 && s.rtc.commit.1) && s.rtcNow / 65536 != s.rtcNext / 65536 then s.rtcTick else s)

/-- RTC_COMMIT_APPLY (R340, R345): the tick edge of a pending commit. -/
def execRtcCommitApply (s : State) : Host.Outcome State Fault Refusal := .next (if s.bit RTC_STAT 9 then s.rtcTick else s)

/-- RTC_SHIFT_APPLY (R341, R345): the tick edge of a pending shift. -/
def execRtcShiftApply (s : State) : Host.Outcome State Fault Refusal := .next (if s.bit RTC_SHIFT 31 then s.rtcTick else s)

/-! ### Writes (R337, R340–R343) -/

/-- A write of RTC_COMMIT: what it commits is pending; while one is pending it is ignored (R340). -/
def State.writeCommit (s : State) (v : Word) : State :=
  if s.bit RTC_STAT 9 then s.setBit RTC_STAT 8 true
  else if bits v 1 0 = 0 then s
  else (s.setBit RTC_STAT 9 true).modRtc fun r => { r with commit := (bitAt v 0, bitAt v 1) }

/-- COMMIT_TIME (R340): RTC_COMMIT written with TIME. -/
def execCommitTime (s : State) : Host.Outcome State Fault Refusal := .next (s.writeCommit 1)

/-- COMMIT_WDAY (R340): RTC_COMMIT written with WDAY. -/
def execCommitWday (s : State) : Host.Outcome State Fault Refusal := .next (s.writeCommit 2)

/-- A write of a staging register, whose fields are `mask` (R340): ignored while a commit is pending; a weekday above 6 is
ignored with RANGE. -/
def State.writeStaged (s : State) (a : Nat) (mask v : Word) : State :=
  if s.bit RTC_STAT 9 then s.setBit RTC_STAT 8 true
  else if a = RTC_SETWDAY ∧ 6 < bits v 2 0 then s.setBit RTC_STAT 6 true
  else s.wr a (v &&& mask)

/-- A write of RTC_SHIFT (R341). -/
def State.writeShift (s : State) (v : BitVec 17) : State :=
  let i := v.toInt
  let c : Int := if i < -32768 then -32768 else if 32768 < i then 32768 else i
  let s := if c ≠ i then s.setBit RTC_STAT 6 true else s
  s.wr RTC_SHIFT (putBits (putBits 0 16 0 (c % 131072).toNat) 31 31 1)

/-- RTC_SHIFT_WRITE (R341). -/
def execRtcShiftWrite (v : BitVec 17) (s : State) : Host.Outcome State Fault Refusal := .next (s.writeShift v)

/-- A write of RTC_DAYBASE: above 86,399 it is ignored with RANGE (R342). -/
def State.writeDaybase (s : State) (v : Word) : State :=
  if 86399 < bits v 16 0 then s.setBit RTC_STAT 6 true else s.wr RTC_DAYBASE (word (bits v 16 0))

/-- A write of RTC_TRIM: −128 is written as −127 (R337). -/
def State.writeTrim (s : State) (v : Word) : State := s.wr RTC_TRIM (word (if bits v 7 0 = 0x80 then 0x81 else bits v 7 0))

/-- A write of an alarm register leaves an enabled alarm that is past to fire LATE on the next tick edge (R343). -/
def State.writeAlarm (s : State) (n a : Nat) (mask v : Word) : State :=
  let s := s.wr a (v &&& mask)
  let late := s.bit (RTC_ALMn_CTL n) 31 && decide (s.alarmAhead n ≤ 0)
  s.modRtc fun r => { r with late := vset r.late n late }

/-! ### The crystal (R338) -/

/-- XTAL_FAIL (R338): no crystal edge for 4 RC periods; no failure while the RC oscillator is in use. -/
def execXtalFail (s : State) : Host.Outcome State Fault Refusal :=
  .next (if !s.bit RTC_STAT 30 then s else
    let s := ((s.setBit RTC_STAT 30 false).setBit RTC_STAT 31 true).setBit RTC_STAT 1 true
    ((s.raise 0x02 0x03).fault 18 0x02 0 0).record 0x02 recRTC_XTAL (s.rd RTC_SEC_LO) 0 0)

/-- XTAL_GOOD (R338): 1,024 consecutive crystal cycles have been counted. -/
def execXtalGood (s : State) : Host.Outcome State Fault Refusal := .next (s.setBit RTC_STAT 30 true)

/-! ### Snapshot groups (R339, R344, R58) -/

/-- The RTC group as captured now: SEC_LO, SEC_HI with INVALID and STALE, FRAC, WDAY. -/
def State.rtcWords (s : State) (stale : Bool) : List Word :=
  [s.rd RTC_SEC_LO, word (b2n stale * 2 ^ 31 + b2n (s.bit RTC_STAT 31) * 2 ^ 30 + s.fld RTC_SEC_HI 15 0), s.rd RTC_FRAC,
   s.rd RTC_WDAY]

/-- The TSNAP group as captured now. -/
def State.tsnapWords (s : State) (stale : Bool) : List Word :=
  [s.rd RTC_TSNAP_SEC, s.rd RTC_TSNAP_GRN, s.rd RTC_TSNAP_RSEC,
   word (b2n stale * 2 ^ 31 + s.fld RTC_TSNAP_RFRAC 15 0)]

/-- A read of word `i` of the RTC group, or of the TSNAP group, by an agent (R339, R344). -/
def State.rtcRead (s : State) (snap : Bool) (a : Agent) (i : Nat) : Word × State :=
  let h := vget (if snap then s.rtc.tshadow else s.rtc.shadow) (agentIdx a) ⟨false, [], 0, false⟩
  let s := if !h.live && h.stale then s.setBit RTC_STAT 2 true else s
  let r := h.read i 4 (if snap then s.tsnapWords else s.rtcWords)
  (r.1, s.modRtc fun t =>
    if snap then { t with tshadow := vset t.tshadow (agentIdx a) r.2 } else { t with shadow := vset t.shadow (agentIdx a) r.2 })

/-- RTC_CAPTURE (R339, R344): a read of word `i` of the RTC group, or of the TSNAP group, by an agent. -/
def execRtcCapture (a : Agent) (snap : Bool) (i : Fin 4) (s : State) : Host.Outcome State Fault Refusal :=
  .next (let r := s.rtcRead snap a i; { r.2 with bus := r.1 })

/-- SHADOW_RELEASE (R58, R79, R339, R344): the time-out of an agent's shadows of a group: 0 TIME, 1 mains, 2 RTC, 3 TSNAP. -/
def execShadowRelease (a : Agent) (g : Fin 4) (s : State) : Host.Outcome State Fault Refusal :=
  .next (let i := agentIdx a
    let rel {n : Nat} (v : Vector Shadow n) : Vector Shadow n := vmod v i Shadow.release
    match g with
    | 0 => s.modTime fun t => { t with shadow := rel t.shadow }
    | 1 => s.modTime fun t => { t with mshadow := rel t.mshadow }
    | 2 => s.modRtc fun t => { t with shadow := rel t.shadow }
    | 3 => s.modRtc fun t => { t with tshadow := rel t.tshadow })

end Sys2Proof.Machine
end

