-- ==== Sys2Proof/Machine/Upd.lean ====
section
/-!
DEFINITION. Sys2Proof/Machine/Upd.lean: images and their delivery (16): manifests and pieces, target states, `.lup`
verification and loading, the UPD commands, settings blocks, trial and revert, and the instruction ACT with the pauses and
the activation it starts. Commands take effect when they are written; UPD_COMMAND_DONE reports them and sets a piece's bit
(R366).
-/
namespace Sys2Proof.Machine

/-- A change of the UPD block's own state. -/
def State.modUpd (s : State) (f : UpdSt → UpdSt) : State := { s with upd := f s.upd }

/-! ### Targets (R362–R364) -/

/-- Where a target's manifest lies (Table 16-1; node images at UPD_NIBASE). -/
def State.manifestBase (s : State) (t : Nat) : Nat :=
  match t with
  | 0 => flashBase
  | 1 => flashBase + 0x01A00000
  | _ => (s.rd UPD_NIBASE).toNat + 0x400000 + (t - 2) * 0x20000

/-- Where a target's image lies. -/
def State.imageBase (s : State) (t : Nat) : Nat :=
  match t with
  | 0 => flashBase + 0x00200000
  | 1 => flashBase + 0x01C00000
  | _ => (s.rd UPD_NIBASE).toNat + (t - 2) * 0x100000

/-- A target's state (Table 16-3). -/
def State.tgt (s : State) (t : Nat) : Nat := s.fld (UPD_TGTt_STAT t) 31 29

/-- Image pieces of a target. -/
def State.npiece (s : State) (t : Nat) : Nat := (s.rd (UPD_TGTt_NPIECE t)).toNat

/-- List pieces of a target (R363). -/
def State.nlist (s : State) (t : Nat) : Nat := (s.npiece t + 15) / 16

/-- Bits of the list pieces received. -/
def State.listBits (s : State) (t : Nat) : Tab Bool := vget s.upd.listBits t []

/-- Bits of the image pieces received. -/
def State.imgBits (s : State) (t : Nat) : Tab Bool := vget s.upd.imgBits t []

/-- The bit of a piece. -/
def State.pieceBit (s : State) (t stream i : Nat) : Bool :=
  tabGet (fun _ => false) (if stream = 1 then s.listBits t else s.imgBits t) i

/-- The received bits of a target replaced, with the counts of UPD_TGTt_STAT. -/
def State.setBits (s : State) (t : Nat) (l i : Tab Bool) : State :=
  let s := s.modUpd fun u => { u with listBits := vset u.listBits t l, imgBits := vset u.imgBits t i }
  (s.setFld (UPD_TGTt_STAT t) 28 16 l.length).setFld (UPD_TGTt_STAT t) 15 0 (min i.length 65535)

/-- The bit of a piece set. -/
def State.setPiece (s : State) (t stream i : Nat) : State :=
  if stream = 1 then s.setBits t (tabSet (fun _ => false) (s.listBits t) i true) (s.imgBits t)
  else s.setBits t (s.listBits t) (tabSet (fun _ => false) (s.imgBits t) i true)

/-- A target emptied (ERASE, R367). -/
def State.eraseTarget (s : State) (t : Nat) : State :=
  let s := (s.setBits t [] []).setFld (UPD_TGTt_STAT t) 31 29 0
  let s := ((s.wr (UPD_TGTt_NPIECE t) 0).wr (UPD_TGTt_VERLO t) 0).wr (UPD_TGTt_VERHI t) 0
  s.modUpd fun u => { u with erased := vset u.erased t [], inprog := vset u.inprog t none }

/-- A little-endian field of octets. -/
def fieldAt (l : List Byte) (off n : Nat) : Nat := leNat ((l.drop off).take n)

/-- Is a manifest head accepted for a target, but for its signature (R363)? -/
def State.headFits (s : State) (t : Nat) (h : List Byte) : Bool :=
  let len := fieldAt h 0x008 4
  let kind := fieldAt h 0x006 1
  fieldAt h 0x000 4 == 0x4D414E46 && fieldAt h 0x004 2 == 0x0001 && fieldAt h 0x007 1 == 0
    && fieldAt h 0x00C 4 == (len + 511) / 512
    && decide (len ≤ if kind = 0 then 24 * 2 ^ 20 else 2 ^ 20)
    && kind == (if t ≤ 1 then 0 else 1)
    && (if kind = 0 then decide (fieldAt h 0x018 4 ≤ (s.rd SYS_ID).toNat) else fieldAt h 0x018 4 == 0)
    && fieldAt h 0x060 352 == 0

/-- The detail of a head's signature check, 0 when it verifies (R260, R363). -/
def State.headSig (s : State) (h : List Byte) : Nat :=
  s.sigDetail (fieldAt h 0x01C 4) false (Config.sha256 (h.take 0x1C0)) ((h.drop 0x1C0).take 64)

/-- Is the target the slot that runs or that BOOT loads (R365 check 2)? -/
def State.slotInUse (s : State) (t : Nat) : Bool :=
  t ≤ 1 && (t == s.fld UPD_BOOT 8 8 || t == s.fld UPD_BOOT 0 0)

/-- May UPD read octets at an address: DRAM or the shared scratch, with its domain ON? -/
def State.updRange (s : State) (a n : Nat) : Bool := s.gcmRange a n

/-- The 64 KB flash sector of a piece of a slot. -/
def sectorOf (t stream i : Nat) : Nat :=
  let base := if t = 0 then 0 else 0x01A00000
  (if stream = 2 then base + 0x200000 + 512 * i else base + 512 * (i + if stream = 1 then 1 else 0)) / 65536

/-- The sector of a piece erased if its bit is clear, and the bit set (R365). Erased octets read 0xFF. -/
def State.eraseSector (s : State) (t stream i : Nat) : State :=
  if 1 < t then s else
  let n := sectorOf t stream i
  let e := vget s.upd.erased t []
  if tabGet (fun _ => false) e n then s
  else
    let s := s.dropMem (flashBase + 65536 * n) (flashBase + 65536 * (n + 1))
    s.modUpd fun u => { u with erased := vset u.erased t (tabSet (fun _ => false) e n true) }

/-- Where a piece is written. -/
def State.pieceAddr (s : State) (t stream i : Nat) : Nat :=
  match stream with
  | 0 => s.manifestBase t
  | 1 => s.manifestBase t + 512 + 512 * i
  | _ => s.imageBase t + 512 * i

/-- A command's answer before it completes: status, detail, result, what its completion still does, the state. -/
abbrev UpdResult := Nat × Nat × Nat × UpdFin × State

/-- PIECE (R365, R366): the checks in their order. -/
def State.updPiece (s : State) (t : Nat) : UpdResult :=
  let a := (s.rd UPD_ARG0).toNat
  let stream := s.fld UPD_ARG1 31 30
  let i := s.fld UPD_ARG1 29 0
  let count := match stream with
    | 0 => 1
    | 1 => s.nlist t
    | _ => s.npiece t
  let out (st d : Nat) (s : State) : UpdResult := (st, d, 0, .none, s)
  if 5 < t ∨ stream = 3 ∨ (count ≤ i ∧ (stream = 0 ∨ s.tgt t ≠ 0)) ∨ !s.updRange a 512 then out stRANGE 0 s
  else if s.slotInUse t then out stDENIED 1 s
  else
    let data := s.octets a 512
    let store (s : State) : State :=
      let s := s.eraseSector t stream i
      let s := if t ≤ 1 then s.modUpd fun u => { u with inprog := vset u.inprog t (some (stream, i)) } else s
      (s.putOctets (s.pieceAddr t stream i) data).bump UPD_CNT 15 0
    if stream = 0 then
      if s.tgt t ≠ 0 then
        (if fieldAt data 0x020 32 = fieldAt (s.octets (s.manifestBase t) 512) 0x020 32 then out stALREADY 0 s
         else out stDENIED 2 s)
      else if !s.headFits t data then out stAUTH 0 s
      else if s.headSig data ≠ 0 then out stAUTH (s.headSig data) (s.authFail 5 (fieldAt data 0x01C 4))
      else
        let s := store s
        let s := s.wr (UPD_TGTt_NPIECE t) (word (fieldAt data 0x00C 4))
        let s := (s.wr (UPD_TGTt_VERLO t) (word (fieldAt data 0x010 4))).wr (UPD_TGTt_VERHI t) (word (fieldAt data 0x014 4))
        (stOK, 0, 0, .piece t 0 0, s)
    else if s.tgt t = 0 ∨ (stream = 2 ∧ s.tgt t = 1) then out stNOTREADY 0 s
    else if s.pieceBit t stream i then out stALREADY 0 s
    else if stream = 2 ∧ beOctets (Config.sha256 data).toNat 32 ≠ s.octets (s.manifestBase t + 512 + 32 * i) 32 then
      out stAUTH 0 s
    else (stOK, 0, 0, .piece t stream i, store s)

/-- ERASE (R367). -/
def State.updErase (s : State) (t : Nat) : UpdResult :=
  if 5 < t then (stRANGE, 0, 0, .none, s)
  else if s.slotInUse t then (stDENIED, 1, 0, .none, s)
  else (stOK, 0, 0, .none, s.eraseTarget t)

/-! ### `.lup` images (R48, R49, R369) -/

/-- The header fields of Table 02-13 that loading uses. -/
structure Lup where
  typ : Nat
  cores : Nat
  flags : Nat
  entry : Word
  evvec : Word
  iOff : Nat
  iLen : Nat
  dOff : Nat
  dLen : Nat
  dZero : Nat
  sOff : Nat
  sLen : Nat
  sAddr : Nat
  mOff : Nat
  mLen : Nat
  mAddr : Nat
  evsel : Nat
  keyId : Nat
  deriving DecidableEq, Repr

/-- The header at an address. -/
def State.lup (s : State) (a : Nat) : Lup :=
  let w (o : Nat) : Nat := (s.ldw (a + o)).toNat
  { typ := (s.byte (a + 8)).toNat, cores := (s.byte (a + 9)).toNat, flags := s.loadN (a + 0xA) 2
    entry := s.ldw (a + 0x10), evvec := s.ldw (a + 0x14)
    iOff := w 0x18, iLen := w 0x1C, dOff := w 0x20, dLen := w 0x24, dZero := w 0x28
    sOff := w 0x2C, sLen := w 0x30, sAddr := w 0x34, mOff := w 0x38, mLen := w 0x3C, mAddr := w 0x40
    evsel := w 0x50, keyId := w 0xA0 }

/-- The length of an image from its header to the end of its last section. -/
def Lup.len (h : Lup) : Nat :=
  let e (o n : Nat) := if n = 0 then 0x100 else o + n
  max (max (e h.iOff h.iLen) (e h.dOff h.dLen)) (max (e h.sOff h.sLen) (max (e h.mOff h.mLen)
    (if h.evsel = 0 then 0x100 else h.evsel + 64)))

/-- Is a section placed as R48 says: 16-byte aligned, in the body? -/
def sectionOk (off len : Nat) : Bool := len == 0 || (off % 16 == 0 && decide (0x100 ≤ off))

/-- Do a header's fields pass R49 and R369, apart from hash and signature? `inner`: a component of a bundle, whose KEY_ID
and SIG are ignored. -/
def State.lupFits (s : State) (a : Nat) (inner : Bool) : Bool :=
  let h := s.lup a
  s.ldw a == 0x0150554C && s.loadN (a + 4) 2 == 0x100 && s.loadN (a + 6) 2 == 1 && decide (h.flags < 8)
    && decide ((s.ldw (a + 0xC)).toNat ≤ (s.rd SYS_ID).toNat)
    && s.loadN (a + 0x46) 2 == 0 && s.loadN (a + 0x54) 44 == 0 && s.loadN (a + 0xA4) 28 == 0
    && (inner || decide (h.keyId < 4096))
    && sectionOk h.iOff h.iLen && sectionOk h.dOff h.dLen && sectionOk h.sOff h.sLen && sectionOk h.mOff h.mLen
    && decide (a + h.len ≤ 0x8FFC0000)
    && match h.typ with
      | 0 => decide (h.iLen ≤ 65536) && decide (h.dLen + h.dZero ≤ 65536) && decide (h.entry.toNat < 65536)
        && (h.sLen == 0 || decide (0x50000000 ≤ h.sAddr ∧ h.sAddr + h.sLen ≤ 0x50200000))
        && (h.mLen == 0 || decide (0x80000000 ≤ h.mAddr ∧ h.mAddr + h.mLen ≤ 0x8FFC0000))
      | 1 => decide (h.iLen ≤ 262144) && decide (h.dLen ≤ 65536) && h.sLen == 0 && h.mLen == 0 && h.cores == 0
      | 2 => decide (h.iLen ≤ 131072) && decide (h.dLen ≤ 32768) && h.sLen == 0 && h.mLen == 0 && h.cores == 0
      | 3 => !inner && h.iLen % 32 == 0 && decide (32 ≤ h.iLen ∧ h.iLen ≤ 512)
      | _ => false

/-- Does the body hash of an image hold? -/
def State.bodyHash (s : State) (a : Nat) : Bool :=
  beOctets (Config.sha256 (s.octets (a + 0x100) ((s.lup a).len - 0x100))).toNat 32 == s.octets (a + 0x80) 32

/-- The component entries of a bundle (Table 16-4): type, cores, header address, length. -/
def State.components (s : State) (a : Nat) : List (Nat × Nat × Nat × Nat) :=
  let h := s.lup a
  (List.range (h.iLen / 32)).map fun i =>
    let e := a + h.iOff + 32 * i
    ((s.byte e).toNat, (s.byte (e + 1)).toNat, a + (s.ldw (e + 4)).toNat, (s.ldw (e + 8)).toNat)

/-- Do the components of a bundle pass R369: each a fitting image of type 0–2 with its hash, at most one of types 1 and 2,
no core named twice? -/
def State.bundleFits (s : State) (a : Nat) : Bool :=
  let cs := s.components a
  (cs.all fun e => decide (e.1 ≤ 2) && (s.lup e.2.2.1).typ == e.1 && s.lupFits e.2.2.1 true
      && decide ((s.lup e.2.2.1).len ≤ e.2.2.2) && decide (e.2.2.1 + e.2.2.2 ≤ a + (s.lup a).len)
      && (if e.1 = 0 then (e.2.1 &&& (s.lup e.2.2.1).cores) == e.2.1 else e.2.1 == 0))
    && decide ((cs.filter fun e => e.1 == 1).length ≤ 1) && decide ((cs.filter fun e => e.1 == 2).length ≤ 1)
    && (cs.foldl (fun (m : Nat × Bool) e => (m.1 ||| e.2.1, m.2 && (m.1 &&& e.2.1) == 0)) (0, true)).2

/-- The check of an image at an address (R48, R49, R368): RANGE for a field, AUTH for a hash or a signature. -/
def State.checkLup (s : State) (a : Nat) : Nat × Nat × State :=
  let h := s.lup a
  if !(decide (0x80000000 ≤ a ∧ a + 0x100 ≤ 0x8FFC0000) && a % 4 == 0) || !s.isOn 9 || !s.lupFits a false
      || (h.typ == 3 && !s.bundleFits a) then (stRANGE, 0, s)
  else if !s.bodyHash a || (h.typ == 3 && !(s.components a).all fun e => s.bodyHash e.2.2.1) then
    (stAUTH, 0, s.authFail 5 h.keyId)
  else
    let d := s.sigDetail h.keyId false (Config.sha256 (s.octets a 0xC0)) (s.octets (a + 0xC0) 64)
    if d = 0 then (stOK, 0, s) else (stAUTH, d, s.authFail 5 h.keyId)

/-- VERIFY of the image at `a` with its origin: 0 DRAM, 1 slot A, 2 slot B (R368). The running slot's bundle is marked in
UPD_RUNENT (R372). -/
def State.verifyImage (s : State) (a origin : Nat) : UpdResult :=
  let r := s.checkLup a
  if r.1 ≠ stOK then (r.1, r.2.1, 0, .none, r.2.2)
  else match (List.range 8).find? fun v => !s.bit (UPD_VERv v) 31 with
    | none => (stFULL, 0, 0, .none, s)
    | some v =>
      let s := s.wr (UPD_VERv v) (word (2 ^ 31 + origin * 2 ^ 29 + (a - 0x80000000)))
      let s := s.modUpd fun u => { u with verLen := vset u.verLen v (s.lup a).len }
      let s := if (s.lup a).typ = 3 ∧ origin = s.fld UPD_BOOT 8 8 + 1 then s.setFld UPD_RUNENT 3 0 v else s
      (stOK, 0, v, .none, s)

/-- RELEASE (R368): a verified entry freed. -/
def State.freeEntry (s : State) (v : Nat) : State :=
  let s := (s.wr (UPD_VERv v) 0).modUpd fun u => { u with
    verLen := vset u.verLen v 0, bundle := if u.bundle = some v then none else u.bundle }
  if s.fld UPD_RUNENT 3 0 = v then s.setFld UPD_RUNENT 3 0 15 else s

/-- Every verified entry freed: at any reset, and when DRAM leaves ON (R368). -/
def State.freeEntries (s : State) : State := (List.range 8).foldl (fun s v => s.freeEntry v) s

/-- LOADSLOT (R368): the image of a COMPLETE slot copied to the address of UPD_ARG0, then verified. -/
def State.updLoadslot (s : State) : UpdResult :=
  let t := s.fld UPD_ARG1 0 0
  let a := (s.rd UPD_ARG0).toNat
  let n := fieldAt (s.octets (s.manifestBase t) 512) 0x008 4
  if s.tgt t ≠ 3 then (stNOTREADY, 0, 0, .none, s)
  else if !(decide (0x80000000 ≤ a ∧ a + n ≤ 0x8FFC0000)) || !s.isOn 9 then (stRANGE, 0, 0, .none, s)
  else (s.dmaWrite a (s.octets (s.imageBase t) n)).verifyImage a (t + 1)

/-! ### Settings (R374) -/

/-- The settings area's base and size. -/
def setBase : Nat := 0x60600000

/-- 1,984 KB. -/
def setSize : Nat := 0x1F0000

/-- The current generation: TRIAL during a trial, COMMITTED otherwise. -/
def State.curGen (s : State) : Nat := if s.bit UPD_BOOT 31 then s.fld UPD_SETGEN 31 16 else s.fld UPD_SETGEN 15 0

/-- Is generation `g` not above `h`, modulo 2¹⁶ (log entry 21)? -/
def genLe (g h : Nat) : Bool := (h + 65536 - g) % 65536 < 32768

/-- The lowest offset with room for `n` octets between the blocks, which stand in order of offset (log entry 21). -/
def findRoom (n : Nat) : Nat → List SetBlk → Option Nat
  | lo, [] => if lo + n ≤ setSize then some lo else none
  | lo, b :: t => if lo + n ≤ b.off then some lo else findRoom n (b.off + 12 + b.len) t

/-- Blocks removed. -/
def State.dropBlocks (s : State) (p : SetBlk → Bool) : State :=
  let gone := s.upd.settings.filter p
  let s := s.modUpd fun u => { u with settings := u.settings.filter fun b => !p b }
  gone.foldl (fun s b => s.dropMem (setBase + b.off) (setBase + b.off + 12 + b.len)) s

/-- SETW: a block written with its GEN stamped and its CRC; a copy with the same ID and GEN is replaced. -/
def State.updSetw (s : State) : UpdResult :=
  let a := (s.rd UPD_ARG0).toNat
  let id := s.loadN a 2
  let len := s.loadN (a + 6) 2
  if 4096 < len ∨ !s.updRange a (12 + len) then (stRANGE, 0, 0, .none, s)
  else
    let gen := s.curGen
    let same (b : SetBlk) : Bool := b.id == id && b.gen == gen
    match findRoom (12 + len) 0 (s.upd.settings.filter fun b => !same b) with
    | none => (stFULL, 0, 0, .none, s)
    | some off =>
      let head := s.octets a 4 ++ leOctets gen 2 ++ leOctets len 2
      let body := s.octets (a + 12) len
      let ver := s.loadN (a + 2) 2
      let s := s.dropBlocks same
      let blk : SetBlk := ⟨off, id, ver, gen, len⟩
      let s := s.modUpd fun u => { u with
        settings := (u.settings.filter fun b => decide (b.off < off)) ++ [blk] ++ (u.settings.filter fun b => decide (off < b.off)) }
      (stOK, 0, 0, .none, s.putOctets (setBase + off) (head ++ leOctets (crc32 (head ++ body)) 4 ++ body))

/-- SETFIND: the eMRAM offset of the copy with the highest GEN not above the current one, returned in UPD_ARG0, for which
the spec names no register (log entry 21). -/
def State.updSetfind (s : State) : UpdResult :=
  let id := s.fld UPD_ARG1 15 0
  let best := (s.upd.settings.filter fun b => b.id == id && genLe b.gen s.curGen).foldl
    (fun (m : Option SetBlk) b => match m with
      | none => some b
      | some x => if genLe x.gen b.gen then some b else some x) none
  match best with
  | none => (stNOTREADY, 0, 0, .none, s)
  | some b => (stOK, 0, 0, .none, s.wr UPD_ARG0 (word (0x600000 + b.off)))

/-- SETDEL: every copy of an ID with the current generation removed. -/
def State.updSetdel (s : State) : UpdResult :=
  let id := s.fld UPD_ARG1 15 0
  let gen := s.curGen
  (stOK, 0, 0, .none, s.dropBlocks fun b => b.id == id && b.gen == gen)

/-- The settings committed: COMMITTED takes TRIAL, and older copies superseded by a TRIAL copy go. -/
def State.commitSettings (s : State) : State :=
  let g := s.fld UPD_SETGEN 31 16
  let ids := (s.upd.settings.filter fun b => b.gen == g).map (·.id)
  (s.setFld UPD_SETGEN 15 0 g).dropBlocks fun b => b.gen != g && ids.contains b.id

/-! ### Trial, commit and revert (R373) -/

/-- COMMIT. -/
def State.updCommit (s : State) : UpdResult :=
  if !s.bit UPD_BOOT 31 then (stALREADY, 0, 0, .none, s)
  else
    let s := (s.setBit UPD_BOOT 31 false).setFld UPD_TRIAL 31 16 0
    let s := (s.setFld UPD_BOOT 17 16 0).commitSettings
    (stOK, 0, 0, .none, s.record 0xE5 recUPD_COMMIT (word (s.fld UPD_BOOT 8 8)) (word (s.fld UPD_SETGEN 15 0)) 0)

/-- A revert with its cause: 1 REVERT command, 2 watchdog, 3 third BOOT. -/
def State.revert (s : State) (cause : Nat) : State :=
  let trial := s.fld UPD_BOOT 0 0
  let s := (s.setFld UPD_BOOT 0 0 (1 - trial)).setBit UPD_BOOT 31 false
  let s := ((s.setBit UPD_BOOT 30 true).setFld UPD_BOOT 17 16 0).setFld UPD_TRIAL 31 16 0
  let s := s.setFld (UPD_TGTt_STAT trial) 31 29 4
  let g := s.fld UPD_SETGEN 31 16
  let c := s.fld UPD_SETGEN 15 0
  let s := s.dropBlocks fun b => b.gen == g && g != c
  let s := (s.setBit UPD_STAT 3 true).modUpd fun u => { u with revertDue := true }
  (s.record 0xE5 recUPD_REVERT (word cause) (word (1 - trial)) 0).raise 0xE5 0x03

/-- REVERT: without a trial there is nothing to revert (NOTREADY, log entry 21). -/
def State.updRevert (s : State) : UpdResult :=
  if s.bit UPD_BOOT 31 then (stOK, 0, 0, .none, s.revert 1) else (stNOTREADY, 0, 0, .none, s)

/-- TRIAL_EXPIRY (R373): the trial watchdog expires. -/
def execTrialExpiry (s : State) : Host.Outcome State Fault Refusal :=
  .next (if s.bit UPD_BOOT 31 then s.revert 2 else s)

/-- REVERT_TIMEOUT (R373): 10 s after a revert without a device activation, or after the exit of BACKUP, a warm device reset
is decided. -/
def execRevertTimeout (s : State) : Host.Outcome State Fault Refusal :=
  .next (if s.bit UPD_BOOT 30 ∧ s.upd.revertDue ∧ s.mode ≠ 7 then
      let s := s.modUpd fun u => { u with revertDue := false }
      { s with rep := { s.rep with reset := some (s.rep.reset.getD ⟨8⟩) } }
    else s)

/-! ### Commands -/

/-- Would the command change a target, a setting or UPD_BOOT (R384)? -/
def updChanges (cmd : Nat) : Bool := cmd = 1 || cmd = 2 || cmd = 6 || cmd = 7 || cmd = 8 || cmd = 10

/-- A command's effect by UPD_CMD.CMD and TARGET. -/
def State.updEffect (s : State) (cmd t : Nat) : UpdResult :=
  if s.mode == 9 && updChanges cmd then (stINHIBIT, 0, 0, .none, s) else
  match cmd with
  | 1 => s.updPiece t
  | 2 => s.updErase t
  | 3 => s.verifyImage (s.rd UPD_ARG0).toNat 0
  | 4 => if t < 8 ∧ s.bit (UPD_VERv t) 31 then (stOK, 0, 0, .none, s.freeEntry t) else (stRANGE, 0, 0, .none, s)
  | 5 => s.updLoadslot
  | 6 => s.updCommit
  | 7 => s.updRevert
  | 8 => s.updSetw
  | 9 => s.updSetfind
  | 10 => s.updSetdel
  | 11 =>
    if !s.updRange (s.rd UPD_ARG0).toNat 4096 then (stRANGE, 0, 0, .none, s) else
    let r := s.retirePage (s.rd UPD_ARG0).toNat
    (r.1, 0, 0, .none, r.2)
  | _ => (stRANGE, 0, 0, .none, s)

/-- A write of UPD_CMD (R383, R385): ignored while BUSY, which sets CMDLOST; else the command acts and its completion waits
for UPD_COMMAND_DONE. While LOG is not ON the write is discarded. -/
def State.updCmd (s : State) (cmd t : Nat) (svc : Option (Fin 8 × Word)) : State :=
  if !s.isOn 14 then s
  else if s.bit UPD_CMDSTAT 31 then s.setBit UPD_STAT 4 true
  else
    let r := s.updEffect cmd t
    let s := r.2.2.2.2.wr UPD_CMDSTAT 0x80000000
    s.modUpd fun u => { u with cmd := some ⟨r.1, r.2.1, r.2.2.1, r.2.2.2.1, svc⟩ }

/-- The bit of a piece set once the piece is written and read back (R366); a head moves the target to HEAD (R364). -/
def State.finPiece (s : State) : UpdFin → State
  | .none => s
  | .piece t stream i =>
    let s := if t ≤ 1 then s.modUpd fun u => { u with inprog := vset u.inprog t none } else s
    if stream = 0 then s.setFld (UPD_TGTt_STAT t) 31 29 1 else s.setPiece t stream i

/-- PIECE (R365). -/
def execPiece (t : Fin 16) (s : State) : Host.Outcome State Fault Refusal := .next (s.updCmd 1 t none)

/-- ERASE (R367). -/
def execErase (t : Fin 16) (s : State) : Host.Outcome State Fault Refusal := .next (s.updCmd 2 t none)

/-- VERIFY (R368). -/
def execUpdVerify (s : State) : Host.Outcome State Fault Refusal := .next (s.updCmd 3 0 none)

/-- RELEASE (R368). -/
def execUpdRelease (v : Fin 16) (s : State) : Host.Outcome State Fault Refusal := .next (s.updCmd 4 v none)

/-- LOADSLOT (R368). -/
def execLoadslot (s : State) : Host.Outcome State Fault Refusal := .next (s.updCmd 5 0 none)

/-- COMMIT (R373). -/
def execUpdCommit (s : State) : Host.Outcome State Fault Refusal := .next (s.updCmd 6 0 none)

/-- REVERT (R373). -/
def execUpdRevert (s : State) : Host.Outcome State Fault Refusal := .next (s.updCmd 7 0 none)

/-- SETW (R374). -/
def execSetw (s : State) : Host.Outcome State Fault Refusal := .next (s.updCmd 8 0 none)

/-- SETFIND (R374). -/
def execSetfind (s : State) : Host.Outcome State Fault Refusal := .next (s.updCmd 9 0 none)

/-- SETDEL (R374). -/
def execSetdel (s : State) : Host.Outcome State Fault Refusal := .next (s.updCmd 10 0 none)

/-- PGRET (R382). -/
def execPgret (s : State) : Host.Outcome State Fault Refusal := .next (s.updCmd 11 0 none)

/-- LIST_HASH_DONE (R367): with every list piece of a target in HEAD received, a match moves it to LIST; a mismatch clears
every list bit and sets LISTFAIL. -/
def execListHashDone (t : Fin 6) (s : State) : Host.Outcome State Fault Refusal :=
  .next (if s.isOn 14 ∧ s.tgt t = 1 ∧ (s.listBits t).length = s.nlist t then
      let list := s.octets (s.manifestBase t + 512) (32 * s.npiece t)
      if beOctets (Config.sha256 list).toNat 32 = s.octets (s.manifestBase t + 0x40) 32 then
        s.setFld (UPD_TGTt_STAT t) 31 29 2
      else (s.setBits t [] (s.imgBits t)).setBit UPD_STAT 1 true
    else s)

/-- IMAGE_HASH_DONE (R367): with every image piece of a target in LIST received, a match moves it to COMPLETE, a mismatch
to BAD. -/
def execImageHashDone (t : Fin 6) (s : State) : Host.Outcome State Fault Refusal :=
  .next (if s.isOn 14 ∧ s.tgt t = 2 ∧ (s.imgBits t).length = s.npiece t then
      let n := fieldAt (s.octets (s.manifestBase t) 512) 0x008 4
      if beOctets (Config.sha256 (s.octets (s.imageBase t) n)).toNat 32 = s.octets (s.manifestBase t + 0x20) 32 then
        let s := (s.setFld (UPD_TGTt_STAT t) 31 29 3).setBit UPD_STAT 0 true
        (s.record 0xE5 recUPD_COMPLETE (word t.val) (s.rd (UPD_TGTt_VERLO t)) (s.rd (UPD_TGTt_VERHI t))).raise 0xE5 0x01
      else (s.setFld (UPD_TGTt_STAT t) 31 29 4).setBit UPD_STAT 2 true
    else s)

/-- At BOOT a target with an index in its in-progress word has the sector of that piece erased and the bits of the pieces in
it cleared (R366). -/
def State.resumePieces (s : State) : State :=
  (List.range 2).foldl (fun (s : State) t =>
    match vget s.upd.inprog t none with
    | none => s
    | some (stream, i) =>
      let n := sectorOf t stream i
      let s := s.dropMem (flashBase + 65536 * n) (flashBase + 65536 * (n + 1))
      let keep (st : Nat) (b : Tab Bool) : Tab Bool := b.filter fun e => sectorOf t st e.1 != n
      let s := s.setBits t (keep 1 (s.listBits t)) (keep 2 (s.imgBits t))
      s.modUpd fun u => { u with inprog := vset u.inprog t none }) s

/-! ### Activation (R370–R372, R50) -/

/-- The verified entry whose header lies at an address. -/
def State.entryAt (s : State) (a : Nat) : Option Nat :=
  (List.range 8).find? fun v => s.bit (UPD_VERv v) 31 && 0x80000000 + s.fld (UPD_VERv v) 27 0 == a

/-- Has the key object of an image become INVALID or ORPHAN since its VERIFY (R370 check 3)? -/
def State.keyLost (s : State) (a : Nat) : Bool :=
  let k := s.obj (s.lup a).keyId
  k.state == 2 || k.state == 3

/-- Is an activation of scope 0 onto any core in progress? -/
def State.swapping (s : State) : Bool := (List.range 8).any fun c => (vget s.upd.swap c none).isSome

/-- Is a scope-3 activation in progress: SYS_MODE ACTIVATE (R372)? -/
def State.activating (s : State) : Bool := s.mode == 8

/-- What ACT of every scope does first: the mode rule of REPLAY (R43), the serving domains LOG and DRAM in domain order
(R30), the TYPE of the image (R370 check 1), the verified entry (check 2) and its key (check 3). -/
def State.actChecks (s : State) (c : Fin 8) (gd ga : Fin 16) (typ : Nat) (range : State → Nat → Option Nat)
    (busy : Bool) (ready : State → Nat → Bool) (act : State → Nat → Nat → State) : State :=
  if s.mode == 9 then s.complete c gd stNOTREADY else
  s.serve c gd [9, 14] fun s =>
    let a := (s.gpr c ga).toNat
    let inDram : Bool := decide (0x80000000 ≤ a ∧ a + 0x100 ≤ 0x8FFC0000)
    if inDram ∧ (s.lup a).typ ≠ typ then s.complete c gd stRANGE
    else match (if inDram then range s a else none) with
    | some d => s.complete c gd stRANGE d
    | none => match s.entryAt a with
      | none => s.complete c gd stNOTREADY
      | some v =>
        if !ready s v then s.complete c gd stNOTREADY
        else if s.keyLost a then (s.authFail 5 (s.lup a).keyId).complete c gd stAUTH
        else if busy || s.activating then s.complete c gd stBUSY
        else (act s a v).complete c gd stOK

/-- A program swap started (Table 02-14, steps 1 and 2). -/
def State.beginSwap (s : State) (t : Fin 8) (a : Nat) : State :=
  (s.beginLoad t).modUpd fun u => { u with swap := vset u.swap t.val (some a) }

/-- ACT, scope 0 (R50, R370): imm18[6:4] the target core; the other bits of imm18[17:2] are reserved. -/
def execAct (c : Fin 8) (gd ga : Fin 16) (imm : BitVec 16) (s : State) : Host.Outcome State Fault Refusal :=
  .next (s.issue c fun s => s.legal c (imm.toNat % 4 != 0 || imm.toNat / 32 != 0) fun s =>
    let t : Fin 8 := Fin.ofNat 8 (imm.toNat / 4)
    s.actChecks c gd ga 0
      (fun s a => if (s.core t).run = .retired ∨ !(s.lup a).cores.testBit t.val ∨ t = c then some 0 else none)
      (vget s.upd.swap t.val none).isSome (fun _ _ => true) (fun s a _ => s.beginSwap t a))

/-- ACT, scope 1 (R371): the packet engine pauses; imm18[17:2] reserved. -/
def execActPktMicrocode (c : Fin 8) (gd ga : Fin 16) (imm : BitVec 16) (s : State) : Host.Outcome State Fault Refusal :=
  .next (s.issue c fun s => s.legal c (imm != 0) fun s =>
    s.actChecks c gd ga 1 (fun _ _ => none) s.upd.pktPause (fun _ _ => true)
      (fun s _ _ => (s.modUpd fun u => { u with pktPause := true }).avail true))

/-- ACT, scope 2 (R370): the GNSS microcode is swapped; imm18[17:2] reserved. -/
def execActGnssMicrocode (c : Fin 8) (gd ga : Fin 16) (imm : BitVec 16) (s : State) : Host.Outcome State Fault Refusal :=
  .next (s.issue c fun s => s.legal c (imm != 0) fun s =>
    s.actChecks c gd ga 2 (fun _ _ => none) s.upd.gnssPause (fun _ _ => true)
      (fun s _ _ => (s.modUpd fun u => { u with gnssPause := true }).avail true))

/-- Does a type-0 component of a bundle name only retired cores (R370, detail 4)? -/
def State.onlyRetired (s : State) (a : Nat) : Bool :=
  (s.components a).any fun e => e.1 == 0 &&
    (List.range 8).all fun c => !e.2.1.testBit c || s.bit SEQ_RETIRE c

/-- May the entry be staged as a bundle: loaded by LOADSLOT from a COMPLETE slot other than UPD_BOOT.RUN (R370)? -/
def State.bundleReady (s : State) (v : Nat) : Bool :=
  let o := s.fld (UPD_VERv v) 30 29
  (o == 1 || o == 2) && s.tgt (o - 1) == 3 && o - 1 != s.fld UPD_BOOT 8 8

/-- ACT, scope 3 (R370): the bundle is staged; imm18[17:2] reserved. -/
def execActBundle (c : Fin 8) (gd ga : Fin 16) (imm : BitVec 16) (s : State) : Host.Outcome State Fault Refusal :=
  .next (s.issue c fun s => s.legal c (imm != 0) fun s =>
    s.actChecks c gd ga 3 (fun s a => if s.onlyRetired a then some 4 else none) false (fun s v => s.bundleReady v)
      (fun s _ v => s.modUpd fun u => { u with bundle := some v }))

/-- The header address of the component of a bundle that loads onto a core. -/
def State.componentOf (s : State) (a c : Nat) : Option Nat :=
  ((s.components a).find? fun e => e.1 == 0 && e.2.1.testBit c).map (·.2.2.1)

/-- The program a RELOAD puts on a core: its component of the running bundle (R387). -/
def State.runComponent (s : State) (c : Nat) : Option Nat :=
  let v := s.fld UPD_RUNENT 3 0
  if v < 8 ∧ s.bit (UPD_VERv v) 31 then s.componentOf (0x80000000 + s.fld (UPD_VERv v) 27 0) c else none

/-- A core program loaded and started (Table 02-14, steps 3 to 5): I and D sections, zero fill, S and M sections, the EVSEL
table, EVVEC, EVMASK zero, at ENTRY at L0. Scratchpad bytes outside the sections are not preserved, but with KEEPD. -/
def State.loadProgram (s : State) (c : Fin 8) (a : Nat) : State :=
  let h := s.lup a
  let i := s.octets (a + h.iOff) h.iLen
  let d := s.octets (a + h.dOff) h.dLen
  let sh := s.octets (a + h.sOff) h.sLen
  let m := s.octets (a + h.mOff) h.mLen
  let ev := (List.range 32).map fun k => s.loadN (a + h.evsel + 2 * k) 2
  let s := s.dropMem (iscrBase c) (iscrBase c + 0x10000)
  let s := if h.flags / 2 % 2 = 1 then s else s.dropMem (dscrBase c) (dscrBase c + 0x10000)
  let s := (s.putOctets (iscrBase c) i).putOctets (dscrBase c) (d ++ List.replicate h.dZero 0)
  let s := (s.putOctets h.sAddr sh).dmaWrite h.mAddr m
  let s := if h.evsel = 0 then s else (List.range 32).foldl (fun s k => s.wr (SEQ_EVSELn_m c.val k) (word (ev.getD k 0))) s
  let s := s.modCore c fun k => { k with
    run := .running, pc := h.entry, evvec := h.evvec &&& ~~~(0x7FF : Word), evmask := 0, level := 0
    latch := Vector.replicate 4 none, wbuf := [], tarm := Vector.replicate 8 none }
  (s.setBit (SEQ_CTLn c.val) 0 true).modUpd fun u => { u with swap := vset u.swap c.val none }

/-- PROGRAM_SWAP_END (R50): a core that is LOADING starts on its new program, or on its component of the running bundle for
a RELOAD; without either it is HALTED. -/
def execProgramSwapEnd (c : Fin 8) (s : State) : Host.Outcome State Fault Refusal :=
  .next (if (s.core c).run = .loading then
      (match (vget s.upd.swap c.val none).or (s.runComponent c.val) with
       | some a => s.loadProgram c a
       | none => s.modCore c fun k => { k with run := .halted })
    else s)

/-- The cores a bundle loads: named by a type-0 component and not retired (R372). -/
def State.bundleCores (s : State) (a : Nat) : List (Fin 8) :=
  (List.finRange 8).filter fun c => (s.componentOf a c.val).isSome && !s.bit SEQ_RETIRE c.val

/-- The components of a bundle loaded onto their cores, the boot core last (Table 16-6, steps 4 and 5). -/
def State.loadBundle (s : State) (a : Nat) : State :=
  let boot := s.fld SEQ_BOOTCORE 2 0
  let cs := s.bundleCores a
  ((cs.filter fun c => c.val != boot) ++ (cs.filter fun c => c.val == boot)).foldl (fun (s : State) (c : Fin 8) =>
    match s.componentOf a c.val with
    | some h => s.loadProgram c h
    | none => s) s

end Sys2Proof.Machine
end

