-- ==== Sys2Proof/Machine/Agents.lean ====
section
/-!
DEFINITION. Sys2Proof/Machine/Agents.lean: the block agents of Table 13-6 and how each answers a request for RET or OFF
(R36, R113, R143, R179, R264, R284, R304, R316), and what each domain loses, keeps and does when it leaves ON and when it is ON
again (R310 and the power rules of every chapter).
-/
namespace Sys2Proof.Machine

/-! ### Answers -/

/-- An agent's answer (R312): GRANT, DELAY in 10 µs units, or REFUSE with a reason of Table 13-5. -/
inductive Answer where
  | grant
  | delay (n : Nat)
  | refuse (reason : Nat)
  deriving DecidableEq, Repr

/-- The answer of an agent that names how long its work lasts: `none` beyond 2.55 ms. -/
def timedAnswer (reason : Nat) : Option Nat → Answer
  | none => .refuse reason
  | some 0 => .grant
  | some n => .delay n

/-- A core's agent (R36). `issuer` is the core that issued the request. How long a running core's DELAY lasts is not stated, so
its shortest is taken: DELAY_EXPIRY says when it is over. -/
def State.coreAnswer (s : State) (c : Fin 8) (off : Bool) (issuer : Option (Fin 8)) : Answer :=
  let k := s.core c
  if off then .refuse 2
  else if s.bit (SEQ_CTLn c.val) 8 then .refuse 3
  else if issuer = some c then .grant
  else if k.dbgHalt then .grant
  else match k.run with
  | .halted => .grant
  | .retired => .grant
  | .wfe => if k.enabledPending then .delay 1 else .grant
  | _ => .delay 1

/-- The cores of SEQA or SEQB. -/
def domCores (d : Nat) : List (Fin 8) := (List.finRange 8).filter fun c => coreDom c == d

/-- The agents of a domain that is ON with their block IDs and answers (Table 13-6), in ascending block ID. -/
def State.agents (s : State) (d : Nat) (off : Bool) (issuer : Option (Fin 8)) : List (Nat × Answer) :=
  match d with
  | 1 => (domCores 1).map fun c => (coreBlock c, s.coreAnswer c off issuer)
  | 2 => (domCores 2).map fun c => (coreBlock c, s.coreAnswer c off issuer)
  | 3 => [(0x30, timedAnswer 4 s.cardAnswer)]
  | 4 => [(0x41, timedAnswer 5 (s.chainAnswer 0)), (0x42, timedAnswer 5 (s.chainAnswer 1))]
  | 5 => [(0x51, timedAnswer 5 (s.chainAnswer 2))]
  | 6 => [(0x60, .grant)]
  | 7 => [(0x70, timedAnswer 6 s.macAnswer), (0x74, .grant),
      (0x75, match s.fwd.cmd with
        | none => .grant
        | some c => if c.rebuild then .refuse 7 else .delay 4), (0x76, .grant)]
  | 8 => [(0x80, match s.keys.cmd with
        | some k => if k.cmd = 8 ∨ k.cmd = 9 ∨ k.cmd = 1 then .refuse 7 else .delay 15
        | none => if s.bit KEYS_GCM_CTL 31 then .delay 1 else .grant)]
  | 9 => [(0x90, .grant)]
  | 10 => [(0xA0, if vget s.net.wait 0 [] = [] ∧ vget s.net.wait 1 [] = [] then .grant else .delay 2)]
  | 11 => [(0xB0, if s.host.link = 1 then .refuse 13 else .grant)]
  | 12 => [(0xC0, .grant)]
  | 13 => [(0xD0, .grant)]
  | 14 => [(0xE1, if s.rep.queue = [] then .grant else .delay 2)]
  | _ => []

/-- The debug port's agent (R316, R359): it answers for a domain attached to a session. -/
def State.debugAgent (s : State) (d : Nat) (off : Bool) : List (Nat × Answer) :=
  if s.attached d then [(0x0D, if !off && s.bit DBG_SESS 24 then .grant else .refuse 9)] else []

/-- Every agent asked for RET or OFF of a domain: all of them when it is ON, only the debug port's from RET (R311). -/
def State.asked (s : State) (d : Nat) (off : Bool) (issuer : Option (Fin 8)) : List (Nat × Answer) :=
  s.debugAgent d off ++ (if (s.dom d).state == .on then s.agents d off issuer else [])

/-- The answers of a domain overridden by a forced entry (R325, R327): each refusal with its reason, each DELAY with reason 16.
Also how many they were. -/
def State.override (s : State) (d : Nat) (off : Bool) : Nat × State :=
  (s.asked d off none).foldl (fun (a : Nat × State) e => match e.2 with
    | .grant => a
    | .delay _ => (a.1 + 1, a.2.noteRefusal d e.1 16 3)
    | .refuse r => (a.1 + 1, a.2.noteRefusal d e.1 r 3)) (0, s)

/-! ### Leaving ON -/

/-- TIME leaves ON (R30): a TWAIT or MWAIT that waits completes NOTREADY with domain 12; the counter stops (R82). -/
def State.timeDeparts (s : State) : State :=
  let s := (List.finRange 8).foldl (fun (s : State) (c : Fin 8) => match (s.core c).run with
    | .waiting (.twait ..) => s.finishAt c (completion stNOTREADY 12)
    | .waiting (.mwait ..) => s.finishAt c (completion stNOTREADY 12)
    | _ => s) s
  s.modTime fun t => { t with running := false }

/-- A Plank bank that is ARMED returns to STAGING as LOG enters RET (R384). -/
def State.disarmRet (s : State) : State :=
  (List.range 2).foldl (fun (s : State) b =>
    if s.fld (PLANK_BANKb_STAT b) 31 29 = 3 then
      (s.setFld (PLANK_BANKb_STAT b) 31 29 1).record 0xE4 recPLANK_DISARM (word b) 0 0
    else s) s

/-- What a forced entry does at once in a domain that is ON (Table 13-8, steps 3 and 4): transmissions and lanes end, the packet
engine is emptied, commands are abandoned. -/
def State.forcedEffects (s : State) (d : Nat) : State :=
  match d with
  | 3 => s.cardLeave
  | 4 => s.txForced 4
  | 5 => s.txForced 5
  | 7 => (s.macForced.fwdForced.schedEmptied).qfabEmpty
  | 8 => s.preemptKeys
  | _ => s

/-- LOG's registers as after OFF or a reset (R384, R409): both banks EMPTY, windows and actions gone, the frozen journal's
pointers kept in eMRAM. -/
def State.logReset (s : State) : State :=
  let s := s.freeEntries
  let s := s.rep.queue.foldl (fun (s : State) r => s.lose r.code) s
  let frozen := s.bit REPLAY_STAT 31
  let stat := s.rd REPLAY_STAT &&& 0x8000000F
  let wr := s.rd REPLAY_JWR
  let old := s.rd REPLAY_JOLD
  let trig := s.rd REPLAY_TRIG
  let left := s.fld UPD_TRIAL 31 16
  let s := (((s.resetBlock 0x40110000).resetBlock 0x40120000).resetBlock 0x40130000).resetBlock 0x40140000
  let s := ((s.resetBlock 0x40150000).wr LOG_QUEUE 0).setFld UPD_TRIAL 31 16 left
  let s := if frozen then (((s.wr REPLAY_STAT stat).wr REPLAY_JWR wr).wr REPLAY_JOLD old).wr REPLAY_TRIG trig
    else (s.wr REPLAY_STAT 0).modReplay fun _ =>
      { entries := [], ckpts := [], ckNum := 0, lost := 0, frozenAt := 0, todo := [], input := [] }
  let s := s.modReplay fun r => { r with todo := [], input := [] }
  let s := { s with rep := { s.rep with
    queue := [], rates := [], wins := [], acts := [], cursor := Vector.replicate 10 (0, false), throttle := false, ecc := [] } }
  { s with
    plank := { imm := Vector.replicate 2 false, late := Vector.replicate 2 false, host := Vector.replicate 2 false }
    upd := { s.upd with cmd := none, verLen := Vector.replicate 8 0, bundle := none } }

/-- The journal, the rings and the frozen state lost (R409). -/
def State.journalLost (s : State) : State :=
  let s := (((s.wr REPLAY_STAT 0).wr REPLAY_JWR 0).wr REPLAY_JOLD 0).wr REPLAY_TRIG 0
  s.modReplay fun _ => { entries := [], ckpts := [], ckNum := 0, lost := 0, frozenAt := 0, todo := [], input := [] }

/-- The cores of a domain without power (R310, R24, R25): every register of theirs as after a reset, scratchpads lost; SEQA
takes the shared scratch with it. -/
def State.seqOff (s : State) (d : Nat) : State :=
  let s := (domCores d).foldl (fun (s : State) c => s.modCore c fun k =>
    { coreReset with run := (if k.run = .retired then .retired else .halted), held := k.held }) s
  let s := (domCores d).foldl (fun (s : State) c =>
    let s := (s.resetRange (SEQ_CTLn c.val) (SEQ_CTLn c.val + 0x40)).resetRange (SEQ_EVSELn_m c.val 0) (SEQ_EVSELn_m c.val 32)
    (s.resetRange (SEQ_MBINn_k c.val 0) (SEQ_MBINn_k c.val 0 + 0x100)).dropMem (iscrBase c) (iscrBase c + 0x20000)) s
  if d = 1 then s.dropMem 0x50000000 0x50200000 else s

/-- What a domain does as its entry to RET is complete. -/
def State.atRet (s : State) (d : Nat) : State :=
  let s := { s with power := { s.power with retAt := vset s.power.retAt d s.elapsed } }
  match d with
  | 3 => s.cardLeave
  | 5 => s.producerOff 64
  | 6 => if s.bit GNSS_ANT 4 then s else s.setAnt 0 0
  | 7 => s.fwdRet.schedRet
  | 8 => s.keysLeaveOn false
  | 9 => s.freeEntries
  | 10 => ((s.producerOff 70).producerOff 71).modNet fun n => { n with wait := Vector.replicate 2 [] }
  | 11 => s.gpioHold
  | 12 => s.timeDeparts
  | 14 => s.disarmRet
  | _ => s

/-- What a domain loses as its entry to OFF is complete: registers, and what its chapter says (R310). -/
def State.atOff (s : State) (d : Nat) : State :=
  match d with
  | 1 => s.seqOff 1
  | 2 => s.seqOff 2
  | 3 => s.cardLeave.cardOff.cardReset
  | 4 => s.txReset 4
  | 5 => (s.producerOff 64).txReset 5
  | 6 => (s.gnssReset).modUpd fun u => { u with gnssPause := false }
  | 7 => ((((s.qfabEmpty.macReset).fwdReset).schedReset).resetBlock 0x40090000).modUpd fun u => { u with pktPause := false }
  | 8 =>
    let halt := s.bit KEYS_STAT 2
    let open_ := s.fld DBG_SESS 31 30 == 2 || s.fld DBG_SESS 31 30 == 3
    let s := (s.keysLeaveOn true).resetBlock 0x400C0000
    { s with dbg := { s.dbg with crypOff := true } }.setBit KEYS_STAT 2 (halt && open_)
  | 9 =>
    let s := (s.freeEntries.journalLost).dropMem 0x80000000 0x90000000
    s.modFwd fun f => { f with shadow := [], em := Vector.replicate 2 [] }
  | 10 => ((s.producerOff 70).producerOff 71).netReset
  | 11 => s.gpioHold.hostReset
  | 12 =>
    let s := s.timeDeparts.resetBlock 0x40030000
    s.modTime fun t => { t with sec := 0, grn := 0, sub := 0 }
  | 13 => s.fleetReset
  | 14 => s.logReset
  | _ => s

/-! ### Coming ON -/

/-- Events held by their sources are delivered as a core's domain is ON again, with NOCLK (R41). -/
def State.releaseHeld (s : State) (c : Fin 8) : State :=
  let held := (s.core c).held
  let s := s.modCore c fun k => { k with held := 0 }
  (List.finRange 32).foldl (fun (s : State) (m : Fin 32) =>
    if !bitAt held m.val then s
    else if bitAt (s.core c).evpend m.val then s.setBit (SEQ_EVOVRn c) m.val true
    else s.modCore c fun k => { k with
      evpend := k.evpend ||| word (2 ^ m.val)
      arrival := tabSet (fun _ => (0, false)) k.arrival m (k.cyc, true)
      run := if k.run = .wfe ∧ bitAt k.evmask m then .running else k.run }) s

/-- The cores of a domain go on where they stopped (R45): a TWAIT whose time has passed completes LATE; held events come. -/
def State.seqArrives (s : State) (d : Nat) : State :=
  let s := (domCores d).foldl (fun (s : State) c =>
    let s := match (s.core c).run with
      | .waiting (.twait _ sec grn) =>
        if s.timeRuns && decide (0 < tdiff s.trdNow (tval sec grn)) then s.finishAt c (completion stLATE) else s
      | _ => s
    s.releaseHeld c) s
  -- an access of SEQB that waited for SEQA issues again (R23)
  if d ≠ 1 then s else (List.finRange 8).foldl (fun (s : State) (c : Fin 8) =>
    if (s.core c).run = .waiting .scratch then s.modCore c fun k => { k with run := .running } else s) s

/-- A GAP entry as the journal can go on (R315, R404, R409). -/
def State.gapEntry (s : State) : State :=
  if s.bit REPLAY_CTL 31 && !s.bit REPLAY_STAT 31 && s.isOn 9 && s.isOn 14 then
    let n := s.rep.replay.lost
    let s := s.setBit REPLAY_STAT 30 true
    let s := if n = 0 then s.bump REPLAY_GAPS 31 0 else s
    (s.modReplay fun r => { r with lost := 0, ckpts := r.ckpts.map fun c => { c with gap := true } }).journal 13 15
      (word (s.clock / 4)) (word n) []
  else s

/-- CRYP leaves RET (R358): the tag of each sealed register is checked. `sealOk`: all of them match. A mismatch clears every
register; the tamper of source 6 is the caller's. -/
def State.unseal (s : State) (sealOk : Bool) : State :=
  if !((List.range 5).any fun e => s.bit (KEYS_WKRe e) 30) then s
  else if sealOk then (List.range 5).foldl (fun (s : State) e => s.setBit (KEYS_WKRe e) 30 false) s
  else s.clearKeys true

/-- What a domain does when it is ON again, out of RET or out of OFF. -/
def State.atOn (s : State) (d : Nat) (fromOff sealOk : Bool) : State :=
  let rtc := s.elapsed - vget s.power.retAt d 0
  match d with
  | 1 => s.seqArrives 1
  | 2 => s.seqArrives 2
  | 3 => if fromOff then s else s.cardFromRet
  | 4 => if fromOff then s.dutyRestore 0 else s.dutyAge 0 (rtc / 65536)
  | 5 => if fromOff then s.dutyRestore 1 else s.dutyAge 1 (rtc / 65536)
  | 6 =>
    if fromOff then s
    else (if s.bit GNSS_ANT 0 && s.antSt == 0 then s.setFld GNSS_ANT 18 16 1 else s).gnssFromRet
  | 7 => if fromOff then s else (s.fwdFromRet.schedFromRet).macFromRet rtc
  | 8 => if fromOff then s.unrestore else s.unseal sealOk
  | 9 => s.gapEntry
  | 12 => s.timeCold
  | 13 => if fromOff then s else s.fleetFromRet (rtc / 65536)
  | 14 => s.flushAon.gapEntry
  | _ => s

end Sys2Proof.Machine
end

