-- ==== Sys2Proof/Machine/Mode.lean ====
section
/-!
DEFINITION. Sys2Proof/Machine/Mode.lean: the operating modes (01: R9, R13–R18): the transitions of Table 01-7, the instruction
MODE, a change taking effect, entry by hardware, and the tamper response (15: R351, Table 15-3), which ends in ZEROIZED.
-/
namespace Sys2Proof.Machine

/-! ### Tables 01-6 and 01-7 -/

/-- The domains that PWR_BAKSET keeps ON. -/
def State.bakset (s : State) : List Nat := (List.range 15).filter fun d => d != 0 && s.bit PWR_BAKSET d

/-- The domains of PD1–PD14 that a mode requires (Table 01-6); ACTIVATE requires what the mode before it did. -/
def State.modeDomains (s : State) (m : Nat) : List Nat :=
  let m := if m = 8 then s.fld SYS_MODE 11 8 else m
  match m with
  | 0 => [1, 8, 11, 14]
  | 1 => [1, 8, 11, 14]
  | 2 => [1, 2, 3, 4, 7, 8, 9, 12, 14]
  | 3 => [1, 2, 3, 4, 5, 6, 7, 8, 9, 12, 13, 14]
  | 4 => [1, 2, 5, 6, 7, 8, 9, 12, 13, 14]
  | 5 => [1, 2, 3, 4, 5, 6, 7, 8, 9, 12, 13, 14]
  | 6 => [1, 2, 3, 4, 5, 6, 7, 8, 9, 12, 13, 14]
  | 7 => s.bakset
  | 9 => [1, 2, 9, 12, 14]
  | 10 => [1, 14]
  | 11 => [1, 11, 14]
  | _ => []

/-- A cell of Table 01-7. -/
inductive Cell where
  | refused | permitted | lifecycle | journal
  deriving DecidableEq, Repr

/-- Table 01-7: may MODE take the device from one mode to another? -/
def modeCell (old new : Nat) : Cell :=
  let y (l : List Nat) : Cell := if l.contains new then .permitted else .refused
  match old with
  | 0 => if new = 1 then .lifecycle else y [2, 3, 4, 5, 6, 10]
  | 1 => if new = 6 ∨ new = 10 then .lifecycle else .refused
  | 2 => y [3, 4, 5, 6, 8, 10]
  | 3 => y [2, 4, 5, 6, 8, 10]
  | 4 => y [2, 3, 5, 6, 8, 10]
  | 5 => if new = 9 then .journal else y [2, 3, 4, 6, 8, 10]
  | 6 => if new = 1 then .lifecycle else y [2, 3, 4, 5, 8, 10]
  | 9 => y [5, 10]
  | 10 => if new = 1 then .lifecycle else if new = 9 then .journal else y [2, 3, 4, 5, 6]
  | _ => .refused

/-! ### The replay set (R406) -/

/-- Core n's bit of REPLAY_CTL.CORES. -/
def State.inSet (s : State) (c : Fin 8) : Bool := s.bit REPLAY_CTL c.val

/-- The start point of a replay (R406): the latest checkpoint set taken BACK seconds before the freeze with no GAP after it, or
where none lies that far back, the oldest set. -/
def State.startPoint (s : State) : Option Ckpt :=
  let l := s.rep.replay.ckpts.filter fun k => !k.gap
  let far := l.filter fun k => decide (k.taken + s.fld REPLAY_CTL 15 8 * 1000000000 ≤ s.rep.replay.frozenAt)
  far.getLast?.or l.head?

/-! ### MODE (R13, Table 01-8) -/

/-- Status and detail of a MODE to `target` issued by core c (Table 01-8). -/
def State.modeCheck (s : State) (c : Fin 8) (target : Nat) : Nat × Nat :=
  if s.modeReq.isSome then (stBUSY, 0) else
  let ready (s : State) (m : Nat) : Nat × Nat := if (s.modeDomains m).all s.isOn then (stOK, 0) else (stNOTREADY, 0)
  match modeCell s.mode target with
  | .refused => (stILLEGAL, 0)
  | .lifecycle => if 1 < s.lifecycle then (stLIFECYCLE, 0) else ready s target
  | .journal =>
    if !s.isOn 9 then (stNOTREADY, 9)
    else if !s.bit REPLAY_STAT 31 then (stNOTREADY, 0)
    else if s.fld REPLAY_CTL 7 0 = 0 || s.inSet c then (stNOTREADY, 0)
    else if s.startPoint.isNone then (stNOTREADY, 0)
    else ready s target
  | .permitted =>
    if target = 8 then
      (if s.upd.bundle.isNone || s.fld UPD_RUNENT 3 0 == 15 then (stNOTREADY, 0) else ready s s.mode)
    else ready s target

/-- SYS_MODE_STAT after a request or a hardware entry: issuer, target, status; REFUSED counts what is not OK. -/
def State.noteMode (s : State) (src target status : Nat) : State :=
  let s := if status = stOK then s else s.bump SYS_MODE_STAT 31 16
  s.setFld SYS_MODE_STAT 11 0 (src * 256 + target * 16 + status)

/-- MODE (R13, R16, R17): sub20[3:0] the target. Accepted, it takes effect on the edge of MODE_CHANGE. -/
def execMode (c : Fin 8) (gd : Fin 16) (sub : BitVec 20) (rsv : BitVec 2) (s : State) : Host.Outcome State Fault Refusal :=
  .next (s.issue c fun s => s.legal c (rsv != 0 || sub.toNat / 16 != 0) fun s =>
    let t := sub.toNat % 16
    let r := s.modeCheck c t
    if r.1 = stOK then { s with modeReq := some ⟨c, gd, t, none⟩ }.waitOn c (.mode gd t)
    else (s.noteMode c t r.1).complete c gd r.1 r.2)

/-! ### A change takes effect (R17, R18) -/

/-- R18 and R15: the stop latch on a change of mode. -/
def State.modeLatch (s : State) (old new : Nat) : State :=
  let fleet (m : Nat) : Bool := m == 3 || m == 4
  let kept (m : Nat) : Bool := fleet m || m == 8
  if new = 11 then (if s.latched then s else s.setLatch 0x05)
  else if fleet old && !kept new then s.setLatch 0x04
  else if fleet new && !kept old && !s.latched then s.setLatch 0x04
  else s

/-- Every ARMED bank returns to CHECKED on entry to REPLAY (cause 1) or ZEROIZED (cause 2) (R384). -/
def State.disarmMode (s : State) (cause : Nat) : State :=
  (List.range 2).foldl (fun (s : State) b =>
    if s.fld (PLANK_BANKb_STAT b) 31 29 = 3 then
      (s.setFld (PLANK_BANKb_STAT b) 31 29 2).record 0xE4 recPLANK_DISARM (word b) (word cause) 0
    else s) s

/-- The cores of the replay set changed, but the retired ones. -/
def State.modSet (s : State) (f : State → Fin 8 → State) : State :=
  (List.finRange 8).foldl (fun (s : State) (c : Fin 8) =>
    if s.inSet c && (s.core c).run != .retired then f s c else s) s

/-- What a mode starts and stops on the edge it is entered, beyond the latch. -/
def State.modeEffects (s : State) (old new : Nat) : State :=
  let s := if new = 9 then s.disarmMode 1 else if new = 11 then s.disarmMode 2 else s
  let s := s.txMode
  let s := if new = 6 then s.modGnss fun g => { g with surveyAt := s.clock } else s
  let s := if old = 7 then s.modMac fun m => { m with backupExit := true } else s
  let s := if new = 11 then s.closeSession 4 else s
  let s := if new = 9 then
      let s := s.wr REPLAY_STAT ((s.rd REPLAY_STAT &&& 0xC000000F) ||| 0x20000000)
      let s := [REPLAY_OWR, REPLAY_PROG, REPLAY_DIVIDX, REPLAY_DIVINFO, REPLAY_DIVREC, REPLAY_DIVREP].foldl (fun s a => s.wr a 0) s
      s.modSet fun s c => s.modCore c fun k => { k with run := .halted }
    else s
  let s := if old = 9 then
      ((s.setBit REPLAY_STAT 29 false).modReplay fun r => { r with todo := [], input := [] }).modSet fun s c => s.beginLoad c
    else s
  if new = 8 then (match s.upd.bundle with
    | some v =>
      let a := 0x80000000 + s.fld (UPD_VERv v) 27 0
      let s := (s.bundleCores a).foldl (fun (s : State) c => s.beginLoad c) s
      if (s.components a).any fun e => e.1 == 1 then s.modUpd fun u => { u with pktPause := true } else s
    | none => s) else s

/-- SYS_MODE changes: the mode, PREV and RETURN written, the record, the latch and the effects. `cause` is that of Table
17-15; `dev`: the change is attributable to the device (R394). -/
def State.changeMode (s : State) (new src cause ret : Nat) (dev : Bool) : State :=
  let old := s.mode
  let s := s.wr SYS_MODE (word (ret * 256 + (if new = old then s.fld SYS_MODE 7 4 else old) * 16 + new))
  if new = old then s else
  let s := s.record 0x00 recMODE_CHANGE (word (new * 256 + old * 16 + src)) (word cause) (word ret)
  ((s.modeLatch old new).modeEffects old new).avail dev

/-- The MODE that waits for its edge completes, for its core or for the mailbox request it serves (R52). -/
def State.endModeReq (s : State) (status : Nat) : State :=
  match s.modeReq with
  | none => s
  | some r =>
    let s := { s with modeReq := none }
    let s := s.noteMode r.core r.target status
    match r.svc with
    | none => s.finish r.core (fun w => match w with
        | .mode _ _ => true
        | _ => false) (completion status)
    | some (c, head) => match s.upd.activate.filter (·.step == 3) with
      | some a => ({ s with upd := { s.upd with activate := none } }).reply a.core a.head status
          [if status = stOK then 0 else 3]
      | none => s.reply c head status [s.rd SYS_MODE]

/-- A mode entered by hardware (R16, R17): a MODE that waits is PREEMPTED. -/
def State.hwMode (s : State) (new cause ret : Nat) (dev : Bool) : State :=
  ((s.endModeReq stPREEMPTED).changeMode new 15 cause ret dev).noteMode 15 new stOK

/-! ### Domains forced (R325, R327) -/

/-- One domain forced towards RET or OFF without a handshake: answers are overridden and counted, a request in progress is
abandoned (PREEMPTED), and the state follows once the domain is isolated. -/
def State.forceDown (s : State) (d : Nat) (off : Bool) : Nat × State :=
  let k := s.dom d
  if !k.busy && (k.state == .off || (k.state == .ret && !off)) then (0, s) else
  let on := k.state == .on
  let r := if on then s.override d off else (0, s)
  let s := if on then r.2.forcedEffects d else r.2
  (r.1, s.modDom d fun k => { k with
    lastOut := (if k.busy && k.req != 15 then 5 else k.lastOut)
    target := (if off || k.state == .off then .off else .ret)
    busy := true, hold := none, req := 15, again := false })

/-- The domains of ZEROIZED (R327): SEQA, LOG and HOST come ON, every other domain goes OFF. How many answers were overridden. -/
def State.forceZeroized (s : State) : Nat × State :=
  (List.range 15).foldl (fun (a : Nat × State) d =>
    if d = 0 then a
    else if d = 1 ∨ d = 11 ∨ d = 14 then
      (a.1, if a.2.onOrComing d ∧ (a.2.dom d).hold.isNone then a.2 else a.2.startOn d 15)
    else
      let r := a.2.forceDown d true
      (a.1 + r.1, r.2)) (0, s)

/-! ### Tamper (R351, Table 15-3) -/

/-- The response to a tamper that latches: sessions closed, zeroization started, a lifecycle command abandoned (R360), in FIELD
the ZEROIZED fuses begun, mode ZEROIZED, the domains forced. -/
def State.tamperRun (s : State) (src : Nat) : State :=
  let st := s.stamp
  let s := s.setFld DBG_TAMPSTAT 31 27 (16 + src * 2 + b2n st.2.2)
  let s := ((s.wr DBG_TAMPSEC st.1).wr DBG_TAMPGRN st.2.1).raise 0x04 0x01
  let s := { s with dbg := { s.dbg with tampLc := s.lifecycle } }
  let s := if s.isOn 14 then s else s.wake 7 src [14]
  let s := s.preemptOpening.closeSession 2
  let s := if s.dbg.lcCmd.isSome then s.setFld DBG_LCSTAT 31 0 stPREEMPTED else s
  let field := s.lifecycle == 2
  let s := { s with dbg := { s.dbg with lcCmd := if field then some 0 else none } }.setBit DBG_LC 31 field
  let s := s.zeroizeStart 0 src
  let s := s.hwMode 11 3 (if s.power.backup then 11 else 0) false
  s.forceZeroized.2

/-- A tamper source asserts: while LATCH is set it only counts in REPEAT. A response that ends BOOT clears LATCH, and a source
that still asserts latches again at once (R351). -/
def State.tamper (s : State) (src : Nat) : State :=
  if s.bit DBG_TAMPSTAT 31 then s.bump DBG_TAMPCNT 7 0 else
  let boot := s.mode == 0
  let s := s.tamperRun src
  if !boot then s else
  let s := s.setBit DBG_TAMPSTAT 31 false
  match (List.range 6).find? fun i => s.bit DBG_TAMPSTAT i with
  | some i => s.tamperRun i
  | none => s

/-- A change that may leave BOOT: LATCH clears on that edge, and a source that still asserts latches again at once (R351). -/
def State.leaveBoot (s : State) (old : Nat) : State :=
  if old ≠ 0 ∨ s.mode = 0 then s else
  let s := s.setBit DBG_TAMPSTAT 31 false
  match (List.range 6).find? fun i => s.bit DBG_TAMPSTAT i with
  | some i => s.tamper i
  | none => s

/-- MODE_CHANGE (R17): the edge of the MODE that waits. RETURN is set on entry to ACTIVATE. -/
def execModeChange (s : State) : Host.Outcome State Fault Refusal :=
  .next (match s.modeReq with
  | none => s
  | some r =>
    let old := s.mode
    let s := s.changeMode r.target r.core 0 (if r.target = 8 then old else 0) (r.target == 8)
    (s.endModeReq stOK).leaveBoot old)

/-! ### Activation (R372, Table 16-6) -/

/-- ACT_PAUSE_END (R371, R370): the pause of scope 1 (`gnss` false) or scope 2 ends. With the packet engine running again the
hold buffer drains first. -/
def execActPauseEnd (gnss : Bool) (s : State) : Host.Outcome State Fault Refusal :=
  .next (if gnss then (s.modUpd fun u => { u with gnssPause := false }).avail true
    else if s.upd.pktPause then (((s.modUpd fun u => { u with pktPause := false }).drainHold)).avail true
    else s)

/-- The header address of the bundle in verified entry v. -/
def State.entryAddr (s : State) (v : Nat) : Nat := 0x80000000 + s.fld (UPD_VERv v) 27 0

/-- ACTIVATION_END (R372): the device activation ends, on the new image or, where `step` has failed with `status` at core or
domain `who`, on the one that ran. `pause` is the time since the edge of ACTIVATE in µs. -/
def execActivationEnd (failed : Bool) (step status who : Fin 256) (pause : Word) (s : State) :
    Host.Outcome State Fault Refusal :=
  .next (match s.upd.bundle, s.mode == 8 with
  | some v, true =>
    let paused := s.upd.pktPause
    let s := if paused then (s.modUpd fun u => { u with pktPause := false }).drainHold else s
    let ret := s.fld SYS_MODE 11 8
    if failed then
      let old := s.fld UPD_RUNENT 3 0
      let s := if old < 8 then s.loadBundle (s.entryAddr old) else s
      let s := s.hwMode ret 5 0 true
      let s := s.record 0xE5 recACT_FAIL (word step) (word status) (word who)
      (s.raise 0xE5 0x02).goAfterPause
    else
      let a := s.entryAddr v
      let slot := s.fld (UPD_VERv v) 30 29 - 1
      let s := s.loadBundle a
      let s := s.hwMode ret 5 0 true
      let s := s.wr UPD_BOOT (word (2 ^ 31 + slot * 256 + slot))
      let s := (s.setFld UPD_TRIAL 31 16 (s.fld UPD_TRIAL 15 0)).setFld UPD_SETGEN 31 16 (s.fld UPD_SETGEN 15 0 + 1)
      let s := s.setFld UPD_RUNENT 3 0 v
      let s := s.modUpd fun u => { u with bundle := none, revertDue := false }
      let s := s.record 0xE5 recACTIVATED (word slot) (s.rd (UPD_TGTt_VERLO slot)) pause
      let s := (s.raise 0xE5 0x02).goAfterPause
      if (s.components a).any fun e => e.1 == 2 then (s.modUpd fun u => { u with gnssPause := true }).avail true else s
  | _, _ => s)

end Sys2Proof.Machine
end

