-- ==== Sys2Proof/Machine/Recorder.lean ====
section
/-!
DEFINITION. Sys2Proof/Machine/Recorder.lean: the event recorder (17: R396–R401, R453), LOGW (R37), and the rows of the fault
manager and of availability that are detected from outside or complete later (R387, R388, R394, R395, R410).
-/
namespace Sys2Proof.Machine

/-! ### Records in eMRAM (R396, Table 17-3) -/

/-- Words 0–6 of a record. -/
def LogRec.front (r : LogRec) : List Word :=
  [r.seq, r.sec, r.grn, word (r.src.toNat * 65536 + r.code.toNat), r.a0, r.a1, r.a2]

/-- Bits [31:16] of word 7: SW, LINKED, COUNT, RTCT. -/
def LogRec.flags (r : LogRec) : Nat := b2n r.sw * 16 + b2n r.linked * 8 + b2n r.count * 4 + b2n r.rtct

/-- The eight words of a record, its CRC over bytes 0–27 and 30–31. -/
def LogRec.words (r : LogRec) : List Word :=
  let covered := (r.front.flatMap fun w => leOctets w.toNat 4) ++ leOctets r.flags 2
  r.front ++ [word (r.flags * 65536 + crc16 covered)]

/-- Where record i lies. -/
def recAddr (i : Nat) : Nat := 0x60000000 + 32 * i

/-! ### LOGW that waits (R398) -/

/-- Is a wait a LOGW whose record is in the queue with a number, or any LOGW? -/
def isLogw (seq : Option Word) : Wait → Bool
  | .logw _ r queued => match seq with
    | some n => queued && r.seq == n
    | none => true
  | _ => false

/-- Every core's LOGW that `p` picks completes with a word. -/
def State.endLogw (s : State) (p : Wait → Bool) (v : Word) : State :=
  (List.finRange 8).foldl (fun (s : State) (c : Fin 8) => s.finish c p v) s

/-- A LOGW that waits for room puts its record into the queue now. -/
def State.queueLogw (s : State) (w : Wait) : Option (Wait × State) :=
  match w with
  | .logw gd r false =>
    if s.logFull || s.rep.reset.isSome || 64 ≤ s.rep.queue.length then none
    else some (.logw gd { r with seq := s.rd LOG_SEQ } true, s.enqueue r)
  | _ => none

/-- The LOGW of core c that wait for room, running or interrupted. -/
def State.queueCore (s : State) (c : Fin 8) : State :=
  let s := match (s.core c).run with
    | .waiting w => match s.queueLogw w with
      | some (w, s) => s.modCore c fun k => { k with run := .waiting w }
      | none => s
    | _ => s
  (List.range 4).foldl (fun (s : State) i => match vget (s.core c).latch i none with
    | some (.waiting w) => match s.queueLogw w with
      | some (w, s) => s.modCore c fun k => { k with latch := vset k.latch i (some (.waiting w)) }
      | none => s
    | _ => s) s

/-! ### The queue written (R398, R399) -/

/-- Recording stops at index 131,071: LOG_FULL stands in place of the displaced record, and everything still queued is lost. -/
def State.recorderFull (s : State) (r : LogRec) (lost : List LogRec) : State :=
  let f : LogRec := { r with
    src := 0xE1, code := recLOG_FULL, a0 := word (r.code.toNat / 4096), a1 := word r.code.toNat, a2 := 0
    sw := false, linked := false, count := false }
  let s := s.putWords (recAddr 131071) f.words
  let s := lost.foldl (fun (s : State) x => s.lose x.code) { s with rep := { s.rep with queue := [] } }
  let s := ((s.setFld LOG_STAT 17 0 131072).setBit LOG_STAT 31 true).setFld LOG_QUEUE 6 0 0
  (s.raise 0xE1 0x01).endLogw (isLogw none) (completion stFULL)

/-- The record at the head of the queue is written; its LOGW completes, and those that wait for room move up in core order. -/
def State.writeHead (s : State) : State :=
  match s.rep.queue with
  | [] => s
  | r :: t =>
    let i := s.fld LOG_STAT 17 0
    if 131071 ≤ i then s.recorderFull r (r :: t) else
    let s := (s.putWords (recAddr i) r.words).setFld LOG_STAT 17 0 (i + 1)
    let s := { s with rep := { s.rep with queue := t } }.setFld LOG_QUEUE 6 0 t.length
    let s := if r.sw then s.endLogw (isLogw (some r.seq)) (word (r.seq.toNat % 2 ^ 24 * 256)) else s
    (List.finRange 8).foldl (fun (s : State) (c : Fin 8) => s.queueCore c) s

/-- RECORD_WRITE (R398): a queued record is written. -/
def execRecordWrite (s : State) : Host.Outcome State Fault Refusal := .next (if s.isOn 14 then s.writeHead else s)

/-- Every record now queued is written. -/
def State.drainQueue (s : State) : State := (List.range s.rep.queue.length).foldl (fun (s : State) _ => s.writeHead) s

/-! ### LOGW (R37, R397–R400) -/

/-- The record of a LOGW (R37): the issuing core, the code, the three words at ga, the TRD value of now or the RTC time. -/
def State.logwRec (s : State) (c : Fin 8) (ga : Fin 16) (code : BitVec 16) : LogRec :=
  let a := s.desc c (s.gpr c ga) 3
  let t := s.trdNow
  let on := s.isOn 12
  { seq := 0, sec := if on then word (t / 2 ^ 32) else s.stamp.1, grn := if on then word t else s.stamp.2.1
    src := BitVec.ofNat 8 (coreBlock c), code := code, a0 := a.headD 0, a1 := (a.drop 1).headD 0, a2 := (a.drop 2).headD 0
    sw := true, linked := false, count := false, rtct := !on }

/-- May the recorder be cleared (R400, R409)? -/
def State.mayClear (s : State) : Bool :=
  s.mode != 11 && (s.lifecycle == 0 || s.lifecycle == 1 || s.lifecycle == 3 || (s.lifecycle == 2 && s.granted 4))

/-- The recorder cleared (R400): what is queued is written first, then CLEARED stands at index 0. -/
def State.clearRecorder (s : State) (c : Fin 8) : State :=
  let s := (if s.lifecycle == 2 then s.consumeGrant else s).drainQueue
  let n := s.fld LOG_STAT 17 0
  let seq := s.rd LOG_SEQ
  let s := (List.range 9).foldl (fun (s : State) k => s.wr (LOG_LOSTk k) 0) s
  let r := { s.mkRec 0xE1 recCLEARED (word n) (word c.val) 0 with seq := seq }
  let s := (s.putWords (recAddr 0) r.words).wr LOG_STAT 1
  ((s.wr LOG_SEQ (seq + 1)).wr LOG_BASESEQ seq).raise 0xE1 0x02

/-- LOGW with a code, in any mode: recorded as an output in REPLAY (Table 02-12), where its sequence number is free (log entry
17); else a record, a freeze (0xFFFE) or a clear (0xFFFF). -/
def State.logw (s : State) (c : Fin 8) (gd ga : Fin 16) (code : BitVec 16) : State :=
  s.serve c gd [14] fun s =>
    let n := code.toNat
    if !(decide (0x8000 ≤ n ∧ n ≤ 0xFFEF) || n == 0xFFFE || n == 0xFFFF) then s.complete c gd stRANGE
    else if s.mode == 9 then
      let r := s.replayOutput.fresh
      r.2.complete c gd stOK (bits r.1 7 0) (bits r.1 23 8)
    else if n = 0xFFFE then
      let done (s : State) (v : Word) : State := s.complete c gd stOK (bits v 7 0) (bits v 23 8)
      if s.bit REPLAY_STAT 31 then (let r := s.fresh
        done r.2 r.1)
      else done (s.freezeJournal 2 0) (s.rd LOG_SEQ)
    else if n = 0xFFFF then
      (if s.mayClear then
        let s := s.clearRecorder c
        let v := s.rd LOG_BASESEQ
        s.complete c gd stOK (bits v 7 0) (bits v 23 8)
      else s.complete c gd stDENIED)
    else
      let r := s.logwRec c ga code
      if s.logFull then (s.lose code).complete c gd stFULL
      else if s.rep.reset.isSome then (s.log r).waitOn c (.logw gd { r with seq := s.rd LOG_SEQ } true)
      else if 64 ≤ s.rep.queue.length then s.waitOn c (.logw gd r false)
      else (s.enqueue r).waitOn c (.logw gd { r with seq := s.rd LOG_SEQ } true)

/-- LOGW (R37, R397, R398): ga points at three argument words, imm18[15:0] is the code; it completes once its record is
written. -/
def execLogw (c : Fin 8) (gd ga : Fin 16) (imm : BitVec 18) (s : State) : Host.Outcome State Fault Refusal :=
  .next (s.issue c fun s => s.legal c (imm.toNat / 65536 != 0) fun s => s.logw c gd ga (imm.setWidth 16))

/-- LOGW_FREEZE (R405): LOGW with code 0xFFFE. -/
def execLogwFreeze (c : Fin 8) (gd ga : Fin 16) (rsv : BitVec 2) (s : State) : Host.Outcome State Fault Refusal :=
  .next (s.issue c fun s => s.legal c (rsv != 0) fun s => s.logw c gd ga 0xFFFE)

/-- LOGW_CLEAR (R400): LOGW with code 0xFFFF. -/
def execLogwClear (c : Fin 8) (gd ga : Fin 16) (rsv : BitVec 2) (s : State) : Host.Outcome State Fault Refusal :=
  .next (s.issue c fun s => s.legal c (rsv != 0) fun s => s.logw c gd ga 0xFFFF)

/-! ### Rate limits (R453) -/

/-- RATE_LIMIT_INTERVAL_END (R453): the interval of a code and key has passed. With events counted in it and a (COUNT) code, a
record of the last of them is written and starts a new interval; else the interval just ends. -/
def execRateLimitIntervalEnd (code : BitVec 16) (key : Nat) (s : State) : Host.Outcome State Fault Refusal :=
  .next (match s.rep.rates.find? fun l => l.code == code && l.key == key with
  | none => s
  | some l =>
    let others := s.rep.rates.filter fun x => !(x.code == code && x.key == key)
    if l.count = 0 ∨ !l.last.count then { s with rep := { s.rep with rates := others } }
    else
      let s := { s with rep := { s.rep with rates := others ++ [{ l with count := 0 }] } }
      s.log { l.last with a0 := word l.count })

/-! ### The recorder read (R401) -/

/-- A read of LOG_EVR_WINw by an agent: word w of the record at its cursor, from eMRAM; a read of WIN7 advances the cursor, which
stops at 131,071 with END. -/
def State.evrRead (s : State) (a : Agent) (w : Nat) : Word × State :=
  let i := agentIdx a
  let c := vget s.rep.cursor i (0, false)
  let v := s.ldw (recAddr c.1 + 4 * w)
  if w ≠ 7 then (v, s) else
  (v, { s with rep := { s.rep with cursor := vset s.rep.cursor i (if c.1 = 131071 then (c.1, true) else (c.1 + 1, c.2)) } })

/-! ### Faults (R387, R388, R410) -/

/-- The domains of the clock that a domain runs on (Tables 01-2, 01-3). -/
def clockDoms (d : Nat) : List Nat :=
  if [1, 2, 4, 5, 12, 14].contains d then [1, 2, 4, 5, 12, 14]
  else if [7, 8, 11, 13].contains d then [7, 8, 11, 13]
  else [d]

/-- The block ID that a fault names (R452): TEMP and TEMP_CRIT have fixed ones. -/
def faultBlock (cls block : Nat) : Nat := if cls = 10 then 0x43 else if cls = 11 then 0x00 else block

/-- A fault of a class raised by a detector; the loss of a PLL is charged to the domains of its clock, and that of the SEQ PLL is
WARM (Table 17-1). -/
def State.detect (s : State) (cls block detail : Nat) (value : Word) : State :=
  let b := faultBlock cls block
  if cls = 8 then
    let ds := clockDoms (b / 16)
    s.faultWith 8 b detail value ds (if ds.contains 1 then 8 else 7)
  else s.fault cls b detail value

/-- FAULT_DETECTED (R387): a detector trips: class, block ID, detector detail and value. -/
def execFaultDetected (cls : Fin 32) (block detail : Byte) (value : Word) (s : State) : Host.Outcome State Fault Refusal :=
  .next (if 1 ≤ cls.val ∧ cls.val ≤ 19 then s.detect cls block.toNat detail.toNat value else s)

/-- A write of FAULT_INJ (R410): in MAINT, with KEY 0x464C and a defined class, that class is raised, charged to BLOCK. -/
def State.writeInject (s : State) (v : Word) : State :=
  let cls := bits v 12 8
  let block := bits v 7 0
  if bits v 31 16 = 0x464C ∧ s.mode = 10 ∧ 1 ≤ cls ∧ cls ≤ 19 then
    s.faultWith cls block 0 0 (if 16 ≤ cls then [] else [block / 16]) (classAction cls)
  else s

/-- FAULT_INJECT (R410): a write of FAULT_INJ. -/
def execFaultInject (v : Word) (s : State) : Host.Outcome State Fault Refusal :=
  .next (if s.isOn 14 then s.writeInject v else s)

/-- An action is over: FAULT_DONE, linked to its fault, and 0xE0 : 0x02; `done` 0 completed, 1 raised one rank and taken again. -/
def State.faultDone (s : State) (a : FaultAct) (done : Nat) : State :=
  let r := s.mkRec 0xE0 recFAULT_DONE a.a0 (word done) a.seq
  (s.log { r with linked := true }).raise 0xE0 0x02

/-- An action that is complete taken from those under way; its window, if open, has none under way any more. -/
def State.endAct (s : State) (a : FaultAct) : State :=
  let s := { s with rep := { s.rep with
    acts := s.rep.acts.filter fun (x : FaultAct) => x.seq != a.seq
    wins := s.rep.wins.map fun (e : Nat × FaultWin) => if e.2.seq == a.seq then (e.1, { e.2 with action := 0 }) else e } }
  s.faultDone a (b2n a.raised)

/-- A RETRY that fails again is raised one rank and taken so (R387, R451), as a DOMCYCLE or, where that would take LOG or DRAM,
as WARM (R389). -/
def State.raiseAct (s : State) (a : FaultAct) : State :=
  let cyc := withDependents a.doms
  let act := if cyc.contains 14 || cyc.contains 9 || ((cyc.contains 1 || cyc.contains 2) && s.fld UPD_RUNENT 3 0 == 15) then 8
    else 7
  let b : FaultAct := { a with action := act, raised := true, a0 := putBits a.a0 15 8 act }
  let s := { s with rep := { s.rep with
    acts := s.rep.acts.map fun (x : FaultAct) => if x.seq == a.seq then b else x
    wins := s.rep.wins.map fun (e : Nat × FaultWin) => if e.2.seq == a.seq then (e.1, { e.2 with action := act }) else e } }
  (s.startAction a.cls a.block.toNat 0 a.value a.doms act a.seq).avail true

/-- Is an action still at work: a domain in transition, a core loading, the throttle or a reset? -/
def State.atWork (s : State) (a : FaultAct) : Bool :=
  match a.action with
  | 4 => (s.core (blockCore a.block.toNat)).run == .loading
  | 6 => s.rep.throttle
  | 7 => (withDependents a.doms).any fun d => (s.dom d).busy
  | 8 => true
  | _ => false

/-- RECOVERY_COMPLETE (R387): the action of the FAULT record `seq` is complete; `ok` false: a RETRY has failed again. -/
def execRecoveryComplete (seq : Word) (ok : Bool) (s : State) : Host.Outcome State Fault Refusal :=
  .next (match s.rep.acts.find? fun a => a.seq == seq with
  | none => s
  | some a =>
    if s.atWork a then s
    else if !ok && a.action == 1 then s.raiseAct a
    else s.endAct a)

/-- FAULT_WINDOW_EXPIRY (R387): recovery window w closes. -/
def execFaultWindowExpiry (w : Fin 8) (s : State) : Host.Outcome State Fault Refusal :=
  .next (if s.bit (FAULT_OPENw w) 31 then
      { s with rep := { s.rep with wins := s.rep.wins.filter fun e => e.1 != w.val } }.wr (FAULT_OPENw w) 0
    else s)

/-- THROTTLE_END (R387): Tj falls below 115 °C; the drivers are back, and the actions that throttled them are complete. -/
def execThrottleEnd (s : State) : Host.Outcome State Fault Refusal :=
  .next (if !s.rep.throttle then s else
    let acts := s.rep.acts.filter fun a => a.action == 6
    acts.foldl (fun (s : State) a => s.endAct a) { s with rep := { s.rep with throttle := false } })

/-- An uncorrectable DRAM word (R388). -/
def State.eccLost (s : State) (addr : Nat) : State := s.fault 4 0x90 0 (word addr)

/-- ECC_CORRECTED (R388): the DRAM controller corrects the word at `addr`, or meets one that it cannot correct; the 16th
corrected word of a page within 3,600 s is a fault as well. -/
def execEccCorrected (addr : Word) (uncorrectable : Bool) (s : State) : Host.Outcome State Fault Refusal :=
  .next (if !s.isOn 9 then s
    else if uncorrectable then s.eccLost addr.toNat
    else
      let page := addr.toNat / 4096
      let now := s.elapsed / 65536
      let s := if s.isOn 14 then s.bump FAULT_ECCCNT 31 0 else s
      let l := s.rep.ecc.filter (fun (e : Nat × Nat) => decide (now < e.2 + 3600)) ++ [(page, now)]
      if 16 ≤ (l.filter fun e => e.1 == page).length then
        { s with rep := { s.rep with ecc := l.filter fun e => e.1 != page } }.eccLost addr.toNat
      else { s with rep := { s.rep with ecc := l } })

/-! ### Availability (R394, R395) -/

/-- The registers of the outage counters, service by service: OUT_S, OUT_G, EXT_S, EXT_G. -/
def availRegs : List Nat :=
  (List.range 3).flatMap fun m => [FAULT_AVm_OUT_S m, FAULT_AVm_OUT_G m, FAULT_AVm_EXT_S m, FAULT_AVm_EXT_G m]

/-- The counters copied to eMRAM (R394). -/
def State.availCopy (s : State) : State :=
  { s with rep := { s.rep with avCopy := availRegs.map s.rd, avAt := s.elapsed, avOpen := s.rep.outage } }

/-- AVAIL_CHECKPOINT (R394): the copy of every second. -/
def execAvailCheckpoint (s : State) : Host.Outcome State Fault Refusal := .next (if s.isOn 14 then s.availCopy else s)

/-- A write of FAULT_AVCLR (R395): KEY 0x4156 zeroes the counters and starts a period; an open outage counts from now on. -/
def State.writeAvclr (s : State) (v : Word) : State :=
  if bits v 31 16 ≠ 0x4156 then s else
  let s := (availRegs.foldl (fun (s : State) a => s.wr a 0) s).wr FAULT_AVSTART (s.rd RTC_SEC_LO)
  let again (o : Outage) : Outage := { o with rtc := s.elapsed, net := if s.timeRuns then some s.netGrains else none }
  { s with rep := { s.rep with avPassed := Vector.replicate 3 false, outage := s.rep.outage.map fun o => o.map again } }

/-- AVAIL_CLEAR (R395): a write of FAULT_AVCLR. -/
def execAvailClear (v : Word) (s : State) : Host.Outcome State Fault Refusal :=
  .next (if s.isOn 14 then s.writeAvclr v else s)

end Sys2Proof.Machine
end

