-- ==== Sys2Proof/Machine/Journal.lean ====
section
/-!
DEFINITION. Sys2Proof/Machine/Journal.lean: the input journal and the IQ rings (17: R402–R405): entries appended, checkpoints,
freezing and unfreezing.
-/
namespace Sys2Proof.Machine

/-! ### Appending (R402, R404) -/

/-- Is the journal being written: JEN, not frozen, LOG and DRAM ON, and not in REPLAY (R402, R405, R409)? -/
def State.journalOn (s : State) : Bool :=
  s.bit REPLAY_CTL 31 && !s.bit REPLAY_STAT 31 && s.isOn 9 && s.isOn 14 && s.mode != 9

/-- Is an entry of Table 17-6 an input or output that the writer is given, and its core journalled? Kinds 1, 2, 13 and 14 are the
writer's own. -/
def State.journalled (s : State) (kind core : Nat) : Bool :=
  if 8 ≤ kind ∧ kind ≤ 11 then core = 15
  else decide ((3 ≤ kind ∧ kind ≤ 7) ∨ kind = 12) && decide (core < 8) && s.bit REPLAY_CTL core

/-- JOURNAL_APPEND (R402, R404): an input or output of a journalled core, or a unit input, is appended with its payload. With the
writer's buffer full (`full`) it is lost; entries lost before are told of in a GAP entry as soon as there is room. -/
def execJournalAppend (kind core : Fin 16) (cyc arg : Word) (data : List Word) (full : Bool) (s : State) :
    Host.Outcome State Fault Refusal :=
  .next (if !s.journalOn || !s.journalled kind.val core.val then s
    else if full then
      let n := s.rep.replay.lost
      let s := s.setBit REPLAY_STAT 30 true
      let s := if n = 0 then s.bump REPLAY_GAPS 31 0 else s
      s.modReplay fun r => { r with lost := n + 1 }
    else
      let s := if s.rep.replay.lost = 0 then s else s.gapEntry
      s.journal kind.val core.val cyc arg data)

/-! ### Checkpoints (R403) -/

/-- The words of a result latch. -/
def latchWords : Option Latch → List Word
  | none => [0, 0]
  | some (.waiting w) => [word (1 + 16 * w.gd.val), 0]
  | some (.done gd v) => [word (2 + 16 * gd.val), v]

/-- The words of a TARM slot. -/
def slotWords : Option TarmSlot → List Word
  | none => [0, 0, 0, 0, 0]
  | some t => [t.sec, t.grn, t.psec, t.pgrn, word (2 ^ 31 + t.line.val + (match t.pulse with
      | some p => 2 ^ 8 + 2 ^ 16 * p.val
      | none => 0))]

/-- The registers of a core as a CKPT entry holds them, in the order of Table 17-6; the spec gives the words no layout (log entry
37). -/
def Core.words (k : Core) : List Word :=
  k.gpr.toList ++ [k.pc, word (k.level.val * 16 + b2n k.even), k.evage, k.evpend, k.evmask, k.evlvl0, k.evlvl1, k.evvec]
    ++ k.epc.toList ++ k.estat.toList ++ [k.stgmask, k.dmasrc, k.dmadst, k.dmalen, k.dmactl] ++ k.l3.toList
    ++ k.latch.toList.flatMap latchWords ++ k.tarm.toList.flatMap slotWords
    ++ [k.cyc.setWidth 32, (k.cyc >>> 32).setWidth 32, k.cychi]
    ++ [k.trd.setWidth 32, (k.trd >>> 32).setWidth 32, (k.trd >>> 64).setWidth 32]

/-- The cores of the set. -/
def State.setCores (s : State) : List (Fin 8) := (List.finRange 8).filter fun c => s.bit REPLAY_CTL c.val

/-- The shared banks reserved to a core of the set, with that core (R403). -/
def State.setBanks (s : State) : List (Nat × Nat) :=
  (List.range 4).filterMap fun b =>
    let n := s.fld SEQ_BANKRES (4 * b + 3) (4 * b)
    if 8 ≤ n ∧ s.bit REPLAY_CTL (n - 8) then some (b, n - 8) else none

/-- Is an address in a scratchpad of the set or in a bank reserved to it? -/
def State.inSetMem (s : State) (a : Nat) : Bool :=
  (s.setCores.any fun c => decide (iscrBase c ≤ a ∧ a < iscrBase c + 0x20000))
    || (s.setBanks.any fun e => decide (0x50000000 + 2 ^ 19 * e.1 ≤ a ∧ a < 0x50000000 + 2 ^ 19 * (e.1 + 1)))

/-- A checkpoint set taken now (R403): a CKPT of each core of the set and a BANK of each reserved bank. -/
def State.checkpoint (s : State) : State :=
  if !s.journalOn then s else
  let r := s.rep.replay
  let cores := s.setCores.filter fun c => s.isOn (coreDom c) && (s.core c).run != .loading
  let k : Ckpt := { num := r.ckNum, jseq := s.rd REPLAY_JSEQ, taken := s.clock, gap := false,
                    cores := cores.map fun c => (c, s.core c), cells := s.mem.filter fun e => s.inSetMem e.1 }
  let whole := !cores.isEmpty && decide (cores.length = s.setCores.length)
  let s := s.modReplay fun r => { r with
    ckNum := r.ckNum + 1
    ckpts := if whole then r.ckpts ++ [k] else r.ckpts }
  let s := cores.foldl (fun (s : State) c =>
    s.journal 1 c.val ((s.core c).cyc.setWidth 32) (word k.num) ((s.core c).words ++ s.words (iscrBase c) 32768)) s
  s.setBanks.foldl (fun (s : State) e =>
    s.journal 2 e.2 ((s.core (Fin.ofNat 8 e.2)).cyc.setWidth 32) (word e.1) (s.words (0x50000000 + 2 ^ 19 * e.1) 131072)) s

/-- CHECKPOINT (R403): CKPER seconds have passed. -/
def execCheckpoint (s : State) : Host.Outcome State Fault Refusal := .next s.checkpoint

/-! ### Freezing (R405) -/

/-- UNFREEZE (R405), refused in REPLAY: the journal and the rings are emptied and start again, with a checkpoint at once. -/
def State.unfreeze (s : State) : State :=
  if s.mode = 9 || !s.bit REPLAY_STAT 31 || !s.isOn 9 then s else
  let s := (((s.wr REPLAY_STAT (s.rd REPLAY_STAT &&& 0x3C000000)).setBit REPLAY_STAT 30 false).wr REPLAY_JWR 0).wr REPLAY_JOLD 0
  let s := [REPLAY_IQp_IDX 0, REPLAY_IQp_IDX 1, REPLAY_IQTSEC, REPLAY_IQTGRN].foldl (fun (s : State) a => s.wr a 0) s
  (s.modReplay fun r => { r with entries := [], ckpts := [], lost := 0 }).checkpoint

/-- A write of REPLAY_CMD (R405): FREEZE in bit 0, UNFREEZE in bit 1, with KEY 0x5250. -/
def State.writeReplayCmd (s : State) (v : Word) : State :=
  if bits v 31 16 ≠ 0x5250 then s else
  let s := if bitAt v 0 then s.freezeJournal 3 0 else s
  if bitAt v 1 then s.unfreeze else s

/-- FREEZE (R405): a write of REPLAY_CMD with FREEZE and a key. -/
def execFreeze (key : BitVec 16) (s : State) : Host.Outcome State Fault Refusal :=
  .next (if s.isOn 14 then s.writeReplayCmd (word (key.toNat * 65536 + 1)) else s)

/-- UNFREEZE (R405): a write of REPLAY_CMD with UNFREEZE and a key. -/
def execUnfreeze (key : BitVec 16) (s : State) : Host.Outcome State Fault Refusal :=
  .next (if s.isOn 14 then s.writeReplayCmd (word (key.toNat * 65536 + 2)) else s)

/-- IQ_STOP (R405): POST ms after a freeze the rings stop on one TIME edge; `idx0` and `idx1` are the last samples of the two
rings, whose samples no command brings (log entry 38). -/
def execIqStop (idx0 idx1 : BitVec 21) (s : State) : Host.Outcome State Fault Refusal :=
  .next (if !s.isOn 14 || !s.bit REPLAY_STAT 31 then s else
    let s := if s.bit REPLAY_IQCTL 16 then s.wr (REPLAY_IQp_IDX 0) (idx0.setWidth 32) else s
    let s := if s.bit REPLAY_IQCTL 17 then s.wr (REPLAY_IQp_IDX 1) (idx1.setWidth 32) else s
    (s.wr REPLAY_IQTSEC (word (s.netGrains / 2 ^ 32))).wr REPLAY_IQTGRN (word s.netGrains))

end Sys2Proof.Machine
end

