-- ==== Sys2Proof/Machine/Power.lean ====
section
/-!
DEFINITION. Sys2Proof/Machine/Power.lean: the power controller (13): PDREQ and PDSTAT (R311–R316), entries and exits of a domain,
the wake receiver (R322, R323), VIN loss and return (R324–R333), and the backup cell (R331).
-/
namespace Sys2Proof.Machine

/-! ### PDREQ (R311–R314) -/

/-- A request for domain d is refused: nothing changes, and the refuser is noted (R312). -/
def State.refuseReq (s : State) (c : Fin 8) (gd : Fin 16) (d block reason : Nat) : State :=
  ((s.noteRefusal d block reason 1).modDom d fun k => { k with lastOut := 13 }).complete c gd stREFUSED block

/-- The checks that every PDREQ passes first, in their order (R311; Table 02-12 in REPLAY), with `bad` for a state code of 3. What
it requests and from which core is shown in PWR_DOMd_STAT from here on (log entry 39). -/
def State.pdreq (s : State) (c : Fin 8) (gd ga : Fin 16) (bad : Bool) (want : PdState) (f : State → Nat → State) : State :=
  let n := (s.gpr c ga).toNat
  if s.mode == 9 then s.complete c gd stINHIBIT
  else if n = 0 ∨ 14 < n ∨ bad then s.complete c gd stRANGE
  else if (s.dom n).busy then s.complete c gd stBUSY
  else if (s.dom n).state == want then s.complete c gd stALREADY
  else if want == .ret && (s.dom n).state == .off then s.complete c gd stRANGE
  else f (s.modDom n fun k => { k with target := want, req := Fin.castLE (by decide) c }) n

/-- PDREQ ON (R311, R314, R327, R329): no agent is asked. -/
def execPdreqOn (c : Fin 8) (gd ga : Fin 16) (imm : BitVec 16) (s : State) : Host.Outcome State Fault Refusal :=
  .next (s.issue c fun s => s.legal c (imm != 0) fun s => s.pdreq c gd ga false .on fun s d =>
    if s.zeroBarred [d] then s.refuseReq c gd d 0x01 14
    else match (domDeps d).find? fun e => !s.isOn e with
    | some e => s.refuseReq c gd d (16 * e) 8
    | none =>
      if s.overBudget [d] then s.refuseReq c gd d 0x01 15
      else
        let s := (s.startOn d c.val).noteWake 1 c.val d
        (s.modDom d fun k => { k with lastOut := 0 }).complete c gd stOK)

/-- The answers with that of a silent agent taken as REFUSE with reason NOANSWER, which is a fault (R312). -/
def State.hear (s : State) (d : Nat) (silent : Option Byte) (l : List (Nat × Answer)) : List (Nat × Answer) × State :=
  match silent with
  | none => (l, s)
  | some b =>
    if l.any fun e => e.1 == b.toNat then
      (l.map fun (e : Nat × Answer) => if e.1 == b.toNat then (e.1, .refuse 11) else e,
        (s.setBit PWR_FLAGS 8 true).fault 12 b.toNat 0 (word d))
    else (l, s)

/-- The first refusal of a round, by block ID; with `second`, a DELAY counts as one with reason DELAY2. -/
def firstRefusal (second : Bool) (l : List (Nat × Answer)) : Option (Nat × Nat) :=
  l.findSome? fun e => match e.2 with
    | .refuse r => some (e.1, r)
    | .delay _ => if second then some (e.1, 10) else none
    | .grant => none

/-- An entry that every agent has granted proceeds; RET of the issuing core's own domain waits for its WFE (R36). -/
def State.enter (s : State) (d : Nat) (off : Bool) (c : Fin 8) : State :=
  let own := !off && coreDom c == d && (s.core c).run != .wfe
  s.modDom d fun k => { k with
    target := (if off then .off else .ret)
    busy := true
    hold := (if own then some (.wfe c) else none)
    again := false, lastOut := 0 }

/-- PDREQ RET or OFF (R10, R312–R314). -/
def State.pdreqDown (s : State) (c : Fin 8) (gd ga : Fin 16) (bad off : Bool) (silent : Option Byte) : State :=
  s.pdreq c gd ga bad (if off then .off else .ret) fun s d =>
    if (s.modeDomains s.mode).contains d then s.refuseReq c gd d 0x00 1
    else match (dependents d).find? fun e => s.onOrComing e && (s.dom d).state == .on with
    | some e => s.refuseReq c gd d (16 * e) 8
    | none =>
      let r := s.hear d silent (s.asked d off (some c))
      match firstRefusal false r.1 with
      | some (b, reason) => r.2.refuseReq c gd d b reason
      | none =>
        if r.1.all fun e => e.2 == .grant then (r.2.enter d off c).complete c gd stOK
        else (r.2.modDom d fun k => { k with
          target := (if off then .off else .ret)
          busy := true
          hold := some .delay
          again := false, lastOut := 14 }).complete c gd stDELAYED

/-- PDREQ RET (R312): ga the domain; imm18[17:2] is reserved. `silent`: the block ID of an agent that does not answer within
2 µs. -/
def execPdreqRet (c : Fin 8) (gd ga : Fin 16) (imm : BitVec 16) (silent : Option Byte) (s : State) :
    Host.Outcome State Fault Refusal :=
  .next (s.issue c fun s => s.legal c (imm != 0) fun s => s.pdreqDown c gd ga false false silent)

/-- PDREQ OFF (R312): as RET; `low` is imm18[0], so that imm18[1:0] is 3 where it is set, which is out of range. -/
def execPdreqOff (c : Fin 8) (gd ga : Fin 16) (low : Bool) (imm : BitVec 16) (silent : Option Byte) (s : State) :
    Host.Outcome State Fault Refusal :=
  .next (s.issue c fun s => s.legal c (imm != 0) fun s => s.pdreqDown c gd ga low true silent)

/-- PDSTAT (R311): the state of domain ga as PWR_STATE gives it, in [17:16]. -/
def execPdstat (c : Fin 8) (gd ga : Fin 16) (imm : BitVec 18) (s : State) : Host.Outcome State Fault Refusal :=
  .next (s.issue c fun s => s.legal c (imm != 0) fun s =>
    let n := (s.gpr c ga).toNat
    if 14 < n then s.complete c gd stRANGE else s.complete c gd stOK 0 (s.domCode n))

/-- DELAY_EXPIRY (R313): the longest DELAY of domain d has passed and every agent is asked again. -/
def execDelayExpiry (d : Fin 15) (silent : Option Byte) (s : State) : Host.Outcome State Fault Refusal :=
  .next (
    let k := s.dom d
    if k.hold != some .delay then s else
    let off := k.target == .off
    let c := Fin.ofNat 8 k.req.val
    let r := s.hear d silent (s.asked d off (some c))
    match firstRefusal true r.1 with
    | some (b, reason) =>
      let s := (r.2.noteRefusal d b reason 2).modDom d fun k => { k with busy := false, hold := none, lastOut := 13 }
      s.raise 0x01 0x01
    | none => r.2.enter d off c)

/-! ### Entries and exits complete (R312, R311) -/

/-- Is a session paused: is a domain attached to it in RET (R359)? -/
def State.showPaused (s : State) : State :=
  s.setBit DBG_SESS 29 ((List.range 15).any fun d => s.attached d && (s.dom d).state == .ret && !(s.dom d).busy)

/-- Is a DOMCYCLE under way in a domain (R389)? -/
def State.cycling (s : State) (d : Nat) : Bool :=
  s.rep.acts.any fun a => a.action == 7 && (withDependents a.doms).contains d

/-- DOMAIN_ENTRY_COMPLETE (R312): domain d is isolated. The answers that a DOMCYCLE overrides are counted here (log entry 35). -/
def execDomainEntryComplete (d : Fin 15) (s : State) : Host.Outcome State Fault Refusal :=
  .next (
    let k := s.dom d
    if d = 0 ∨ !k.busy ∨ k.hold.isSome ∨ k.target == .on then s else
    let s := if k.again && k.state == .on && s.cycling d then (s.override d true).2.forcedEffects d else s
    let s := s.modDom d fun k => { k with
      state := k.target, target := (if k.again then .on else k.target), busy := k.again, again := false }
    let s := if k.target == .off then s.atOff d else s.atRet d
    let s := if k.req.val ≠ 15 then s.raise 0x01 0x01 else s
    s.showPaused.avail false)

/-- The boot core (R44): the lowest of C0–C3 that is not retired. -/
def State.bootCore (s : State) : Fin 8 :=
  ((List.finRange 8).find? fun c => c.val < 4 && (s.core c).run != .retired).getD 0

/-- The boot core starts in the boot ROM (R44). -/
def State.startBoot (s : State) : State :=
  let c := s.bootCore
  (s.wr SEQ_BOOTCORE (word c.val)).modCore c fun k => { k with run := .running, pc := 0x01000000 }

/-- The cores of a cycled SEQA or SEQB are loaded again from the running bundle (R389). -/
def State.reloadCores (s : State) (d : Nat) : State :=
  (domCores d).foldl (fun (s : State) c => if (s.core c).run == .retired then s else s.beginLoad c) s

/-- DOMAIN_ON (R311, R319, R389): domain d is ON, once a domain it depends on is. `sealOk`: for CRYP out of RET, every sealed
register's tag matches; else all are cleared, and the tamper line is asserted with source 6 (R358). -/
def execDomainOn (d : Fin 15) (sealOk : Bool) (s : State) : Host.Outcome State Fault Refusal :=
  .next (
    let k := s.dom d
    if d = 0 ∨ !k.busy ∨ k.hold.isSome ∨ k.target != .on ∨ (domDeps d).any fun e => !s.isOn e then s else
    let fromOff := k.state == .off
    let sealed := d = 8 ∧ !fromOff ∧ (List.range 5).any fun e => s.bit (KEYS_WKRe e) 30
    let s := s.modDom d fun k => { k with state := .on, busy := false }
    let s := s.atOn d fromOff sealOk
    let s := if fromOff ∧ d = 1 ∧ s.mode = 0 then s.startBoot
      else if fromOff ∧ (d = 1 ∨ d = 2) ∧ s.cycling d then s.reloadCores d
      else s
    let s := (s.raise 0x01 0x02).showPaused.avail false
    if sealed ∧ !sealOk then s.tamper 6 else s)

/-! ### The wake receiver (R322, R323) -/

/-- WKRX_FRAME (R322): the decoder has a frame with its sync: CRC good, and the address. -/
def execWkrxFrame (crcOk : Bool) (addr : BitVec 16) (s : State) : Host.Outcome State Fault Refusal :=
  .next (if !s.bit PWR_WKRX_CTL 31 || s.power.wkrxJam then s
    else if !crcOk then s.bump PWR_WKRX_CNT 15 8
    else
      let a := addr.toNat
      let own := s.fld PWR_WKRX_ADDR 15 0
      let uni := decide (a = own ∧ own ≠ 0)
      let grp := s.bit PWR_WKRX_CTL 29 && a == s.fld PWR_WKRX_ADDR 31 16
      let all := s.bit PWR_WKRX_CTL 30 && a == 0xFFFF
      if !(uni || grp || all) then s.bump PWR_WKRX_CNT 23 16
      else
        let soon := match s.power.wkrxLast with
          | some t => decide (s.elapsed < t + s.fld PWR_WKRX_CTL 15 8 * 65536)
          | none => false
        if soon then s.bump PWR_WKRX_CNT 7 0
        else
          let s := (s.bump PWR_WKRX_CNT 31 24).raise 0x05 0x01
          let s := { s with power := { s.power with wkrxLast := some s.elapsed } }
          s.wake 4 (if uni then 0 else if grp then 1 else 2) (s.wakeMap 0))

/-- WKRX_JAM (R323): the comparator output has been high for 10 ms. -/
def execWkrxJam (s : State) : Host.Outcome State Fault Refusal :=
  .next (if !s.bit PWR_WKRX_CTL 31 || s.power.wkrxJam then s
    else ({ s with power := { s.power with wkrxJam := true } }.setBit PWR_FLAGS 9 true).rated 0x05 recWKRX_JAM 0 0 0 0 true)

/-- WKRX_REARM (R323): the output has been low for 10 ms. -/
def execWkrxRearm (s : State) : Host.Outcome State Fault Refusal :=
  .next { s with power := { s.power with wkrxJam := false } }

/-! ### Supplies (R307, R308) -/

/-- PWR_SUPPLY with new readings: VIN in 50 mV, VBAK in 10 mV; VAON is the larger of the two, cut to its field (log entry 40). -/
def State.supply (s : State) (vin vbak : Nat) : State :=
  let v := s.rd PWR_SUPPLY
  let vaon := max (5 * vin) (if s.power.cellOff then 0 else vbak)
  s.wr PWR_SUPPLY (putBits (putBits (putBits v 31 22 (min vin 1023)) 21 12 (min vbak 1023)) 11 2 (min vaon 1023))

/-- A new reading of VIN. -/
def State.readVin (s : State) (vin : Nat) : State := s.supply vin (s.fld PWR_SUPPLY 21 12)

/-- A new reading of VBAK, in mV, with BAKPRES. -/
def State.readVbak (s : State) (mv : Nat) : State :=
  (s.supply (s.fld PWR_SUPPLY 31 22) (mv / 10)).setBit PWR_SUPPLY 0 (decide (2500 ≤ mv))

/-- VIN is good (R308). -/
def State.vinGood (s : State) : Bool := s.bit PWR_SUPPLY 1

/-- VIN_GLITCH (R308): a dip below the threshold that ends within 5 µs. -/
def execVinGlitch (s : State) : Host.Outcome State Fault Refusal :=
  .next (if s.vinGood then (s.bump PWR_BAKSTAT 7 0).setBit PWR_FLAGS 6 true else s)

/-- VIN_WARN (R324): a reading of VIN against THR; the event comes again only once VIN has been 0.5 V above it. -/
def execVinWarn (vin : BitVec 10) (s : State) : Host.Outcome State Fault Refusal :=
  .next (
    let s := s.readVin vin.toNat
    let thr := s.fld PWR_VINWARN 9 0
    if thr + 10 ≤ vin.toNat then { s with power := { s.power with warnHeld := false } }
    else if s.bit PWR_VINWARN 31 && decide (vin.toNat < thr) && !s.power.warnHeld then
      ({ s with power := { s.power with warnHeld := true } }.raise 0x01 0x03).setBit PWR_FLAGS 5 true
    else s)

/-- VBAK_PRESENT_CHANGE (R308): VBAK crosses 2.50 V. -/
def execVbakPresentChange (mv : BitVec 16) (s : State) : Host.Outcome State Fault Refusal :=
  .next (
    let s := s.readVbak mv.toNat
    if s.vinGood && !s.bit PWR_SUPPLY 0 then s.setBit PWR_FLAGS 4 true else s)

/-- VBAK_RECONNECT (R307): VBAK rises through 2.60 V with VIN good. -/
def execVbakReconnect (s : State) : Host.Outcome State Fault Refusal :=
  .next (if s.vinGood then { s with power := { s.power with cellOff := false } } else s)

/-! ### VIN loss (R325–R327, Table 13-8) -/

/-- PWR_LOSTSTATE as it stands: a domain in transition is captured as ON (R325). -/
def State.lostState (s : State) : Word :=
  word ((List.range 15).map fun d => (if s.domCode d = 3 then 2 else s.domCode d) * 4 ^ d).sum

/-- A domain forced down with nobody asked: its work ends, and it is in transition until it is isolated. -/
def State.dropDown (s : State) (d : Nat) (off : Bool) : State :=
  let k := s.dom d
  if !k.busy && (k.state == .off || (k.state == .ret && !off)) then s else
  let s := if k.state == .on then s.forcedEffects d else s
  s.modDom d fun k => { k with
    lastOut := (if k.busy && k.req != 15 && k.target != .on then 5 else k.lastOut)
    target := (if off || k.state == .off then .off else .ret)
    busy := true, hold := none, req := 15, again := false }

/-- A domain of PWR_BAKSET: an entry requested or under way is abandoned, and it stays ON. -/
def State.keepOn (s : State) (d : Nat) : State :=
  s.modDom d fun k =>
    if k.busy && k.target != .on && k.state == .on then
      { k with target := .on, busy := false, hold := none, again := false, lastOut := if k.req != 15 then 5 else k.lastOut }
    else k

/-- The domains that BACKUP takes from ON (R325), each with whether it goes to OFF. -/
def State.leaving (s : State) : List (Nat × Bool) :=
  ((List.range 15).filter fun d => d != 0 && !s.bit PWR_BAKSET d).map fun d => (d, !s.bit PWR_BAKRET d)

/-- The answers of every domain that is ON and leaves it, overridden; how many there were. -/
def State.overrideAll (s : State) (l : List (Nat × Bool)) : Nat × State :=
  l.foldl (fun (a : Nat × State) e =>
    if (a.2.dom e.1).state == .on then
      let r := a.2.override e.1 e.2
      (a.1 + r.1, r.2)
    else a) (0, s)

/-- An activation that a VIN loss ends (R14): not completed; the cores run the previous image. -/
def State.dropActivation (s : State) : State :=
  if s.mode ≠ 8 then s else
  let s := if s.upd.pktPause then (s.modUpd fun u => { u with pktPause := false }).drainHold else s
  let old := s.fld UPD_RUNENT 3 0
  let s := if old < 8 then s.loadBundle (s.entryAddr old) else s
  match s.upd.activate with
  | some a => ({ s with upd := { s.upd with activate := none } }).reply a.core a.head stPREEMPTED [3]
  | none => s

/-- BACKUP_ENTER (Table 17-15), written before LOG leaves. -/
def State.enterRecord (s : State) (n : Nat) : State :=
  (s.record 0x01 recBACKUP_ENTER (s.rd PWR_LOSTSTATE) (word n) (s.rd PWR_SUPPLY)).drainQueue

/-- VIN_LOSS (R325–R327, R334): the loss is confirmed, with the reading of VIN. During the restore of R333 it is forced entry
again, and PWR_LOSTSTATE stands. -/
def execVinLoss (vin : BitVec 10) (s : State) : Host.Outcome State Fault Refusal :=
  .next (if !s.vinGood then s else
    let again := s.power.backup
    let s := ((s.readVin vin.toNat).setBit PWR_SUPPLY 1 false).setBit PWR_FLAGS 0 true
    let s := if again then s else s.wr PWR_LOSTSTATE s.lostState
    let s := { s with power := { s.power with
      backup := true, restoring := false, cutoff := again && s.power.cutoff, bakLowSeen := again && s.power.bakLowSeen
      lossRtc := if again then s.power.lossRtc else s.elapsed } }
    let s := s.availCopy
    if s.mode = 11 then
      let s := (s.preemptOpening.closeSession 1).endModeReq stPREEMPTED
      let r := s.forceZeroized
      (r.2.enterRecord r.1).avail false
    else
      let out := s.leaving
      let r := s.overrideAll out
      let s := r.2.preemptOpening.closeSession 1
      let ret := if s.mode = 8 ∨ s.mode = 7 then s.fld SYS_MODE 11 8 else s.mode
      let s := s.dropActivation
      let s := if s.mode = 7 then s.endModeReq stPREEMPTED else s.hwMode 7 1 ret false
      let s := (s.bakset).foldl (fun (s : State) d => s.keepOn d) s
      let s := (out.filter fun e => e.1 != 14).foldl (fun (s : State) e => s.dropDown e.1 e.2) s
      let s := s.enterRecord r.1
      ((out.filter fun e => e.1 == 14).foldl (fun (s : State) e => s.dropDown e.1 e.2) s).avail false)

/-! ### The backup cell (R331) -/

/-- A record of the AON written through LOG, which is ON only for it and returns to its BACKUP state. -/
def State.throughLog (s : State) (put : State → State) : State :=
  let k := s.dom 14
  if s.isOn 14 || k.busy then put s else
  let off := k.state == .off
  let s := (s.noteWake 8 0 14).modDom 14 fun k => { k with state := .on }
  let s := (put (s.atOn 14 off true)).drainQueue
  let s := s.modDom 14 fun _ => k
  if off then s.atOff 14 else s.atRet 14

/-- BAK_LOW (R331): VBAK has fallen below its threshold: in BACKUP once, with VIN good at most one record an hour. -/
def execBakLow (mv : BitVec 16) (s : State) : Host.Outcome State Fault Refusal :=
  .next (
    let s := s.readVbak mv.toNat
    let v := word mv.toNat
    if s.power.backup && !s.vinGood then
      if s.power.bakLowSeen || s.power.cutoff then s
      else
        let s := { s with power := { s.power with bakLowSeen := true } }
        let s := (s.setBit PWR_FLAGS 3 true).raise 0x01 0x06
        s.throughLog fun s => s.record 0x01 recBAK_LOW v 0 0
    else if s.vinGood then (s.setBit PWR_FLAGS 3 true).rated 0x01 recBAK_LOW 0 v 1 0 false
    else s)

/-- VBAK_CUTOFF (R331, R334): the backup switch disconnects the cell; in BACKUP every domain then ON, or coming ON, goes OFF, and
one in RET stays in RET. -/
def execVbakCutoff (mv : BitVec 16) (s : State) : Host.Outcome State Fault Refusal :=
  .next (
    let s := s.readVbak mv.toNat
    let s := { s with power := { s.power with cellOff := true } }
    if !s.power.backup || s.vinGood || s.power.cutoff then s else
    let s := { s with power := { s.power with cutoff := true } }
    ((List.range 15).foldl (fun (s : State) d =>
      let k := s.dom d
      if d = 0 then s
      else if k.state == .on then s.dropDown d true
      else if k.busy && k.target == .on then s.dropDown d false
      else s) s).avail false)

/-! ### VIN returns (R332, R333) -/

/-- The domains of the reset set (R319). -/
def bootDoms : List Nat := [1, 8, 11, 14]

/-- The reset set brought ON together, unless RESET_N or EXTEST holds it OFF (R319, R421, R353). -/
def State.startBootSet (s : State) : State :=
  if s.host.resetLow || s.dbg.tap == .extest then s else [14, 1, 8, 11].foldl (fun (s : State) d => s.startOn d 15) s

/-- The domains that PWR_LOSTSTATE holds as ON come ON again (R333), the dependency of one first. -/
def State.restoreDoms (s : State) : State :=
  if s.mode = 11 then s else
  let l := (List.range 15).filter fun d => d != 0 && s.fld PWR_LOSTSTATE (2 * d + 1) (2 * d) == 2
  l.foldl (fun (s : State) d => if s.onOrComing d ∧ (s.dom d).hold.isNone then s else s.startOn d 15) s

/-- The first domain that a return wakes. -/
def State.firstLost (s : State) : Nat :=
  ((List.range 15).find? fun d => d != 0 && s.fld PWR_LOSTSTATE (2 * d + 1) (2 * d) == 2 && !s.onOrComing d).getD 0

/-- VIN_GOOD (R308, R319, R332, R333): VIN has been above the rising threshold for 2 ms. -/
def execVinGood (vin : BitVec 10) (s : State) : Host.Outcome State Fault Refusal :=
  .next (if s.vinGood then s else
    let s := (s.readVin vin.toNat).setBit PWR_SUPPLY 1 true
    let s := if s.bit PWR_SUPPLY 0 then s else s.setBit PWR_FLAGS 4 true
    if !s.power.backup then s.startBootSet
    else
      let case := if s.power.cutoff then 2 else 1
      let s := if s.power.cutoff then s.setBit PWR_FLAGS 2 true else s
      let s := { s with power := { s.power with restoring := true } }
      let f := s.firstLost
      (if s.mode = 11 then s.forceZeroized.2 else s.restoreDoms).noteWake 3 case f)

/-- BACKUP_RETURN (R333, R14, R421): the first TIME edge on which every domain that RETURN requires is ON. BACKUP ends; a loss in
BOOT, or RESET_N still low, ends it in a reset. -/
def execBackupReturn (s : State) : Host.Outcome State Fault Refusal :=
  .next (
    let ret := if s.mode = 11 then 11 else s.fld SYS_MODE 11 8
    if !s.power.backup || !s.power.restoring || !(s.modeDomains ret).all s.isOn then s else
    let case := if s.power.cutoff then 2 else 1
    let secs := word ((s.elapsed - s.power.lossRtc) / 65536)
    let s := (s.wr PWR_BAKTIME secs).record 0x01 recBACKUP_EXIT (word case) secs (word (s.fld SYS_MODE 11 8))
    let s := ((s.bump PWR_BAKSTAT 31 16).setFld PWR_BAKSTAT 15 14 case).raise 0x01 0x04
    let s := { s with power := { s.power with backup := false, restoring := false, cutoff := false } }
    if s.host.resetLow then { s with rep := { s.rep with reset := some ⟨4⟩ } }
    else if s.mode = 11 then s
    else if ret = 0 then { s with rep := { s.rep with reset := some ⟨11⟩ } }
    else s.hwMode ret 2 0 false)

end Sys2Proof.Machine
end

