-- ==== Sys2Proof/Machine/Reset.lean ====
section
/-!
DEFINITION. Sys2Proof/Machine/Reset.lean: the reset of PD1–PD14 (R319, R409, R421), AON power-on reset (R309), and BOOT as far as
the hardware and the boot ROM run it (R15, R44, R352, R422, R423, Table 18-9).
-/
namespace Sys2Proof.Machine

/-! ### The reset of PD1–PD14 -/

/-- The registers of a domain at their reset values (R319); the DRAM keeps its contents. -/
def State.resetDom (s : State) (d : Nat) : State := if d = 9 then s else s.atOff d

/-- Where a domain stands after a reset: the reset set is OFF, another in RET if it held a state, else OFF. -/
def State.resetPlace (s : State) (d : Nat) : State :=
  let s := { s with power := { s.power with retAt := vset s.power.retAt d s.elapsed } }
  s.modDom d fun k =>
    let st : PdState := if bootDoms.contains d || k.state == .off then .off else .ret
    { k with state := st, target := st, busy := false, hold := none, req := 15, again := false }

/-- Are the outages of a reset attributable to the device (R394): a fault's, or a revert's? -/
def resetDev (cause : Nat) : Bool := cause == 6 || cause == 8

/-- The reset applied (R319, R409, R44, R356, R390): the session and what waits end, the mode becomes BOOT, every register of
PD1–PD14 takes its reset value, and the reset set comes ON again unless RESET_N holds it OFF. -/
def State.applyReset (s : State) (cause : Nat) : State :=
  let s := (s.preemptOpening.closeSession 3).availCopy
  let lock := cause == 6 && decide (s.fld FAULT_CTL 31 24 < s.rep.warmTimes.length)
  let s := if s.mode = 0 then s.endModeReq stPREEMPTED else s.hwMode 0 cause 0 (resetDev cause)
  let s := s.wr SYS_MODE (s.rd SYS_MODE &&& 0xF0)
  let s := (List.range 15).foldl (fun (s : State) d => if d = 0 then s else s.resetDom d) s
  let s := (List.range 15).foldl (fun (s : State) d => if d = 0 then s else s.resetPlace d) s
  let s := s.resetBlock 0x40040000
  let s := (List.finRange 8).foldl (fun (s : State) (c : Fin 8) => s.modCore c fun k => { k with held := 0 }) s
  let s := match s.dbg.lcNew with
    | some l => { s with dbg := { s.dbg with lcNew := none } }.setFld DBG_LC 2 0 l
    | none => s
  let s := if lock then s.setBit FAULT_STAT 2 true else s
  let s := { s with rep := { s.rep with reset := none }, modeReq := none }
  let s := { s with
    host := { s.host with rstout := true, recovery := false, bundle := [] }
    upd := { s.upd with swap := Vector.replicate 8 none, pktPause := false, gnssPause := false, revertDue := false, activate := none } }
  s.startBootSet.avail (resetDev cause)

/-- BOOTSEL as sampled at the release of a reset (R422). -/
def State.sampleBootsel (s : State) (bootsel : Fin 4) : State := s.setFld GPIO_SYSPIN 31 30 bootsel.val

/-- RESET_APPLY (R409): a decided reset is applied, the write queue drained or 100 µs past; what is still queued is lost. Where
RESET_N does not hold the device, it is released at once, and BOOTSEL is sampled. -/
def execResetApply (bootsel : Fin 4) (s : State) : Host.Outcome State Fault Refusal :=
  .next (match s.rep.reset with
  | none => s
  | some r =>
    let s := s.applyReset r.cause
    if s.host.resetLow then s else s.sampleBootsel bootsel)

/-- RESET_N_ASSERT (R421): RESET_N is low on a number of consecutive samples: three decide a reset, fewer count as a glitch. In
BACKUP it is not acted on, but its level stands. -/
def execResetNAssert (samples : Fin 4) (s : State) : Host.Outcome State Fault Refusal :=
  .next (if s.host.resetLow then s
    else if samples.val < 3 then (if samples = 0 then s else s.bump GPIO_SYSPIN 7 0)
    else
      let s := s.modHost fun h => { h with resetLow := true }
      if s.mode = 7 then s else { s with rep := { s.rep with reset := some (s.rep.reset.getD ⟨4⟩) } })

/-- RESET_N_RELEASE (R421, R422): RESET_N is high on three samples. Where it held the device in reset with VIN good, the reset set
comes ON and BOOTSEL is sampled. -/
def execResetNRelease (bootsel : Fin 4) (s : State) : Host.Outcome State Fault Refusal :=
  .next (if !s.host.resetLow then s else
    let s := s.modHost fun h => { h with resetLow := false }
    if s.mode ≠ 0 || s.rep.reset.isSome || !s.vinGood then s
    else s.startBootSet.sampleBootsel bootsel)

/-- RSTOUT_RELEASE (R423): 10 ms after the release of a reset, RSTOUT_N and QSC_RST_N go high. -/
def execRstoutRelease (s : State) : Host.Outcome State Fault Refusal :=
  .next (if s.host.resetLow || s.rep.reset.isSome then s else s.modHost fun h => { h with rstout := false })

/-! ### AON power-on reset (R309) -/

/-- Is a register kept through AON power-on reset: in eMRAM or fuses, but not the stop latch of AON? -/
def keptReg (a : Nat) : Bool :=
  !decide (0x400E0800 ≤ a ∧ a < 0x400E0820) && match findReg a with
    | some r => r.keep
    | none => false

/-- Is a byte kept: in the eMRAM or the flash? -/
def keptMem (a : Nat) : Bool := decide (0x60000000 ≤ a ∧ a < 0x60800000) || decide (flashBase ≤ a)

/-- The state that an AON power-on reset leaves: everything as after reset but what eMRAM, flash and fuses hold. -/
def State.afterPor (s : State) : State :=
  let z := State.reset
  let lock := s.bit DBG_LC 9
  let regs := s.regs.filter fun (e : Nat × Word) => keptReg e.1 && (e.1 != DBG_TAMPCFG || lock)
  let z := { z with
    pending := s.pending, free := s.free, clock := s.clock, bus := s.bus, regs := regs
    mem := s.mem.filter fun e => keptMem e.1
    keys := { z.keys with
      objs := s.keys.objs, salt := s.keys.salt, devCkpt := s.keys.devCkpt, nodeCkpt := s.keys.nodeCkpt
      zero := s.keys.zero, zeroCause := s.keys.zeroCause, zeroSrc := s.keys.zeroSrc }
    gnss := { z.gnss with ref := s.gnss.ref }
    tx := { z.tx with duty := s.tx.duty.map fun d => { d with cur := 0, hist := [] }, savedAt := s.tx.savedAt }
    upd := { z.upd with
      listBits := s.upd.listBits, imgBits := s.upd.imgBits, erased := s.upd.erased, inprog := s.upd.inprog
      settings := s.upd.settings }
    dbg := { z.dbg with
      owner := s.dbg.owner, lcNew := s.dbg.lcNew, tampLc := s.dbg.tampLc
      lcCmd := if s.dbg.lcCmd = some 0 then some 0 else none }
    rep := { z.rep with avCopy := s.rep.avCopy, avAt := s.rep.avAt, avOpen := s.rep.avOpen, avPassed := s.rep.avPassed }
    host := { z.host with resetLow := s.host.resetLow } }
  let z := (List.finRange 8).foldl (fun (z : State) (c : Fin 8) =>
    if z.bit SEQ_RETIRE c.val then z.modCore c fun k => { k with run := .retired } else z) z
  (availRegs.zip s.rep.avCopy).foldl (fun (z : State) e => z.wr e.1 e.2) z

/-- AON_POWER_ON_RESET (R309, R14): VAON has fallen below the AON reset threshold. A MODE_CHANGE of cause 9 tells of the mode that
was left. -/
def execAonPowerOnReset (s : State) : Host.Outcome State Fault Refusal :=
  .next (
    let old := s.mode
    let z := s.afterPor.dbgChallenge.newChallenge
    let z := match z.dbg.lcNew with
      | some l => { z with dbg := { z.dbg with lcNew := none } }.setFld DBG_LC 2 0 l
      | none => z
    let z := z.setBit DBG_LC 31 false
    let z := if old = 0 then z else z.record 0x00 recMODE_CHANGE (word (old * 16 + 15)) 9 0
    z.avail false)

/-! ### BOOT (Table 18-9) -/

/-- An unfinished zeroization completed (R257, R352), and in FIELD the ZEROIZED fuses. -/
def State.finishZeroize (s : State) : State :=
  let s := if s.keys.zero = 0 then s else
    let s := if s.keys.zero = 1 then (let r := s.randomKey
        r.2.modKeys fun x => { x with salt := toBlock r.1 }) else s
    s.zeroizeEnd 2 0
  if s.dbg.lcCmd = some 0 then
    let old := s.lifecycle
    let s := ({ s with dbg := { s.dbg with lcCmd := none } }.setBit DBG_LC 31 false).setFld DBG_LC 2 0 4
    s.record 0x0D recLC_CHANGE (word old) 4 0
  else s

/-- A BOOT of a slot (R373, R422): with a trial in progress it is counted, the third reverts; the slot in BOOT is the one that
runs. -/
def State.bootSlot (s : State) : State :=
  let s := if !s.bit UPD_BOOT 31 then s else
    let n := s.fld UPD_BOOT 17 16 + 1
    let s := s.setFld UPD_BOOT 17 16 n
    if 3 ≤ n then (s.revert 3).modUpd fun u => { u with revertDue := false }
    else if s.fld UPD_TRIAL 31 16 = 0 then s.setFld UPD_TRIAL 31 16 (s.fld UPD_TRIAL 15 0)
    else s
  (s.setFld UPD_BOOT 8 8 (s.fld UPD_BOOT 0 0)).setBit UPD_BOOT 30 false

/-- EMRAM_STATES_RESOLVED (R15, R352, R366, R239; step 3 of Table 18-9): zeroization, fuses and pieces are completed, the SEK is
derived; BOOT then goes on, ends in ZEROIZED on a part of that lifecycle state, or in MAINT after too many warm resets (R390). -/
def execEmramStatesResolved (s : State) : Host.Outcome State Fault Refusal :=
  .next (if s.mode ≠ 0 || !s.isOn 14 || !s.isOn 1 then s else
    let s := s.finishZeroize.resumePieces.modKeys fun x => { x with sek := true }
    if s.lifecycle = 4 then
      let s := (s.hwMode 11 10 0 false).forceZeroized.2
      (s.modCore s.bootCore fun k => { k with run := .halted }).leaveBoot 0
    else
      let s := s.bootSlot
      let s := if s.fld GPIO_SYSPIN 31 30 = 3 then s.modHost fun h => { h with recovery := true } else s
      if s.bit FAULT_STAT 2 then
        let c := s.bootCore
        ((s.changeMode 10 c.val 0 0 false).noteMode c.val 10 stOK).leaveBoot 0
      else s)

/-- UART_FRAME (R422): in UART recovery, by BOOTSEL or where no slot of the flash is verified, the boot ROM has received a frame, its CRC correct or not, and answers 0x06 or 0x15; a frame
of no octets ends the transfer. -/
def execUartFrame (payload : List Byte) (crcOk : Bool) (s : State) : Host.Outcome State Fault Refusal :=
  .next (if s.mode ≠ 0 || !s.isOn 11 || !(s.host.recovery || (s.fld GPIO_SYSPIN 31 30 == 0 && s.fld UPD_RUNENT 3 0 == 15)) then s
  else
    let good := crcOk && decide (payload.length ≤ 1024)
    let s := s.modHost fun h => { h with uartTx := h.uartTx ++ [if good then 0x06 else 0x15] }
    if !good then s
    else if payload = [] then s.modHost fun h => { h with recovery := false }
    else s.modHost fun h => { h with bundle := h.bundle ++ payload })

end Sys2Proof.Machine
end

