-- ==== Sys2Proof/Machine/Debug.lean ====
section
/-!
DEFINITION. Sys2Proof/Machine/Debug.lean: lifecycle commands (15: R348–R350), the tamper inputs (R351, R352), the debug session
(R355–R357, R360) and the TAP (R353, R438). DBGACC, which reaches the register space, is in LoadStore.lean.
-/
namespace Sys2Proof.Machine

/-! ### Lifecycle (R349, R350) -/

/-- A lifecycle command completes at once with a status and detail. -/
def State.lcStatus (s : State) (status detail : Nat) : State :=
  (s.setFld DBG_LCSTAT 15 8 detail).setFld DBG_LCSTAT 7 0 status

/-- A lifecycle command accepted: its fuses are being programmed. -/
def State.lcAccept (s : State) (cmd : Nat) : State :=
  ({ s with dbg := { s.dbg with lcCmd := some cmd } }.wr DBG_LCSTAT 0x80000000).setBit DBG_LC 31 true

/-- The P-256 public key in DBG_RESP0–15, or any octets of the response buffer, first octet in [31:24]. -/
def State.respOctets (s : State) (k n : Nat) : List Byte :=
  (List.range n).flatMap fun i => beOctets (s.rd (DBG_RESPk (k + i))).toNat 4

/-- The first unmet precondition of TO_FIELD (R349): its DETAIL, or 0. -/
def State.fieldDetail (s : State) : Nat :=
  if !s.bit SUBTX_GRDSTAT 31 then 1 else if s.fld KEYS_STAT 31 30 = 0 then 2 else if !s.bit DBG_LC 8 then 3 else 0

/-- A write of DBG_LCCMD (R349): with KEY 0x4C43, the checks in their order. -/
def State.lcCommand (s : State) (key cmd : Nat) : State :=
  if key ≠ 0x4C43 then s
  else if s.bit DBG_LCSTAT 31 || s.dbg.lcCmd.isSome then s.setFld DBG_LCSTAT 7 0 stBUSY
  else
    let lc := s.lifecycle
    match cmd with
    | 1 => if lc ≠ 0 then s.lcStatus stLIFECYCLE 0 else s.lcAccept 1
    | 2 => if lc ≠ 1 ∨ s.bit DBG_LC 8 then s.lcStatus stLIFECYCLE 0
      else
        let h := Config.sha256 (s.respOctets 0 16)
        { s with dbg := { s.dbg with owner := h } }.lcAccept 2
    | 3 => if lc ≠ 1 then s.lcStatus stLIFECYCLE 0
      else if s.fieldDetail ≠ 0 then s.lcStatus stNOTREADY s.fieldDetail
      else s.lcAccept 3
    | 4 => if lc = 3 then s.lcStatus stLIFECYCLE 0
      else if (match s.dbg.rmaAt with
        | some t => decide (s.elapsed / 65536 ≤ t + 60)
        | none => false) then
        let s := (s.zeroizeStart 1 0).lcAccept 4
        if s.isOn 14 then s else s.wake 7 0 [14]
      else s.lcStatus stAUTH 0
    | _ => s.lcStatus stRANGE 0

/-- TO_PROVISION (R349). -/
def execToProvision (key : BitVec 16) (s : State) : Host.Outcome State Fault Refusal := .next (s.lcCommand key.toNat 1)

/-- FUSE_OWNER (R349): SHA-256 of the public key in DBG_RESP0–15 as the owner debug key. -/
def execFuseOwner (key : BitVec 16) (s : State) : Host.Outcome State Fault Refusal := .next (s.lcCommand key.toNat 2)

/-- TO_FIELD (R349). -/
def execToField (key : BitVec 16) (s : State) : Host.Outcome State Fault Refusal := .next (s.lcCommand key.toNat 3)

/-- TO_RMA (R349, R350): under an RMA authorisation of the last 60 s; the zeroization starts before the fuses. -/
def execToRma (key : BitVec 16) (s : State) : Host.Outcome State Fault Refusal := .next (s.lcCommand key.toNat 4)

/-- The state that a command's fuses give. -/
def lcState (cmd old : Nat) : Nat := if cmd = 0 then 4 else if cmd = 1 then 1 else if cmd = 3 then 2 else if cmd = 4 then 3 else old

/-- LC_FUSES_DONE (R350, Table 15-3): the fuses are programmed, and LC_CHANGE is written. TO_PROVISION, TO_FIELD and TO_RMA decide a
reset, after which the new state holds; the ZEROIZED group of a tamper holds at once. TO_FIELD fuses DBG_TAMPCFG, FUSE_OWNER sets
OWNERKEY. -/
def execLcFusesDone (s : State) : Host.Outcome State Fault Refusal :=
  .next (match s.dbg.lcCmd with
  | none => s
  | some cmd =>
    let old := s.lifecycle
    let new := lcState cmd old
    let s := { s with dbg := { s.dbg with lcCmd := none } }.setBit DBG_LC 31 false
    let s := s.record 0x0D recLC_CHANGE (word old) (word new) (word cmd)
    if cmd = 0 then s.setFld DBG_LC 2 0 4 else
    let s := s.wr DBG_LCSTAT 0
    if cmd = 2 then s.setBit DBG_LC 8 true else
    let s := if cmd = 3 then s.setBit DBG_LC 9 true else s
    { s with
      dbg := { s.dbg with lcNew := some new }
      rep := { s.rep with reset := some (s.rep.reset.getD ⟨7⟩) } })

/-! ### Tamper inputs (R351, R352, Table 15-2) -/

/-- TAMPER_ASSERT (R351, R352): an enabled source asserts for a number of samples: three at TAMP0 and TAMP1 and two mismatches of
the mesh are a valid assertion and fewer a glitch; the others tell valid assertions only. Source 6 is a failed unseal. -/
def execTamperAssert (src : Fin 7) (samples : Fin 4) (s : State) : Host.Outcome State Fault Refusal :=
  .next (
    let i := src.val
    if i = 6 then s.tamper 6
    else if !s.bit DBG_TAMPCFG i || s.bit DBG_TAMPSTAT i || samples == 0 then s
    else if i < 2 ∧ samples.val < 3 then
      (s.bump DBG_TAMPCNT (31 - 8 * i) (24 - 8 * i)).rated 0x04 recTAMP_GLITCH i 0 (word i) 0 true
    else if i = 2 ∧ samples.val < 2 then s.bump DBG_TAMPCNT 15 8
    else (s.setBit DBG_TAMPSTAT i true).tamper i)

/-- TAMPER_INPUT_RELEASE (R351): a source no longer asserts. -/
def execTamperInputRelease (src : Fin 6) (s : State) : Host.Outcome State Fault Refusal :=
  .next (s.setBit DBG_TAMPSTAT src.val false)

/-! ### Opening a session (R355, R357) -/

/-- The lifecycle state whose row of Table 15-5 applies: that of ZEROIZED in mode ZEROIZED. -/
def State.debugRow (s : State) : Nat := if s.mode = 11 then 4 else s.lifecycle

/-- May a level be opened in a row of Table 15-5? -/
def levelOk (row level : Nat) : Bool :=
  level == 0xF || level == 1 || (level == 2 && row != 4) || (level == 3 && (row == 0 || row == 3))

/-- A write of DBG_OPEN by the debug port: an opening begins. With one in progress it changes nothing (log entry 41). -/
def State.writeOpen (s : State) (v : Word) : State :=
  if s.dbg.opening.isSome then s else
  { s with dbg := { s.dbg with opening := some (bits v 31 28, bitAt v 24, v &&& 0x7FFE) } }.setBit DBG_SESS 28 true

/-- DEBUG_OPEN (R355): a write of DBG_OPEN. -/
def execDebugOpen (v : Word) (s : State) : Host.Outcome State Fault Refusal := .next (s.writeOpen v)

/-- The 24 octets that an opening's signature covers (R355). -/
def State.openMessage (s : State) (level : Nat) (mask : Word) : List Byte :=
  beOctets level 1 ++ beOctets s.lifecycle 1 ++ beOctets (s.rd SYS_ID).toNat 4
    ++ beOctets (s.rd DBG_UID_HI).toNat 4 ++ beOctets (s.rd DBG_UID_LO).toNat 4
    ++ beOctets (s.rd DBG_CHAL_HI).toNat 4 ++ beOctets (s.rd DBG_CHAL_LO).toNat 4 ++ beOctets mask.toNat 2

/-- Does the response verify: the signature in DBG_RESP16–31 under the vendor key, or under the key in DBG_RESP0–15 whose hash is
the owner's (R355)? -/
def State.openAuth (s : State) (level : Nat) (owner : Bool) (mask : Word) : Bool :=
  let row := s.debugRow
  let digest := Config.sha256 (s.openMessage level mask)
  let sig := s.respOctets 16 16
  let key := s.respOctets 0 16
  if level = 0xF ∧ (owner ∨ mask ≠ 0) then false
  else if owner then
    row != 0 && row != 3 && row != 4 && s.bit DBG_LC 8 && Config.sha256 key == s.dbg.owner && Config.ecdsaVerify key digest sig
  else Config.ecdsaVerify Config.vendorKey digest sig

/-- The domains of a mask. -/
def maskDoms (mask : Word) : List Nat := (List.range 15).filter fun d => d != 0 && bitAt mask d

/-- The status of an opening: the first check of R355 that fails. -/
def State.openStatus (s : State) (level : Nat) (owner : Bool) (mask : Word) : Nat :=
  let out := (maskDoms mask).filter fun d => !s.isOn d
  if s.fld DBG_STAT 23 8 ≠ 0 ∨ s.mode = 7 then stDENIED
  else if s.session then stBUSY
  else if !levelOk s.debugRow level then stLIFECYCLE
  else if !s.openAuth level owner mask then stAUTH
  else if out ≠ [] ∧ (!s.bit DBG_SESS 25 ∨ s.zeroBarred out) then stNOTREADY
  else stOK

/-- A session opened: its domains attached, those not ON woken; a HALT session in FIELD clears every working key register and sets
HALTBLK (R357). -/
def State.openSession (s : State) (level : Nat) (owner : Bool) (mask : Word) : State :=
  let s := (s.setFld DBG_SESS 31 30 level).setFld DBG_SESS 14 1 (mask.toNat / 2)
  let s := s.setBit DBG_FLAGS 0 true
  let out := (maskDoms mask).filter fun d => !s.isOn d
  let s := if out = [] then s else s.wake 9 level out
  let s := if level = 2 ∧ s.lifecycle = 2 then
      let s := (s.clearKeys true).setBit KEYS_STAT 2 true
      { s with dbg := { s.dbg with crypOff := false } }
    else s
  (s.raise 0x0D 0x01).record 0x0D recDBG_OPEN (word level) (word (b2n owner)) mask

/-- OPENING_DONE (R355): the opening completes; LEVEL 0xF is the RMA authorisation and opens no session. Every attempt replaces
the challenge. -/
def execOpeningDone (s : State) : Host.Outcome State Fault Refusal :=
  .next (match s.dbg.opening with
  | none => s
  | some (level, owner, mask) =>
    let st := s.openStatus level owner mask
    let s := { s with dbg := { s.dbg with opening := none } }.setBit DBG_SESS 28 false
    let s := s.dbgChallenge
    if st ≠ stOK then s.openFailed st level else
    let s := (s.setFld DBG_STAT 31 24 0).setFld DBG_STAT 7 0 stOK
    if level = 0xF then { s with dbg := { s.dbg with rmaAt := some (s.elapsed / 65536) } }
    else (s.openSession level owner mask).showPaused)

/-- DEBUG_CLOSE (R356): a write of DBG_CLOSE with CLOSE. -/
def execDebugClose (s : State) : Host.Outcome State Fault Refusal := .next (s.closeSession 0)

/-- LOCKOUT_EXPIRY (R355): the 600 s are over. -/
def execLockoutExpiry (s : State) : Host.Outcome State Fault Refusal := .next (s.setFld DBG_STAT 23 8 0)

/-! ### Halt, step and freeze (R354, R359) -/

/-- Does the session hold HALT or FULL, and its domain of a core or a freeze attached? -/
def State.mayHalt (s : State) (d : Nat) : Bool := 2 ≤ s.fld DBG_SESS 31 30 && s.attached d

/-- A write of DBG_HALT (R354, R359): HALT bits of cores in attached domains, STEP for halted cores, FREEZE of attached domains;
the freeze of CRYP is refused in FIELD, which sets DENIED. -/
def State.writeHalt (s : State) (v : Word) : State :=
  if s.fld DBG_SESS 31 30 < 2 then s else
  let refused := bitAt v 23 && s.lifecycle == 2
  let frz := ((List.range 15).filter fun d => d != 0 && bitAt v (15 + d) && s.attached d && !(d == 8 && refused)).map fun d => 2 ^ (d - 1)
  let cores := (List.finRange 8).filter fun c => bitAt v c.val && s.attached (coreDom c)
  let steps := cores.filter fun c => bitAt v (8 + c.val)
  let s := if refused then s.setBit DBG_FLAGS 1 true else s
  let s := s.wr DBG_HALT (word (frz.sum * 65536 + (cores.map fun c => 2 ^ c.val).sum))
  (List.finRange 8).foldl (fun (s : State) (c : Fin 8) => s.modCore c fun k => { k with
    dbgHalt := cores.contains c, dbgStep := steps.contains c && k.dbgHalt }) s

/-- CORE_HALT (R354): HALT bits written, the rest of DBG_HALT kept. -/
def execCoreHalt (mask : BitVec 8) (s : State) : Host.Outcome State Fault Refusal :=
  .next (s.writeHalt (putBits (s.rd DBG_HALT) 7 0 mask.toNat))

/-- CORE_STEP (R354): STEP bits written: each of these cores that is halted executes one instruction. -/
def execCoreStep (mask : BitVec 8) (s : State) : Host.Outcome State Fault Refusal :=
  .next (s.writeHalt (putBits (s.rd DBG_HALT) 15 8 mask.toNat))

/-- DOMAIN_FREEZE (R354, R359): FREEZE bits written. -/
def execDomainFreeze (mask : BitVec 14) (s : State) : Host.Outcome State Fault Refusal :=
  .next (s.writeHalt (putBits (s.rd DBG_HALT) 29 16 mask.toNat))

/-! ### The TAP (R353, R438) -/

/-- Another TAP instruction is selected; leaving EXTEST releases the reset that it holds. -/
def State.selectTap (s : State) (t : Tap) : State :=
  let was := s.dbg.tap == .extest
  let s := { s with dbg := { s.dbg with tap := t } }
  if was && t != .extest && s.rep.reset.isNone && s.mode == 0 && s.vinGood && !(s.onOrComing 1) then s.startBootSet else s

/-- EXTEST (R353): PD1–PD14 are held in reset while it is selected. Table 17-15 gives this reset no cause, so the one in its
MODE_CHANGE record is free (log entry 42). -/
def execExtest (s : State) : Host.Outcome State Fault Refusal :=
  .next (if s.dbg.tap == .extest then s else
    let r := (s.selectTap .extest).fresh
    { r.2 with rep := { r.2.rep with reset := some (r.2.rep.reset.getD ⟨16 + r.1.toNat⟩) } })

/-- SAMPLE/PRELOAD (R353): selects the boundary-scan register, whose cells the spec does not list. -/
def execSamplePreload (s : State) : Host.Outcome State Fault Refusal := .next (s.selectTap .sample)

/-- IDCODE (R353): version 0xB, part 0x7200, manufacturer 0x2AD. -/
def execIdcode (s : State) : Host.Outcome State Fault Refusal := .next { s.selectTap .idcode with bus := 0xB720055B }

/-- BYPASS (R438): code 0xF and every unused code of the 4-bit instruction register. -/
def execBypass (code : BitVec 4) (s : State) : Host.Outcome State Fault Refusal :=
  .next (if [0x0, 0x1, 0x2, 0x8].contains code.toNat then s else s.selectTap .bypass)

end Sys2Proof.Machine
end

