-- ==== Sys2Proof/Machine/Access.lean ====
section
/-!
DEFINITION. Sys2Proof/Machine/Access.lean: what the register tables say of a register by itself: the domain it lies in
(R448), its WO bits, the values its fields take in place of those written (0 written as 1, the nearer limit), the values it
ignores, and what it reads as now.
-/
namespace Sys2Proof.Machine

/-! ### Where a register lies -/

/-- Is an address in the read-only mirror of the guard registers in ISM (R148)? -/
def guardMirror (a : Nat) : Bool := decide (0x40070800 ≤ a ∧ a ≤ 0x40070C14)

/-- The table line of a register; a mirror of a guard register has that register's. -/
def regAt (a : Nat) : Option RegSpec := findReg (if guardMirror a then a - 0x10000 else a)

/-- The domain of a register (Table 19-3, R448): the per-core registers of C4–C7 and their mailboxes follow SEQB, the stop
registers of FLEET are in AON. -/
def regDom (a : Nat) : Nat :=
  let o := a % 0x10000
  match a / 0x10000 with
  | 0x4003 => 12
  | 0x4004 => if (0x100 ≤ o && o < 0x200) || (0x600 ≤ o && o < 0x800) || (0x1400 ≤ o && o < 0x1800) then 2 else 1
  | 0x4005 => 3
  | 0x4006 => 4
  | 0x4007 => 5
  | 0x4008 => 7
  | 0x4009 => 7
  | 0x400A => 7
  | 0x400B => 7
  | 0x400C => 8
  | 0x400D => 6
  | 0x400E => if 0x800 ≤ o && o < 0x820 then 0 else 13
  | 0x400F => 10
  | 0x4010 => 11
  | 0x4011 => 14
  | 0x4012 => 14
  | 0x4013 => 14
  | 0x4014 => 14
  | 0x4015 => 14
  | 0x4017 => 11
  | _ => 0

/-- Registers with WO bits: first address, stride, count, and the bits; the bits that such a table row gives as zero are WO too. -/
def woTable : List (Nat × Nat × Nat × Nat) :=
  [(0x40020030, 4, 1, 0xFFFFFFFF), (0x40041040, 0x100, 8, 0x101), (0x40060044, 0x40, 2, 0xFFFFFFFF),
   (0x40060C14, 4, 1, 0xFFFFFFFF), (0x40070044, 4, 1, 0xFFFFFFFF), (0x400800D4, 4, 1, 0xFFFFFFFF),
   (0x40090818, 4, 1, 0xFFFFFFFF), (0x40090828, 4, 1, 0xFFFFFFFF), (0x400A0020, 4, 1, 0xFFFFFFFF),
   (0x400A013C, 4, 1, 0xFFFFFFFF), (0x400A01C8, 4, 1, 0xFFFFFFFF), (0x400B00A4, 4, 1, 0xFFFFFFFF),
   (0x400B00C0, 4, 1, 0xFFFFFFFF), (0x400C0008, 4, 1, 0xFFFFFFFF), (0x400C006C, 4, 1, 1)]
  ++ [(0x400D1000, 0x10, 72, 0xF0000000), (0x400E0618, 4, 1, 0xFFFFFFFF), (0x400E0700, 4, 1, 0xFFFFFFFF),
   (0x400E0818, 4, 1, 0xFFFFFFFF), (0x400F0100, 4, 1, 0xFFFFFFFF), (0x400F0810, 0x40, 2, 1),
   (0x40120004, 4, 1, 0xFFFFFFFF), (0x40130024, 4, 1, 0xFFFFFFFF), (0x40130044, 0x20, 2, 0xFFFFFFFF),
   (0x40140010, 4, 1, 0xFFFFFFFF), (0x4015000C, 4, 1, 0xFFFFFFFF), (0x40150044, 4, 1, 0xFFFFFFFF),
   (0x40160004, 4, 1, 0xFFFFFFFF), (0x4016001C, 4, 1, 0xFFFFFFFF), (0x4016002C, 4, 1, 0xFFFFFFFF),
   (0x40160030, 4, 1, 0xFF00), (0x40170000, 4, 1, 1)]

/-- The WO bits of a register (R5). -/
def woMask (a : Nat) : Nat :=
  match woTable.find? fun e => onStride [(e.2.1, e.2.2.1)] (a - e.1) && decide (e.1 ≤ a) with
  | some e => e.2.2.2
  | none => 0

/-- The command registers, which start a command when they are written (R207, R380): those of which every bit is WO, and
NET_INSp_GO and GNSS_CHn_CFG. -/
def isCommand (a : Nat) : Bool :=
  woMask a == 0xFFFFFFFF || a == NET_INSp_GO 0 || a == NET_INSp_GO 1 || decide (0x400D1000 ≤ a) && woMask a == 0xF0000000

/-- Index of a repeated register, its first address and stride given. -/
def idx (a base stride : Nat) : Nat := (a - base) / stride

/-! ### Values written as others -/

/-- A field with 0 written as 1. -/
def atLeast1 (hi lo : Nat) (v : Word) : Word := if bits v hi lo = 0 then putBits v hi lo 1 else v

/-- A field written as the nearer limit. -/
def nearer (hi lo mn mx : Nat) (v : Word) : Word := putBits v hi lo (max mn (min mx (bits v hi lo)))

/-- What the fields of a register take in place of a value written (the field tables of each chapter): 0 written as 1, others
written as the nearer limit. -/
def written (a : Nat) (v : Word) : Word :=
  let o := a % 0x10000
  match a / 0x10000 with
  | 0x4001 => if a = PWR_WKRX_CTL then atLeast1 15 8 v else v
  | 0x4003 => if a = TIME_SLEW then nearer 15 0 1 10000 (atLeast1 31 16 v)
    else if a = TIME_MAINS_CTL then atLeast1 15 8 v else v
  | 0x4005 => if a = CARD_NFCTL then nearer 19 16 4 12 (atLeast1 15 0 v)
    else if a = CARD_PATHp_CTL 0 ∨ a = CARD_PATHp_CTL 1 then nearer 12 8 0 18 v else v
  | 0x4008 => if a = MAC_CTL then nearer 31 24 40 255 (nearer 13 9 0 16 v)
    else if a = MAC_BRIMCFG then atLeast1 3 0 v
    else if a = MAC_FLOODCFG then atLeast1 15 8 v
    else if a = MAC_RPLCFG then nearer 5 0 1 32 v else v
  | 0x4009 => if a = QFAB_CTL then atLeast1 23 16 (atLeast1 15 8 v) else v
  | 0x400A => if a = FWD_BRCFG then nearer 31 17 10 30000 (atLeast1 15 8 v)
    else if a = FWD_BRLFSR then (if bits v 15 0 = 0 then 0xACE1 else v)
    else if 0x110 ≤ o ∧ o < 0x120 then nearer 14 0 0 16384 v else v
  | 0x400B => if 0x20 ≤ o ∧ o < 0x60 then (if o % 16 = 0 then atLeast1 27 24 v else if o % 16 = 12 then atLeast1 7 0 v else v)
    else if 0x1000 ≤ o ∧ o < 0x2000 ∧ o % 16 = 0 then nearer 30 24 8 125 v
    else if 0x8000 ≤ o then (if o % 8 = 0 then atLeast1 31 16 v else atLeast1 26 20 v)
    else v
  | 0x400D => if a = GNSS_INTCFG then (if bits v 15 12 < 3 then putBits v 15 12 3 else v)
    else if a = GNSS_SURVEY then atLeast1 31 16 v else v
  | 0x400E => if a = FLEET_RESCFG then atLeast1 31 24 v else if a = FLEET_STOP_CFG then atLeast1 15 8 v else v
  | 0x4012 => if a = REPLAY_CTL then atLeast1 23 16 v else v
  | 0x4014 => if a = UPD_TRIAL then atLeast1 15 0 v else v
  | _ => v

/-! ### Values ignored -/

/-- The chain and entry of a calibration frequency register. -/
def frqOf (a : Nat) : Option (Nat × Nat) :=
  if 0x40064000 ≤ a ∧ a < 0x40068000 ∧ a % 8 = 0 then some ((a - 0x40064000) / 0x2000, (a - 0x40064000) % 0x2000 / 8)
  else if 0x40074000 ≤ a ∧ a < 0x40076000 ∧ a % 8 = 0 then some (2, (a - 0x40074000) / 8)
  else none

/-- Is an address a guard register, or SUBTX_GRDLOCK, or their mirror in ISM? -/
def isGuard (a : Nat) : Bool := (decide (0x40060800 ≤ a ∧ a ≤ 0x40060C14) && (findReg a).isSome) || guardMirror a

/-- Are the guard registers writable: until LOCKED, in BLANK or PROVISION (R138)? -/
def State.guardWritable (s : State) : Bool := !s.bit SUBTX_GRDSTAT 31 && decide (s.lifecycle ≤ 1)

/-- The budget of PWR_BAKSET: the weights of its domains, 0.1 mW (R329). -/
def baksetLoad (v : Word) : Nat := ((List.range 15).map fun d => if bitAt v d then domWeight d else 0).sum

/-- Does a register ignore or refuse a value (Table 16-8, rule 6)? W400 on an odd channel and the guard's own refusals have
rules of their own there. -/
def State.refuses (s : State) (a : Nat) (v : Word) : Bool :=
  match frqOf a with
  | some (x, _) => !frqInRange x (bits v 27 0)
  | none =>
    if a = CARD_PATHp_FC 0 ∨ a = CARD_PATHp_FC 1 then decide (bits v 16 0 < 78180 ∨ 94720 < bits v 16 0)
    else if a = CARD_LANE_MAP_LO ∨ a = CARD_LANE_MAP_HI then s.rd a &&& ~~~v != 0 && s.mode != 10
    else if a = ISM_RX_CTL then decide (bits v 4 0 < 11 ∨ 26 < bits v 4 0)
    else if a = QFAB_HDQPUSH then decide (16383 < bits v 23 0)
    else if a = NET_MDIO_CMD then decide (4 < bits v 31 29)
    else if a = PWR_BAKSET then decide (7500 < baksetLoad v)
    else if a = RTC_DAYBASE then decide (86399 < bits v 16 0)
    else if a = RTC_SETWDAY then decide (6 < bits v 2 0)
    else if 0x400D0050 ≤ a ∧ a ≤ 0x400D0068 then !s.refOpen
    else if 0x400E0100 ≤ a ∧ a < 0x400E0500 ∧ a % 16 = 0 then
      let st := bits v 31 29
      st != 0 && st != bits (s.rd a) 31 29 && !(st == 2 && bits (s.rd a) 31 29 == 1)
    else isGuard a && !s.guardWritable

/-! ### What a register reads as -/

/-- SYS_OVERLAY (Table 01-13). -/
def State.overlay (s : State) : Word :=
  word (b2n (!s.isOn 12 || s.mainsLost) * 4 + b2n (!s.isOn 12 || decide (s.tqState ≤ 1)) * 2 + b2n s.latched)

/-- PWR_STATE (Table 13-12). -/
def State.pwrState (s : State) : Word := word (((List.range 15).map fun d => s.domCode d * 4 ^ d).sum)

/-- PWR_DOMd_STAT. -/
def State.domStat (s : State) (d : Nat) : Word :=
  let k := s.dom d
  let t := match k.target with
    | .off => 0
    | .ret => 1
    | .on => 2
  word (s.domCode d * 2 ^ 30 + t * 2 ^ 28 + b2n k.busy * 2 ^ 27 + b2n (s.attached d) * 2 ^ 26 + k.req.val * 2 ^ 20
    + k.lastOut.toNat)

/-- TIME_SRCk_STAT. -/
def State.srcStat (s : State) (k : Nat) : Word :=
  let x := s.src k
  word (b2n x.valid * 2 ^ 31 + b2n (s.usedSrc == k) * 2 ^ 30 + min (x.ageNs / 1000000) 0xFFFFFF)

/-- The STATE code of SEQ_STATn (Table 02-17). -/
def RunState.code : RunState → Nat
  | .halted => 0
  | .running => 1
  | .wfe => 2
  | .waiting _ => 3
  | .retired => 4
  | .loading => 5

/-- SEQ_STATn; a core that DBG_HALT halts reads HALTED. -/
def State.seqStat (s : State) (c : Fin 8) : Word :=
  let k := s.core c
  word (k.lastev.val * 65536 + (if k.dbgHalt && k.run != .retired then 0 else k.run.code) * 256 + k.level.val * 16)

/-- QFAB_Qq_STAT. -/
def State.portStat (s : State) (q : Nat) : Word :=
  let p := s.port q
  word (b2n p.bp * 2 ^ 31 + b2n p.cpend * 2 ^ 30 + b2n p.noaud * 2 ^ 29 + b2n p.rIn * 2 ^ 28 + p.words.length % 128 * 65536
    + p.cred % 128)

/-- QFAB_DQSTATd. -/
def State.dqStat (s : State) (d : Nat) : Word :=
  let x := s.descq d
  word (b2n x.bp * 2 ^ 31 + x.items.length % 16384 * 32768 + x.cred % 32768)

/-- What a register reads as now, without the effects of the read (R5). -/
def State.value (s : State) (ag : Agent) (a : Nat) : Word :=
  let o := a % 0x10000
  match a / 0x10000 with
  | 0x4000 => if a = SYS_OVERLAY then s.overlay else s.rd a
  | 0x4001 => if a = PWR_STATE then s.pwrState
    else if 0x120 ≤ o ∧ o < 0x2E0 ∧ o % 32 = 0 then s.domStat ((o - 0x100) / 32) else s.rd a
  | 0x4003 => if a = TIME_RESID then iword (s.time.resid.tdiv (2 ^ 38))
    else if a = TIME_PHACC then iword (s.time.phacc.tdiv (2 ^ 38))
    else if a = TIME_TQERR then word s.tqErr
    else if 0x50 ≤ o ∧ o < 0xC0 ∧ o % 32 = 16 then s.srcStat ((o - 0x50) / 32)
    else if 0x100 ≤ o ∧ o < 0x180 ∧ o % 32 = 0 then
      let n := (o - 0x100) / 32
      putBits (s.rd a) 4 4 (b2n ((s.pulseGen n).ends.any fun t => decide (s.clock < t)))
    else s.rd a
  | 0x4004 => if o < 0x200 ∧ o % 64 = 4 then s.seqStat (Fin.ofNat 8 (o / 64))
    else if o < 0x200 ∧ o % 64 = 8 then (s.core (Fin.ofNat 8 (o / 64))).pc else s.rd a
  | 0x4005 => if a = CARD_PATHp_CAL 0 ∨ a = CARD_PATHp_CAL 1 then
      let age := match (s.rxPath (idx a (CARD_PATHp_CAL 0) 0x20)).calAt with
        | some t => min ((s.clock - t) / 1000000000) 65535
        | none => 65535
      putBits (s.rd a) 15 0 age
    else s.rd a
  | 0x4007 => if guardMirror a then (if a % 0x10000 = 0xC14 then 0 else s.rd (a - 0x10000)) else s.rd a
  | 0x4008 => if a = MAC_CHAIN then s.macChain else s.rd a
  | 0x4009 => if a = QFAB_FLIGHT then word (((List.range 64).filter fun i => s.qfab.lane.getLsbD i).length * 65536 + s.qfab.tx * 256 + s.qfab.ch)
    else if a = QFAB_HTX_CRED then word ((s.port 74).cred % 128)
    else if 0x104 ≤ o ∧ o < 0x5C4 ∧ o % 16 = 4 then s.portStat ((o - 0x104) / 16)
    else if 0x1000 ≤ o ∧ o < 0x1800 ∧ o % 8 = 4 then s.dqStat ((o - 0x1000) / 8)
    else s.rd a
  | 0x4010 => if a = HOST_UART_DATA then s.uartWord else s.rd a
  | 0x4011 => if a = LOG_EVR_CURSOR then
      let c := vget s.rep.cursor (agentIdx ag) (0, false)
      word (b2n c.2 * 2 ^ 31 + c.1)
    else s.rd a
  | _ => s.rd a

end Sys2Proof.Machine
end

