-- ==== Sys2Proof/Machine/Plank.lean ====
section
/-!
DEFINITION. Sys2Proof/Machine/Plank.lean: the Plank (16): staging (R377), the check (R378), BLK (R379) and the host's commands
(R381). What an apply does is in RegWrite.lean.
-/
namespace Sys2Proof.Machine

/-! ### Banks and entries -/

/-- An entry of a bank (R377). -/
structure PlankEnt where
  addr : Nat
  val : Word
  mask : Word
  src : Nat
  deriving DecidableEq, Repr

/-- STATE of a bank: 0 EMPTY, 1 STAGING, 2 CHECKED, 3 ARMED, 4 APPLIED, 5 ABORTED. -/
def State.bankState (s : State) (b : Nat) : Nat := s.fld (PLANK_BANKb_STAT b) 31 29

/-- COUNT of a bank. -/
def State.bankCount (s : State) (b : Nat) : Nat := s.fld (PLANK_BANKb_STAT b) 26 16

/-- The entries of a bank in staged order. -/
def State.bankEntries (s : State) (b : Nat) : List PlankEnt :=
  (List.range (s.bankCount b)).map fun i =>
    ⟨(s.rd (PLANK_Eb_i_ADDR b i)).toNat, s.rd (PLANK_Eb_i_VAL b i), s.rd (PLANK_Eb_i_MASK b i), s.fld (PLANK_Eb_i_SRC b i) 3 0⟩

/-- A bank made EMPTY and disarmed (R377). -/
def State.emptyBank (s : State) (b : Nat) : State :=
  let e := PLANK_Eb_i_ADDR b 0
  let s := { s with regs := tabDrop (fun a => decide (e ≤ a ∧ a < e + 0x4000)) s.regs }
  let s := { s with plank := { s.plank with late := vset s.plank.late b false } }
  (s.setFld (PLANK_BANKb_STAT b) 31 29 0).setFld (PLANK_BANKb_STAT b) 26 16 0

/-- The status and detail that staging an entry has (R377). -/
def State.stageStatus (s : State) (b a : Nat) (mask : Word) : Nat × Nat :=
  if a % 4 ≠ 0 ∨ a < 0x40000000 ∨ 0x4017FFFC < a ∨ mask = 0 then (stRANGE, 0)
  else if s.bankState b = 3 then (stFULL, 2)
  else if s.bankState b < 4 ∧ 1024 ≤ s.bankCount b then (stFULL, 1)
  else (stOK, 0)

/-- An entry appended, where its status is OK (R377). -/
def State.stage (s : State) (b : Nat) (e : PlankEnt) : State :=
  if s.stageStatus b e.addr e.mask ≠ (stOK, 0) then s else
  let s := if 4 ≤ s.bankState b then s.emptyBank b else s
  let i := s.bankCount b
  let s := (s.wr (PLANK_Eb_i_ADDR b i) (word e.addr)).wr (PLANK_Eb_i_VAL b i) e.val
  let s := (s.wr (PLANK_Eb_i_MASK b i) e.mask).wr (PLANK_Eb_i_SRC b i) (word e.src)
  (s.setFld (PLANK_BANKb_STAT b) 31 29 1).setFld (PLANK_BANKb_STAT b) 26 16 (i + 1)

/-! ### The check (Table 16-8) -/

/-- The value an entry would leave in its register. -/
def State.entryValue (s : State) (e : PlankEnt) : Word :=
  written e.addr ((s.rd e.addr &&& ~~~e.mask) ||| (e.val &&& e.mask))

/-- The registers as they would stand after these entries, applied in their order. -/
def State.afterEntries (s : State) (es : List PlankEnt) : State := es.foldl (fun s e => s.wr e.addr (s.entryValue e)) s

/-- Is a register of a snapshot group (access code RS)? -/
def isSnapshot (a : Nat) : Bool :=
  a == TIME_SEC_LO || a == TIME_SEC_HI || a == TIME_FRAC || a == TIME_MAINS_CYC || a == TIME_MAINS_ANG

/-- Does the mask cover a reserved bit or an RO field (rule 5)? -/
def maskBad (a : Nat) (mask : Word) : Bool :=
  match regAt a with
  | none => true
  | some r => !isSnapshot a && mask &&& ~~~(word (r.rw ||| r.w1c ||| r.rc ||| woMask a)) != 0

/-- Does the mask cover a field that ignores every write, RC or RS (rule 6)? -/
def maskIgnored (a : Nat) (mask : Word) : Bool :=
  match regAt a with
  | none => true
  | some r => isSnapshot a || mask &&& word r.rc != 0

/-- Does R133 refuse the frequency of a chain's calibration entry? -/
def State.frqBarred (s : State) (x k : Nat) : Bool :=
  match s.bandOf x (s.fld (txFrq x k) 27 0) with
  | .inl _ => false
  | .inr _ => true

/-- Would a slot entry transmit (Table 06-6): BEACON, POLL and WAKE whose fields are allowed? -/
def slotSends (v : Word) : Bool :=
  let span := bits v 27 25 + 1
  match bits v 31 29 with
  | 1 => decide (2 ≤ span)
  | 2 => true
  | 4 => decide (3 ≤ span) && bits v 15 0 != 0
  | _ => false

/-- The path of a slot entry's register, and its bank. -/
def slotPath (a : Nat) : Nat := (a - 0x40084000) / 0x1000 % 2
def slotBank (a : Nat) : Nat := (a - 0x40084000) / 0x2000
/-- Is a register a MAC slot entry? -/
def isSlot (a : Nat) : Bool := decide (0x40084000 ≤ a ∧ a < 0x40088000)
/-- Is a register CARD_CHCFGc? -/
def isChcfg (a : Nat) : Bool := decide (0x40051000 ≤ a ∧ a < 0x40051400)

/-- The air rate of an egress, bytes per second (R378). -/
def State.airRate (s : State) (e : Nat) : Nat :=
  match e with
  | 2 => 31250
  | 3 => 1000
  | _ => s.regs.foldl (fun m (r : Nat × Word) =>
      if isChcfg r.1 && (r.1 - 0x40051000) / 4 / 128 == e && bitAt r.2 31 then
        max m (if bitAt r.2 27 then 25000 else if bitAt r.2 26 then 18750 else if bitAt r.2 25 then 12500
          else if bitAt r.2 24 then 6250 else 0)
      else m) 0

/-- The shaper of an egress, and of each flow, with the egress that uses it. -/
def State.shaperUses (s : State) : List (Nat × Nat) :=
  ((List.range 4).filterMap fun e => if s.bit (SCHED_EGe_CFG e) 30 then some (s.fld (SCHED_EGe_CFG e) 23 16, e) else none)
  ++ s.regs.filterMap fun (r : Nat × Word) =>
    let f := (r.1 - 0x400B8000) / 8
    if decide (0x400B8000 ≤ r.1 ∧ r.1 < 0x400C0000) && r.1 % 8 == 0 && bitAt r.2 8 && s.fld (SCHED_FLOWf_STAT f) 31 30 != 0 then
      some (bits r.2 7 0, s.fld (SCHED_FLOWf_STAT f) 29 28) else none

/-- Does an enabled shaper exceed the air rate of an egress that it is used for? -/
def State.shaperOver (s : State) (u : Nat × Nat) : Bool :=
  s.bit (SCHED_SHPs_CFG u.1) 31 && decide (s.airRate u.2 < s.fld (SCHED_SHPs_CFG u.1) 23 0)

/-- Does an entry take part in an excess (rule 11): it writes the shaper, the egress, a flow or a channel of it? -/
def State.shaperEntry (s : State) (a : Nat) : Bool :=
  let uses := s.shaperUses.filter s.shaperOver
  if 0x400B1000 ≤ a ∧ a < 0x400B2000 ∧ a % 16 = 0 then uses.any fun u => u.1 == (a - 0x400B1000) / 16
  else if 0x400B0020 ≤ a ∧ a < 0x400B0060 ∧ a % 16 = 0 then
    uses.any fun u => u.2 == (a - 0x400B0020) / 16 && u.1 == s.fld a 23 16 && s.bit a 30
  else if 0x400B8000 ≤ a ∧ a < 0x400C0000 ∧ a % 8 = 0 then
    s.bit a 8 && uses.any fun u => u.1 == s.fld a 7 0 && u.2 == s.fld (a + 4) 29 28
  else isChcfg a && uses.any fun u => u.2 == (a - 0x40051000) / 4 / 128

/-- Is a power field outside −40.00 to +36.00 dBm (rule 12)? -/
def powerBad (a : Nat) (v : Word) : Bool :=
  let out (n : Nat) : Bool := let p := (BitVec.ofNat 12 n).toInt; decide (p < -160 ∨ 144 < p)
  if a = MAC_WAKEPWR then out (bits v 11 0) else if a = FLEET_ISM then out (bits v 27 16)
  else if a = FLEET_SUBCH then out (bits v 21 10) else false

/-- Is a register one of rule 15's: retirement, successors, bank reservations, RUN, mailboxes? -/
def seqBarred (a : Nat) (mask : Word) : Bool :=
  a == SEQ_RETIRE || a == SEQ_SUCC || a == SEQ_BANKRES || (decide (0x40040000 ≤ a ∧ a < 0x40040200) && a % 64 == 0 && bitAt mask 0)
    || decide (0x40041000 ≤ a ∧ a < 0x40041800)

/-- Would no receive path be in RUN (rule 18): none has REQ = RUN? -/
def State.noPath (s : State) : Bool := s.fld (CARD_PATHp_CTL 0) 17 16 != 1 && s.fld (CARD_PATHp_CTL 1) 17 16 != 1

/-- Would fewer than eight lanes remain not mapped out (rule 19)? -/
def State.fewLanes (s : State) : Bool := decide (((List.range 64).filter fun n => !s.laneMapped n).length < 8)

/-- Would a segment that holds a reservation lose VALID or gain CLOSED (rule 20)? `t`: the registers after the apply. -/
def State.segHurt (s t : State) (a : Nat) : Bool :=
  decide (0x400E1000 ≤ a ∧ a < 0x400E5000) && s.fleet.held.any (fun (e : Nat × Resv) => e.2.seg == (a - 0x400E1000) / 4)
    && ((s.bit a 31 && !t.bit a 31) || (!s.bit a 30 && t.bit a 30))

/-- Is the slot entry of the bank in use (rule 21)? -/
def State.slotOfBank (s : State) (a : Nat) : Bool := isSlot a && slotBank a == s.fld MAC_CHAINCTL 8 8

/-- The rules of Table 16-8 that an entry decides. `t`: the registers as they would stand after the whole bank; `pre`: as they
would stand after the entries up to this one; `earlier`: those before it. -/
def State.entryFails (s t pre : State) (earlier : List PlankEnt) (e : PlankEnt) (rule : Nat) : Bool :=
  let a := e.addr
  let blk := a / 0x10000
  let v := t.rd a
  match rule with
  | 1 => (regAt a).isNone
  | 2 => !s.isOn (regDom a)
  | 3 => blk == 0x4000 || blk == 0x4001 || blk == 0x4002 || blk == 0x4016 || decide (0x400E0800 ≤ a ∧ a < 0x400E0820)
  | 4 => blk == 0x400C
  | 5 => maskBad a e.mask
  | 6 => maskIgnored a e.mask || (!isGuard a && s.refuses a v)
  | 7 => isGuard a
  | 8 => match frqOf a with
    | some (x, k) => t.frqBarred x k
    | none => false
  | 9 => isSlot a && slotSends v && (let k := t.txBase (slotPath a) + bits v 24 18
      decide (k ≤ 1023) && t.frqBarred (slotPath a) k)
  | 10 => isChcfg a && ((bitAt v 29 && (a / 4) % 2 == 1)
      || bits v 27 24 &&& widthRates (bitAt v 29) != bits v 27 24)
  | 11 => t.shaperEntry a
  | 12 => powerBad a v
  | 13 => isCommand a && earlier.any fun x => x.addr == a
  | 14 => (a == MAC_TXENT0 || a == MAC_TXENT1) && decide (896 < bits v 9 0)
  | 15 => seqBarred a e.mask
  | 16 => a == TIME_CTL || (decide (0x40030040 ≤ a ∧ a < 0x400300C0) && (a % 32 == 0 || a % 32 == 4))
  | 17 => earlier.any fun x => x.addr == a && x.mask &&& e.mask != 0
  | 18 => (a == CARD_PATHp_CTL 0 || a == CARD_PATHp_CTL 1) && pre.noPath && t.noPath
  | 19 => (a == CARD_LANE_MAP_LO || a == CARD_LANE_MAP_HI) && pre.fewLanes
  | 20 => s.segHurt t a
  | 21 => s.slotOfBank a
  | 22 => decide (0x40090100 ≤ a ∧ a ≤ 0x40090500) && a % 16 == 0 && !bitAt v 31
  | 23 => a == FWD_DBASE || a == MAC_NTBASE || a == MAC_LLBASE || a == GNSS_MRBASE || a == GNSS_NRBASE || a == UPD_NIBASE
  | 24 => blk == 0x4011 || blk == 0x4012 || blk == 0x4013 || blk == 0x4014 || blk == 0x4015
  | _ => false

/-- The first entry of a bank that fails a rule. `done`: the entries before, last first. -/
def State.firstFailing (s t : State) (rule : Nat) : State → List PlankEnt → List PlankEnt → Nat → Option Nat
  | _, _, [], _ => none
  | pre, done, e :: es, i =>
    let pre := pre.wr e.addr (pre.entryValue e)
    if s.entryFails t pre done e rule then some i else s.firstFailing t rule pre (e :: done) es (i + 1)

/-- The lowest of these rules that a bank fails, with its first failing entry (R378). -/
def State.bankFault (s : State) (b : Nat) (rules : List Nat) : Option (Nat × Nat) :=
  let es := s.bankEntries b
  let t := s.afterEntries es
  rules.findSome? fun r => (s.firstFailing t r s [] es 0).map fun i => (r, i)

/-- The rules that the apply edge evaluates again (R380), and those of CHK. -/
def applyRules : List Nat := [2, 20, 21]
def chkRules : List Nat := (List.range 24).map (· + 1)

/-- The status and detail of a check. -/
def State.checkStatus (s : State) (b : Nat) : Nat × Nat :=
  match s.bankFault b chkRules with
  | none => (stOK, 0)
  | some (r, _) => (stRULE, r)

/-- A check (R378): CHECKED, or STAGING with the rule and the entry. -/
def State.check (s : State) (b : Nat) : State :=
  match s.bankFault b chkRules with
  | none => ((s.setFld (PLANK_BANKb_STAT b) 31 29 2).setFld (PLANK_BANKb_STAT b) 15 11 0).setFld (PLANK_BANKb_STAT b) 9 0 0
  | some (r, i) =>
    let s := ((s.setFld (PLANK_BANKb_STAT b) 31 29 1).setFld (PLANK_BANKb_STAT b) 15 11 r).setFld (PLANK_BANKb_STAT b) 9 0 i
    (s.setBit PLANK_STAT 1 true).bump PLANK_CNT 15 8

/-! ### BLK (R379) -/

/-- The end of the preparation of an apply, ns after its BLK: 2 µs + 40 ns an entry. -/
def State.prepNs (s : State) (b : Nat) : Nat := 2000 + 40 * s.bankCount b

/-- A bank ARMED for a time, or a cycle and angle. -/
def State.armBank (s : State) (b kind : Nat) (t0 t1 : Word) (late host : Bool) : State :=
  let s := (s.setFld (PLANK_BANKb_STAT b) 31 29 3).setFld (PLANK_BANKb_STAT b) 28 27 kind
  let s := (s.wr (PLANK_BANKb_TSEC b) t0).wr (PLANK_BANKb_TGRN b) t1
  { s with plank := { s.plank with late := vset s.plank.late b late, host := vset s.plank.host b host } }

/-- The mains position `ns` from now, 2⁻¹⁶ cycle after now, rounded up: PER is the mean interval in TIME ticks of 4 ns. -/
def State.mainsAhead (s : State) (ns : Nat) : Nat :=
  let per := s.fld TIME_MAINS_PER 31 0
  if per = 0 then 0 else (ns * 65536 + 4 * per - 1) / (4 * per)

/-- BLK of a bank (R379): the status and detail it completes with, `none` while an immediate one is prepared. -/
def State.blk (s : State) (b kind : Nat) (t0 t1 : Word) (host : Bool) : State × Option (Nat × Nat) :=
  if s.bankState b = 3 then (s, some (stNOTREADY, 2))
  else if s.bankState b ≠ 2 then (s, some (stNOTREADY, 1))
  else match kind with
  | 0 => ({ s with plank := { s.plank with imm := vset s.plank.imm b true, host := vset s.plank.host b host } }, none)
  | 1 =>
    let t := tval t0 t1
    let now := s.trdNow % 2 ^ 64
    if 0 < tdiff now t then (s, some (stLATE, 0))
    else (s.armBank b 1 t0 t1 (decide (tdiff t (after now (s.prepNs b)) < 0)) host, some (stARMED, 0))
  | _ =>
    let ang := bits t1 15 0
    let fw := s.bit TIME_MAINS_CTL 2
    if (!s.mainsLost || fw) && s.mainsPast t0 ang then (s, some (stLATE, 0))
    else
      let left : Int := ((t0 - s.mainsCyc).toInt * 65536 + ang) - s.mainsAng
      (s.armBank b 2 t0 (word ang) (decide (left < s.mainsAhead (s.prepNs b))) host, some (stARMED, 0))

/-! ### Device instructions -/

/-- STG (R377, R43): func14[0] the bank, func14[13:1] reserved; the mask is STGMASK. In REPLAY it is checked and recorded, not
staged. -/
def execStg (c : Fin 8) (gd ga gb : Fin 16) (func : BitVec 14) (s : State) : Host.Outcome State Fault Refusal :=
  .next (s.issue c fun s => s.legal c (func.toNat / 2 != 0) fun s => s.serve c gd [14] fun s =>
    let b := func.toNat
    let e : PlankEnt := ⟨(s.gpr c ga).toNat, s.gpr c gb, (s.core c).stgmask, c.val⟩
    let r := s.stageStatus b e.addr e.mask
    let s := if s.mode == 9 then s.replayOutput else s.stage b e
    s.complete c gd r.1 r.2)

/-- CHK (R378, R43): sub20[0] the bank, sub20[19:1] reserved. In REPLAY it is checked and recorded only. -/
def execChk (c : Fin 8) (gd : Fin 16) (sub : BitVec 20) (rsv : BitVec 2) (s : State) : Host.Outcome State Fault Refusal :=
  .next (s.issue c fun s => s.legal c (sub.toNat / 2 != 0 || rsv != 0) fun s => s.serve c gd [14] fun s =>
    let b := sub.toNat
    let r := s.checkStatus b
    let s := if s.mode == 9 then s.replayOutput else s.check b
    s.complete c gd r.1 r.2)

/-- BLK by a core (R379, R43): INHIBIT in REPLAY. -/
def State.blkInsn (s : State) (c : Fin 8) (gd ga gb : Fin 16) (b kind : Nat) : State :=
  if s.mode == 9 then s.replayOutput.complete c gd stINHIBIT else
  s.serve c gd [14] fun s =>
    match s.blk b kind (s.gpr c ga) (s.gpr c gb) false with
    | (s, some (st, d)) => s.complete c gd st d
    | (s, none) => s.waitOn c (.blk gd b)

/-- BLK (R379): func14[0] the bank, func14[2:1] the kind, 3 and func14[13:3] reserved. -/
def execBlk (c : Fin 8) (gd ga gb : Fin 16) (func : BitVec 14) (s : State) : Host.Outcome State Fault Refusal :=
  .next (s.issue c fun s => s.legal c (func.toNat / 8 != 0 || func.toNat / 2 == 3) fun s =>
    s.blkInsn c gd ga gb (func.toNat % 2) (func.toNat / 2))

/-- BLK of kind 1 (R379): applies at the network time ga:gb. func14[13:3] is reserved. -/
def execBlkNetworkTime (c : Fin 8) (gd ga gb : Fin 16) (b : Fin 2) (rsv : BitVec 11) (s : State) :
    Host.Outcome State Fault Refusal :=
  .next (s.issue c fun s => s.legal c (rsv != 0) fun s => s.blkInsn c gd ga gb b 1)

/-- BLK of kind 2 (R379): applies at the mains cycle ga and angle gb[15:0]. func14[13:3] is reserved. -/
def execBlkMains (c : Fin 8) (gd ga gb : Fin 16) (b : Fin 2) (rsv : BitVec 11) (s : State) :
    Host.Outcome State Fault Refusal :=
  .next (s.issue c fun s => s.legal c (rsv != 0) fun s => s.blkInsn c gd ga gb b 2)

/-! ### The host's commands (R381) -/

/-- PLANK_HSTAT after a command. -/
def State.hstat (s : State) (st d : Nat) : State := s.wr PLANK_HSTAT (word (d * 256 + st))

/-- PLANK_HCMD STG of PLANK_HADDR, PLANK_HVAL and PLANK_HMASK to bank `b`, SRC 0xF. -/
def State.hostStage (s : State) (b : Nat) : State :=
  let e : PlankEnt := ⟨(s.rd PLANK_HADDR).toNat, s.rd PLANK_HVAL, s.rd PLANK_HMASK, 15⟩
  let r := s.stageStatus b e.addr e.mask
  (if s.mode == 9 then s.replayOutput else s.stage b e).hstat r.1 r.2

/-- PLANK_HCMD CHK of bank `b`. -/
def State.hostCheck (s : State) (b : Nat) : State :=
  let r := s.checkStatus b
  (if s.mode == 9 then s.replayOutput else s.check b).hstat r.1 r.2

/-- PLANK_HCMD BLK of bank `b` with the time of PLANK_HT0 and PLANK_HT1; kind 3 is outside R381. An immediate one leaves BUSY
set until its apply. -/
def State.hostBlk (s : State) (b kind : Nat) : State :=
  if kind = 3 then s.hstat stRANGE 0
  else if s.mode == 9 then s.replayOutput.hstat stINHIBIT 0 else
  match s.blk b kind (s.rd PLANK_HT0) (s.rd PLANK_HT1) true with
  | (s, some (st, d)) => s.hstat st d
  | (s, none) => s.wr PLANK_HSTAT 0x80000000

/-- A write of PLANK_HCMD (Table 16-13): 1 STG, 2 CHK, 3 BLK, others RANGE. -/
def State.hcmd (s : State) (v : Word) : State :=
  let b := bits v 8 8
  match bits v 31 28 with
  | 1 => s.hostStage b
  | 2 => s.hostCheck b
  | 3 => s.hostBlk b (bits v 5 4)
  | _ => s.hstat stRANGE 0

/-- HOST_STG (R381): the host writes PLANK_HCMD with STG. -/
def execHostStg (b : Fin 2) (s : State) : Host.Outcome State Fault Refusal :=
  .next (if s.isOn 14 then s.hostStage b else s)

/-- HOST_CHK (R381): the host writes PLANK_HCMD with CHK. -/
def execHostChk (b : Fin 2) (s : State) : Host.Outcome State Fault Refusal :=
  .next (if s.isOn 14 then s.hostCheck b else s)

/-- HOST_BLK (R381): the host writes PLANK_HCMD with BLK and a kind. -/
def execHostBlk (b : Fin 2) (kind : Fin 4) (s : State) : Host.Outcome State Fault Refusal :=
  .next (if s.isOn 14 then s.hostBlk b kind else s)

/-- PLANK_BANKb_CTL.DISARM (Table 16-13): ARMED to CHECKED. -/
def State.disarmBank (s : State) (b : Nat) : State :=
  if s.bankState b = 3 then s.setFld (PLANK_BANKb_STAT b) 31 29 2 else s

/-- A write of PLANK_BANKb_CTL. -/
def State.bankCtl (s : State) (b : Nat) (v : Word) : State :=
  let s := if bitAt v 1 then s.disarmBank b else s
  if bitAt v 0 then s.emptyBank b else s

/-- BANK_CLEAR (R377): PLANK_BANKb_CTL.CLEAR. -/
def execBankClear (b : Fin 2) (s : State) : Host.Outcome State Fault Refusal :=
  .next (if s.isOn 14 then s.emptyBank b else s)

/-- BANK_DISARM (R386): PLANK_BANKb_CTL.DISARM. -/
def execBankDisarm (b : Fin 2) (s : State) : Host.Outcome State Fault Refusal :=
  .next (if s.isOn 14 then s.disarmBank b else s)

end Sys2Proof.Machine
end

