-- ==== Sys2Proof/Machine/RegWrite.lean ====
section
/-!
DEFINITION. Sys2Proof/Machine/RegWrite.lean: a write and a read of a register by an agent (R5, R446–R448): the access codes,
and the registers whose write or read does more. What each of those does is in its own chapter's file; here it is chosen by
the address.
-/
namespace Sys2Proof.Machine

/-! ### Writes -/

/-- The word that a write of `v` under `mask` presents to a register: bits outside the mask keep what the register holds. -/
def State.merged (s : State) (a : Nat) (v mask : Word) : Word := (s.rd a &&& ~~~mask) ||| (v &&& mask)

/-- A write by the access codes of R5 alone: RW bits take the word, W1C bits written 1 clear, others ignore it. -/
def State.writeCodes (s : State) (a : Nat) (v mask : Word) : State :=
  match regAt a with
  | none => s
  | some r =>
    let old := s.rd a
    let w := written a (s.merged a v mask)
    s.wr a ((old &&& ~~~(word (r.rw ||| r.w1c))) ||| (w &&& word r.rw) ||| (old &&& word r.w1c &&& ~~~(v &&& mask)))

/-- A write of TIME_SRCk_ACC (R60): INVALID loses the source; cleared, a source whose last commit is in time is valid again. -/
def State.writeSrcAcc (s : State) (k : Nat) (v mask : Word) : State :=
  let s := s.writeCodes (TIME_SRCk_ACC k) v mask
  let x := s.src k
  if s.bit (TIME_SRCk_ACC k) 31 then (if x.valid then s.loseSrc k else s)
  else if !x.valid && x.committed && decide (x.ageNs ≤ s.fld (TIME_SRCk_TMO k) 15 0 * 1000000) then
    (s.modTime fun t => { t with src := vmod t.src k fun x => { x with valid := true, validNs := 0 } }).reselect
  else s

/-- A write of a register of pulse generator n (R69, R70): it takes the generator from a core, and one of its grid starts it anew. -/
def State.writePulse (s : State) (n a : Nat) (v mask : Word) : State :=
  let was := s.fld (TIME_PULSEn_CTL n) 1 0
  let s := (s.takePulse n).writeCodes a v mask
  let o := a % 32
  if o = 0 then (if s.fld (TIME_PULSEn_CTL n) 1 0 ≠ was then s.startPulse n else s)
  else if o ≤ 0x10 then s.startPulse n
  else if o = 0x14 then s.clipWidth n
  else s

/-- A write of a TIME register. -/
def State.writeTime (s : State) (ag : Agent) (a : Nat) (v mask : Word) : State :=
  let o := a % 0x10000
  if a = TIME_TADJ then s.writeTadj (s.merged a v mask)
  else if a = TIME_SRCSEL then (s.writeCodes a v mask).reselect
  else if a = TIME_MAINS_CTL then
    let s := s.writeCodes a v mask
    if s.bit a 0 then s else s.loseMains
  else if 0x40 ≤ o ∧ o < 0xC0 then
    let k := (o - 0x40) / 32
    match (o - 0x40) % 32 with
    | 4 =>
      let n := s.merged a v mask
      match ag with
      | .core _ => if s.mode == 9 then s.replayOutput else s.commitSrc k n
      | _ => s.commitSrc k n
    | 8 => s.writeSrcAcc k v mask
    | _ => s.writeCodes a v mask
  else if 0x100 ≤ o ∧ o < 0x180 then s.writePulse ((o - 0x100) / 32) a v mask
  else s.writeCodes a v mask

/-- A write of an RTC register (R340–R343); that of a core in a replay is recorded and not applied (R345). -/
def State.writeRtc (s : State) (ag : Agent) (a : Nat) (v mask : Word) : State :=
  let w := s.merged a v mask
  let replayedCore : Bool := match ag with
    | .core c => s.mode == 9 && s.inSet c
    | _ => false
  let rw := word ((regAt a).elim 0 fun r => r.rw)
  if replayedCore then s.replayOutput
  else if a = RTC_COMMIT then s.writeCommit w
  else if a = RTC_SETSEC_LO ∨ a = RTC_SETSEC_HI ∨ a = RTC_SETFRAC ∨ a = RTC_SETWDAY then s.writeStaged a rw w
  else if a = RTC_SHIFT then s.writeShift (w.setWidth 17)
  else if a = RTC_DAYBASE then s.writeDaybase w
  else if a = RTC_TRIM then s.writeTrim w
  else if 0x40020040 ≤ a ∧ a < 0x40020060 then s.writeAlarm ((a - 0x40020040) / 16) a rw w
  else s.writeCodes a v mask

/-- A write of a SEQ register. -/
def State.writeSeq (s : State) (a : Nat) (v mask : Word) : State :=
  let o := a % 0x10000
  let w := s.merged a v mask
  if o < 0x200 ∧ o % 64 = 0 then s.writeSeqCtl (Fin.ofNat 8 (o / 64)) w
  else if a = SEQ_RETIRE then s.writeRetire w
  else if 0x1000 ≤ o ∧ o < 0x1800 ∧ o % 256 = 0x40 then
    let n := Fin.ofNat 8 ((o - 0x1000) / 256)
    let s := if bitAt w 0 then s.inRing n else s
    if bitAt w 8 then s.outRing n else s
  else s.writeCodes a v mask

/-- A write of a CARD register. -/
def State.writeCard (s : State) (a : Nat) (v mask : Word) : State :=
  let w := s.merged a v mask
  if a = CARD_PATHp_CTL 0 ∨ a = CARD_PATHp_CTL 1 then
    let p := (a - CARD_PATHp_CTL 0) / 32
    let req := bits w 17 16
    let s := (s.writeCodes a v (mask &&& ~~~(0x30000 : Word))).manualGain p
    if bits mask 17 16 ≠ 0 then s.pathRequest p req else s
  else if a = CARD_PATHp_FC 0 ∨ a = CARD_PATHp_FC 1 then s.retune ((a - CARD_PATHp_FC 0) / 32) (bits w 16 0)
  else if isChcfg a then s.writeChcfg ((a - 0x40051000) / 4) w
  else if a = CARD_LANE_MAP_LO then s.writeLaneMap false w 0
  else if a = CARD_LANE_MAP_HI then s.writeLaneMap true w 0
  else s.writeCodes a v mask

/-- A write of a SUBTX or ISM register: frequencies, calibration requests, the guard, the ISM receiver. -/
def State.writeTxReg (s : State) (a : Nat) (v mask : Word) : State :=
  let w := s.merged a v mask
  match frqOf a with
  | some (x, k) => s.writeFrq x k (bits w 27 0)
  | none =>
    if a = SUBTX_SYNx_CALREQ 0 then s.calreq 0 w
    else if a = SUBTX_SYNx_CALREQ 1 then s.calreq 1 w
    else if a = ISM_SYN_CALREQ then s.calreq 2 w
    else if a = SUBTX_GRDLOCK then s.guardLock w
    else if guardMirror a then s
    else if isGuard a then (if s.guardWritable then s.writeCodes a v mask else s)
    else if a = ISM_RX_CTL then
      (if bits w 4 0 < 11 ∨ 26 < bits w 4 0 then (s.writeCodes a v (mask &&& ~~~(0x1F : Word))).setBit ISM_STAT 10 true
       else s.writeCodes a v mask)
    else s.writeCodes a v mask

/-- A write of a QFAB register. -/
def State.writeQfab (s : State) (a : Nat) (v mask : Word) : State :=
  let o := a % 0x10000
  let w := s.merged a v mask
  if 0x100 ≤ o ∧ o < 0x5C0 ∧ o % 16 = 0 then s.writePortCfg ((o - 0x100) / 16) w
  else if 0x1000 ≤ o ∧ o < 0x1800 ∧ o % 8 = 0 then s.writeDqLim ((o - 0x1000) / 8) w
  else if a = QFAB_HTX_TAG then s.htxPush w
  else if a = QFAB_HDQPUSH then s.hdqPush w
  else s.writeCodes a v mask

/-- A write of a FWD register. -/
def State.writeFwd (s : State) (a : Nat) (v mask : Word) : State :=
  let w := s.merged a v mask
  if a = FWD_PFXCMD then s.writePfxcmd w
  else if a = FWD_EMCMD then s.writeEmcmd w
  else if a = FWD_BRCMD then s.writeBrcmd w
  else if a = FWD_DBASE then s.regionInit w
  else s.writeCodes a v mask

/-- A write of a SCHED register. A shaper's CFG or BURST sets PEND (R230). -/
def State.writeSched (s : State) (a : Nat) (v mask : Word) : State :=
  let o := a % 0x10000
  let w := s.merged a v mask
  if a = SCHED_CTL then s.writeSchedCtl w
  else if a = SCHED_FLOWCMD then s.writeFlowcmd w
  else if a = SCHED_POLCMD then s.policerRead (bits w 9 0) (bitAt w 31)
  else if 0x1000 ≤ o ∧ o < 0x2000 ∧ o % 16 ≤ 4 then
    (s.writeCodes a v mask).setBit (SCHED_SHPs_BURST ((o - 0x1000) / 16)) 31 true
  else if 0x4000 ≤ o ∧ o < 0x8000 ∧ o % 16 = 0 then s.writePolCfg ((o - 0x4000) / 16) (w &&& 0xF00F3F3F)
  else s.writeCodes a v mask

/-- A write of a GNSS register. What the base image found, for the record of SPOOF, a plain write does not carry: free values. -/
def State.writeGnss (s : State) (ag : Agent) (a : Nat) (v mask : Word) : State :=
  let o := a % 0x10000
  let w := s.merged a v mask
  if a = GNSS_ANT then s.writeAnt w
  else if a = GNSS_INTEG then
    let m := s.fresh
    let n := m.2.fresh
    let c := n.2.fresh
    c.2.writeInteg ag w m.1 n.1 c.1
  else if a = GNSS_REFSTAT then s.writeRefstat w
  else if 0x400D0050 ≤ a ∧ a < GNSS_REFSTAT then (if s.refOpen then s.writeCodes a v mask else s)
  else if 0x1000 ≤ o ∧ o < 0x1480 ∧ o % 16 = 0 then s.writeChCfg ((o - 0x1000) / 16) (v &&& mask)
  else if 0x1000 ≤ o ∧ o < 0x1480 ∧ o % 16 = 8 then s.writeTxt ((o - 0x1000) / 16) w
  else s.writeCodes a v mask

/-- A write of a FLEET register; the stop registers lie in AON. -/
def State.writeFleet (s : State) (a : Nat) (v mask : Word) : State :=
  let o := a % 0x10000
  let w := s.merged a v mask
  if a = FLEET_CTL then s.writeFleetCtl w
  else if 0x100 ≤ o ∧ o < 0x500 ∧ o % 16 = 0 then s.writeSlotStat ((o - 0x100) / 16) w
  else if a = FLEET_RESCMD then s.writeRescmd w
  else if a = FLEET_TASKCMD then s.writeTaskcmd w
  else if a = FLEET_STOP_SW then s.stopSw w
  else s.writeCodes a v mask

/-- A write of a NET, HOST or GPIO register. -/
def State.writeIf (s : State) (a : Nat) (v mask : Word) : State :=
  let o := a % 0x10000
  let w := s.merged a v mask
  if a = NET_INSp_GO 0 ∨ a = NET_INSp_GO 1 then
    s.insertGo ((a - NET_INSp_GO 0) / 64) (bits w 0 0)
  else if a = NET_MDIO_CMD then s.mdioCmd w
  else if a = NET_MDIO_DATA then s.writeMdioData w
  else if a = HOST_UART_CTL then s.writeUartCtl w
  else if a = HOST_UART_DATA then s.uartPush (w.setWidth 8)
  else if a / 0x10000 = 0x4010 ∧ 0x100 ≤ o ∧ o < 0x200 ∧ o % 32 = 8 then s.writeRingCtl ((o - 0x100) / 32) w
  else if a / 0x10000 = 0x4010 ∧ 0x100 ≤ o ∧ o < 0x200 ∧ o % 32 = 16 then s.ringTail ((o - 0x100) / 32) w
  else if a = GPIO_CTL then (s.writeCodes a v mask).gpioRelease (v &&& mask)
  else s.writeCodes a v mask

/-- A write of a LOG, REPLAY, PLANK, UPD or FAULT register. -/
def State.writeLog (s : State) (ag : Agent) (a : Nat) (v mask : Word) : State :=
  let w := s.merged a v mask
  if a = LOG_EVR_CURSOR then
    { s with rep := { s.rep with cursor := vset s.rep.cursor (agentIdx ag) (bits (v &&& mask) 16 0, false) } }
  else if a = REPLAY_CMD then s.writeReplayCmd w
  else if a = PLANK_HCMD then s.hcmd w
  else if a = PLANK_BANKb_CTL 0 then s.bankCtl 0 w
  else if a = PLANK_BANKb_CTL 1 then s.bankCtl 1 w
  else if a = UPD_CMD then s.updCmd (bits w 31 28) (bits w 27 24) none
  else if a = FAULT_INJ then s.writeInject w
  else if a = FAULT_AVCLR then s.writeAvclr w
  else s.writeCodes a v mask

/-- A write of a DBG register (R349, R352, R355): those of the session answer the debug port alone. -/
def State.writeDbg (s : State) (ag : Agent) (a : Nat) (v mask : Word) : State :=
  let w := s.merged a v mask
  let port : Bool := ag == .debug
  if a = DBG_LCCMD then s.lcCommand (bits w 31 16) (bits w 3 0)
  else if a = DBG_OPEN then (if port then s.writeOpen w else s)
  else if a = DBG_HALT then (if port then s.writeHalt w else s)
  else if a = DBG_CLOSE then (if port && bitAt w 0 then s.closeSession 0 else s)
  else if 0x40160080 ≤ a then (if port then s.writeCodes a v mask else s)
  else if a = DBG_TAMPCFG then (if s.bit DBG_LC 9 then s else s.writeCodes a v mask)
  else s.writeCodes a v mask

/-- A write of PWR_BAKSET (R329): domains that together pass the budget are ignored, with BUDGET. -/
def State.writePwr (s : State) (a : Nat) (v mask : Word) : State :=
  if a = PWR_BAKSET ∧ 7500 < baksetLoad (s.merged a v mask) then s.setBit PWR_FLAGS 7 true else s.writeCodes a v mask

/-- A write of a register by an agent (R5): discarded while its domain is not ON, and at an address of no register (R448). -/
def State.writeReg (s : State) (ag : Agent) (a : Nat) (v mask : Word) : State :=
  if !s.isOn (regDom a) || (regAt a).isNone then s else
  match a / 0x10000 with
  | 0x4001 => s.writePwr a v mask
  | 0x4002 => s.writeRtc ag a v mask
  | 0x4003 => s.writeTime ag a v mask
  | 0x4004 => s.writeSeq a v mask
  | 0x4005 => s.writeCard a v mask
  | 0x4006 => s.writeTxReg a v mask
  | 0x4007 => s.writeTxReg a v mask
  | 0x4008 => if a = MAC_NODECMD then s.writeNodecmd (v &&& mask) else s.writeCodes a v mask
  | 0x4009 => s.writeQfab a v mask
  | 0x400A => s.writeFwd a v mask
  | 0x400B => s.writeSched a v mask
  | 0x400C =>
    let w := s.merged a v mask
    if a = KEYS_CMD then s.keysCmd ag (bits w 31 28) (bits w 27 24) (bits w 23 12) (bits w 11 0)
    else if a = KEYS_GCM_CTL then s.gcmCtl (w ||| (v &&& mask &&& 1))
    else s.writeCodes a v mask
  | 0x400D => s.writeGnss ag a v mask
  | 0x400E => s.writeFleet a v mask
  | 0x400F => s.writeIf a v mask
  | 0x4010 => s.writeIf a v mask
  | 0x4017 => s.writeIf a v mask
  | 0x4016 => s.writeDbg ag a v mask
  | 0x4000 => s.writeCodes a v mask
  | _ => s.writeLog ag a v mask

/-! ### Reads -/

/-- The place of a register in its snapshot group: the group (0 TIME, 1 mains, 2 RTC, 3 TSNAP) and the word. -/
def snapOf (a : Nat) : Option (Nat × Nat) :=
  if a = TIME_SEC_LO then some (0, 0) else if a = TIME_SEC_HI then some (0, 1) else if a = TIME_FRAC then some (0, 2)
  else if a = TIME_MAINS_CYC then some (1, 0) else if a = TIME_MAINS_ANG then some (1, 1)
  else if a = RTC_SEC_LO then some (2, 0) else if a = RTC_SEC_HI then some (2, 1) else if a = RTC_FRAC then some (2, 2)
  else if a = RTC_WDAY then some (2, 3)
  else if a = RTC_TSNAP_SEC then some (3, 0) else if a = RTC_TSNAP_GRN then some (3, 1)
  else if a = RTC_TSNAP_RSEC then some (3, 2) else if a = RTC_TSNAP_RFRAC then some (3, 3)
  else none

/-- A read of a word of a snapshot group. -/
def State.snapRead (s : State) (ag : Agent) (g i : Nat) : Word × State :=
  match g with
  | 0 => s.timeRead ag i
  | 1 => s.mainsRead ag i
  | 2 => s.rtcRead false ag i
  | _ => s.rtcRead true ag i

/-- A read that takes an entry from a queue, which leaves the word on `bus`: `none` at any other register. -/
def State.popRead (s : State) (a : Nat) (upset : Bool) : Option State :=
  if a = QFAB_HRX_STAT then some (s.hrxPop upset)
  else if a = QFAB_HDQPOP then some (s.hdqPop upset)
  else if a = FLEET_RESRES0 then some s.popResult
  else if a = MAC_LOSTQ then some s.lostqPop
  else if a = HOST_UART_DATA then some s.uartPop
  else none

/-- The RC fields of a register cleared after a read (R5). -/
def State.clearRead (s : State) (a : Nat) : State :=
  match regAt a with
  | none => s
  | some r => if r.rc = 0 then s else s.wr a ((s.rd a &&& ~~~(word r.rc)) ||| (regReset a &&& word r.rc))

/-- A read of a register by an agent (R5): zero at an address of no register, and while its domain is not ON (R448). `upset`:
the word popped fails its parity. The debug port changes nothing by a read, but for its own snapshots and cursor (R354), and
does not read KEYS_BUF. -/
def State.readReg (s : State) (ag : Agent) (a : Nat) (upset : Bool) : Word × State :=
  if !s.isOn (regDom a) || (regAt a).isNone then (0, s)
  else if ag == .debug && decide (KEYS_BUFk 0 ≤ a ∧ a < 0x400D0000) then (0, s)
  else match snapOf a with
  | some (g, i) => s.snapRead ag g i
  | none =>
    if LOG_EVR_WINw 0 ≤ a ∧ a ≤ LOG_EVR_WINw 7 then s.evrRead ag ((a - LOG_EVR_WINw 0) / 4)
    else match s.popRead a upset with
      | some t => (t.bus, if ag == .debug then s else { t with bus := s.bus })
      | none =>
        let b := if guardMirror a then a - 0x10000 else a
        (s.value ag a, if ag == .debug then s else s.clearRead b)

/-! ### Rows of their own -/

/-- REGISTER_WRITE (R5): an agent writes a register with a whole word. -/
def execRegisterWrite (ag : Agent) (a v : Word) (s : State) : Host.Outcome State Fault Refusal :=
  .next (s.writeReg ag a.toNat v 0xFFFFFFFF)

/-- EVR_WINDOW_READ (R401): an agent reads LOG_EVR_WIN7. -/
def execEvrWindowRead (ag : Agent) (s : State) : Host.Outcome State Fault Refusal :=
  .next (let r := s.readReg ag (LOG_EVR_WINw 7) false; { r.2 with bus := r.1 })

/-! ### The apply (R380) -/

/-- A completion given to the cores, or the host, that wait for an immediate BLK of a bank. -/
def State.endBlk (s : State) (b st d : Nat) : State :=
  if !vget s.plank.imm b false then s else
  let host := vget s.plank.host b false
  let s := { s with plank := { s.plank with imm := vset s.plank.imm b false, host := vset s.plank.host b false } }
  let s := (List.finRange 8).foldl (fun (s : State) (c : Fin 8) =>
    s.finish c (fun w => match w with
      | .blk _ k => k == b
      | _ => false) (completion st d)) s
  if host then s.hstat st d else s

/-- Has the time that an ARMED bank waits for come (R56, R81)? -/
def State.bankDue (s : State) (b : Nat) : Bool :=
  let t0 := s.rd (PLANK_BANKb_TSEC b)
  let t1 := s.rd (PLANK_BANKb_TGRN b)
  if s.fld (PLANK_BANKb_STAT b) 28 27 = 1 then s.time.running && decide (0 ≤ tdiff s.now (tval t0 t1))
  else (!s.mainsLost || s.bit TIME_MAINS_CTL 2) && s.mainsReached t0 (bits t1 15 0)

/-- A bank applied on this TIME edge, or ABORTED by rule 2, 20 or 21. -/
def State.applyBank (s : State) (b : Nat) : State :=
  let kind := if vget s.plank.imm b false then 0 else s.fld (PLANK_BANKb_STAT b) 28 27
  let s := s.setFld (PLANK_BANKb_STAT b) 28 27 kind
  match s.bankFault b applyRules with
  | some (r, i) =>
    let s := ((s.setFld (PLANK_BANKb_STAT b) 31 29 5).setFld (PLANK_BANKb_STAT b) 15 11 r).setFld (PLANK_BANKb_STAT b) 9 0 i
    let s := ((s.setBit PLANK_STAT 3 true).bump PLANK_CNT 23 16).raise 0xE4 0x02
    (s.record 0xE4 recPLANK_ABORT (word b) (word r) (word i)).endBlk b stNOTREADY (0x80 + r)
  | none =>
    let late := kind != 0 && (vget s.plank.late b false ||
      (kind == 1 && decide (17 < tdiff s.now (tval (s.rd (PLANK_BANKb_TSEC b)) (s.rd (PLANK_BANKb_TGRN b))))))
    let es := s.bankEntries b
    let s := (s.setFld (PLANK_BANKb_STAT b) 31 29 4).setBit (PLANK_BANKb_STAT b) 10 late
    let s := (s.wr (PLANK_BANKb_ASEC b) (word s.time.sec.toNat)).wr (PLANK_BANKb_AGRN b) s.time.grn
    let s := { s with plank := { s.plank with late := vset s.plank.late b false } }
    let s := es.foldl (fun (s : State) (e : PlankEnt) =>
      s.writeReg (if h : e.src < 8 then .core ⟨e.src, h⟩ else .host) e.addr e.val e.mask) s
    let s := (s.setBit PLANK_STAT 0 true).bump PLANK_CNT 31 24
    let s := if late then (s.setBit PLANK_STAT 2 true).bump PLANK_CNT 7 0 else s
    let s := s.raise 0xE4 0x01
    (s.record 0xE4 recPLANK_APPLY (word b) (word es.length) (word kind)).endBlk b stOK 0

/-- BANK_APPLY (R380, R384): a TIME edge of bank `b`: after the preparation of an immediate BLK, or at the time of an ARMED one.
An immediate BLK whose bank is no longer CHECKED completes NOTREADY. -/
def execBankApply (b : Fin 2) (s : State) : Host.Outcome State Fault Refusal :=
  .next (let st := s.bankState b
    let imm := vget s.plank.imm b false
    if !s.isOn 14 || !s.isOn 12 then s
    else if imm && (st == 2 || st == 3) then s.applyBank b
    else if imm then s.endBlk b stNOTREADY 1
    else if st == 3 && s.mode != 9 && s.mode != 11 && s.bankDue b then s.applyBank b
    else s)

end Sys2Proof.Machine
end

