-- ==== Sys2Proof/Machine/LoadStore.lean ====
section
/-!
DEFINITION. Sys2Proof/Machine/LoadStore.lean: loads and stores of the cores (R20–R23, R27, R446), and the accesses of the QSPI
target (R435, R444) and the debug port (R354, R359, R444).
-/
namespace Sys2Proof.Machine

/-! ### The address map of a core (Table 02-1) -/

/-- What lies at an address, as a core sees it. -/
inductive Area where
  | fetchOnly | rom | own | reg | shared | emram | dram | none
  deriving DecidableEq, Repr

/-- The area of an address (Table 02-1). -/
def areaOf (a : Nat) : Area :=
  if a < 0x10000 then .fetchOnly
  else if 0x01000000 ≤ a ∧ a < 0x01004000 then .rom
  else if 0x10000000 ≤ a ∧ a < 0x10010000 then .own
  else if 0x40000000 ≤ a ∧ a < 0x40180000 then .reg
  else if 0x50000000 ≤ a ∧ a < 0x50200000 then .shared
  else if 0x60000000 ≤ a ∧ a < 0x60800000 then .emram
  else if 0x80000000 ≤ a ∧ a < 0x8FFC0000 then .dram
  else .none

/-- The key area of the eMRAM read window, which reads zero to every agent (R445). -/
def keyArea (a : Nat) : Bool := decide (0x60400000 ≤ a ∧ a < 0x60500000)

/-- How an access of a core goes: it is performed, raises ACCESS, or waits until SEQA is ON (R20–R23, R446, R368). -/
inductive Reach where
  | ok | access | wait
  deriving DecidableEq, Repr

/-- The reach of a load or store of `n` bytes by core c. -/
def State.reach (s : State) (c : Fin 8) (a n : Nat) (store : Bool) : Reach :=
  match areaOf a with
  | .rom => if store then .access else .ok
  | .own => .ok
  | .reg => if n = 4 then .ok else .access
  | .shared =>
    if s.bankDenied c a then .access
    else if s.isOn 1 then .ok
    else if (s.dom 1).state = .off ∧ !(s.dom 1).busy then .access
    else .wait
  | .emram => if store then .access else .ok
  | .dram => if store && s.locked a then .access else .ok
  | _ => .access

/-! ### The write buffer (R27) -/

/-- A buffered store completes: in register space as a write of the core, in DRAM that is not ON not at all (the spec gives it no
effect there), elsewhere as bytes. -/
def State.perform (s : State) (c : Fin 8) (b : BufStore) : State :=
  match areaOf b.addr with
  | .reg => s.writeReg (.core c) b.addr b.val 0xFFFFFFFF
  | .dram => if s.isOn 9 then s.storeN b.addr b.val.toNat b.width else s
  | _ => s.storeN (corePhys c b.addr) b.val.toNat b.width

/-- The oldest store of a core's write buffer completes. -/
def State.drainOne (s : State) (c : Fin 8) : State :=
  match (s.core c).wbuf with
  | [] => s
  | b :: t => (s.modCore c fun k => { k with wbuf := t }).perform c b

/-- The write buffer of a core empties, in issue order. -/
def State.drain (s : State) (c : Fin 8) : State :=
  (s.core c).wbuf.foldl (fun (s : State) b => s.perform c b) (s.modCore c fun k => { k with wbuf := [] })

/-- A byte as a core's load sees it: the youngest buffered store of it, else memory. -/
def State.seenByte (s : State) (c : Fin 8) (a : Nat) : Byte :=
  (s.core c).wbuf.foldl (fun (v : Byte) b =>
    if b.addr ≤ a ∧ a < b.addr + b.width then BitVec.ofNat 8 (b.val.toNat / 256 ^ (a - b.addr)) else v)
    (if keyArea a then 0 else s.byte (corePhys c a))

/-- `n` bytes as a core's load sees them, little-endian. -/
def State.seen (s : State) (c : Fin 8) (a : Nat) : Nat → Nat
  | 0 => 0
  | n + 1 => (s.seenByte c a).toNat + 256 * s.seen c (a + 1) n

/-- The word buffered for a register, youngest first. -/
def State.bufferedReg (s : State) (c : Fin 8) (a : Nat) : Option Word :=
  ((s.core c).wbuf.reverse.find? fun b => b.addr == a).map (·.val)

/-! ### Loads -/

/-- Is a load one that the journal records, so that a replay answers it: register space, eMRAM, DRAM, unreserved shared scratch
(Table 17-6)? -/
def State.loadJournalled (s : State) (a : Nat) : Bool :=
  match areaOf a with
  | .reg => true
  | .emram => true
  | .dram => true
  | .shared => decide (s.fld SEQ_BANKRES (4 * sharedBank a + 3) (4 * sharedBank a) < 8)
  | _ => false

/-- What a load that is performed returns, and the state after it. In REPLAY the recorded value answers (R407). A load of DRAM
that is not ON returns a free value. -/
def State.loadValue (s : State) (c : Fin 8) (a n : Nat) (upset : Bool) : Nat × State :=
  match if s.loadJournalled a then s.recorded c 4 else none with
  | some e => (((e.data.drop 2).headD 0).toNat, s.takeInput c)
  | none =>
    match areaOf a with
    | .reg =>
      match s.bufferedReg c a with
      | some w => (w.toNat, s)
      | none => let r := s.readReg (.core c) a upset; (r.1.toNat, r.2)
    | .dram =>
      if s.isOn 9 then (s.seen c a n, s) else (let f := s.fresh; (f.1.toNat % 256 ^ n, f.2))
    | _ => (s.seen c a n, s)

/-- A load of core c (R20, R27): ALIGN for a misaligned address, gd unchanged; ACCESS with gd zero; `ext` extends the value read.
`upset`: an uncorrectable DRAM word, which raises ACCESS and the fault (R388), or a parity error of a word popped. -/
def State.loadInsn (s : State) (c : Fin 8) (gd ga : Fin 16) (imm : BitVec 18) (n : Nat) (upset : Bool) (ext : Nat → Word) :
    State :=
  s.issue c fun s =>
    let a := s.ea c ga imm
    if a % n ≠ 0 then (s.advance c).coreEvent c 2
    else match s.reach c a n false with
    | .access => (s.result c gd 0).coreEvent c 1
    | .wait => s.waitAt c .scratch
    | .ok =>
      if upset && areaOf a == .dram && s.isOn 9 then ((s.result c gd 0).coreEvent c 1).eccLost a
      else
        let r := s.loadValue c a n upset
        r.2.result c gd (ext r.1)

/-- LW (R27). -/
def execLw (c : Fin 8) (gd ga : Fin 16) (imm : BitVec 18) (upset : Bool) (s : State) : Host.Outcome State Fault Refusal :=
  .next (s.loadInsn c gd ga imm 4 upset word)

/-- LH (R27): sign-extended. -/
def execLh (c : Fin 8) (gd ga : Fin 16) (imm : BitVec 18) (upset : Bool) (s : State) : Host.Outcome State Fault Refusal :=
  .next (s.loadInsn c gd ga imm 2 upset fun v => (BitVec.ofNat 16 v).signExtend 32)

/-- LHU (R27): zero-extended. -/
def execLhu (c : Fin 8) (gd ga : Fin 16) (imm : BitVec 18) (upset : Bool) (s : State) : Host.Outcome State Fault Refusal :=
  .next (s.loadInsn c gd ga imm 2 upset fun v => (BitVec.ofNat 16 v).zeroExtend 32)

/-- LB (R27): sign-extended. -/
def execLb (c : Fin 8) (gd ga : Fin 16) (imm : BitVec 18) (upset : Bool) (s : State) : Host.Outcome State Fault Refusal :=
  .next (s.loadInsn c gd ga imm 1 upset fun v => (BitVec.ofNat 8 v).signExtend 32)

/-- LBU (R27): zero-extended. -/
def execLbu (c : Fin 8) (gd ga : Fin 16) (imm : BitVec 18) (upset : Bool) (s : State) : Host.Outcome State Fault Refusal :=
  .next (s.loadInsn c gd ga imm 1 upset fun v => (BitVec.ofNat 8 v).zeroExtend 32)

/-! ### Stores -/

/-- A store of core c (R20, R27): to the data scratchpad at once, elsewhere into the write buffer, whose oldest store completes
first when it is full. -/
def State.storeInsn (s : State) (c : Fin 8) (gd ga : Fin 16) (imm : BitVec 18) (n : Nat) : State :=
  s.issue c fun s =>
    let a := s.ea c ga imm
    let b : BufStore := ⟨a, n, s.gpr c gd⟩
    if a % n ≠ 0 then (s.advance c).coreEvent c 2
    else match s.reach c a n true with
    | .access => (s.advance c).coreEvent c 1
    | .wait => s.waitAt c .scratch
    | .ok =>
      if areaOf a = .own then (s.perform c b).advance c
      else
        let s := if 4 ≤ (s.core c).wbuf.length then s.drainOne c else s
        (s.modCore c fun k => { k with wbuf := k.wbuf ++ [b] }).advance c

/-- SW (R27): gd is the data source. -/
def execSw (c : Fin 8) (gd ga : Fin 16) (imm : BitVec 18) (s : State) : Host.Outcome State Fault Refusal :=
  .next (s.storeInsn c gd ga imm 4)

/-- SH (R27): the low 16 bits of gd. -/
def execSh (c : Fin 8) (gd ga : Fin 16) (imm : BitVec 18) (s : State) : Host.Outcome State Fault Refusal :=
  .next (s.storeInsn c gd ga imm 2)

/-- SB (R27): the low 8 bits of gd. -/
def execSb (c : Fin 8) (gd ga : Fin 16) (imm : BitVec 18) (s : State) : Host.Outcome State Fault Refusal :=
  .next (s.storeInsn c gd ga imm 1)

/-- FENCE (R27): waits until the write buffer is empty. -/
def execFence (c : Fin 8) (rsv : BitVec 2) (s : State) : Host.Outcome State Fault Refusal :=
  .next (s.fence c rsv fun s => s.drain c)

/-! ### The QSPI target (R435, R444) -/

/-- A read of a word by the host on the QSPI target: zero outside Table 19-1, and from a memory whose domain is not ON or a bank
reserved to a core. -/
def State.qspiRead (s : State) (a : Nat) (upset : Bool) : Word × State :=
  if a % 4 ≠ 0 then (0, s) else
  match areaOf a with
  | .reg => s.readReg .qspi a upset
  | .shared => (if s.isOn 1 && decide (s.fld SEQ_BANKRES (4 * sharedBank a + 3) (4 * sharedBank a) < 8) then s.ldw a else 0, s)
  | .emram => (if keyArea a then 0 else s.ldw a, s)
  | .dram => (if s.isOn 9 then s.ldw a else 0, s)
  | _ => (0, s)

/-- A write of a word by the host on the QSPI target; a verified image is locked (R368). -/
def State.qspiWrite (s : State) (a : Nat) (v : Word) : State :=
  if a % 4 ≠ 0 then s else
  match areaOf a with
  | .reg => s.writeReg .qspi a v 0xFFFFFFFF
  | .shared => if s.isOn 1 && decide (s.fld SEQ_BANKRES (4 * sharedBank a + 3) (4 * sharedBank a) < 8) then s.stw a v else s
  | .dram => if s.isOn 9 then s.dmaWrite a (leOctets v.toNat 4) else s
  | _ => s

/-- A data phase other than 4 octets counts in HOST_QSTSTAT.ERR and sets IRQ bit 16 (R435). -/
def State.qspiLength (s : State) (octets : Nat) : State := if octets = 4 then s else (s.bump HOST_QSTSTAT 15 0).hostIrq 16

/-- QST_WRITE (R435): `octets` is the length of the data phase; one of another length is ignored. -/
def execQstWrite (a v : Word) (octets : Nat) (s : State) : Host.Outcome State Fault Refusal :=
  .next (if !s.isOn 11 then s
    else if octets = 4 then s.qspiWrite a.toNat v else s.qspiLength octets)

/-- QST_READ (R435). `late`: the data of a DRAM or eMRAM read is not ready at the data phase, so it returns zero and sets LATE.
The word stands on `bus`. -/
def execQstRead (a : Word) (octets : Nat) (late upset : Bool) (s : State) : Host.Outcome State Fault Refusal :=
  .next (if !s.isOn 11 then { s with bus := 0 } else
    let s := s.qspiLength octets
    if late && (areaOf a.toNat == .dram || areaOf a.toNat == .emram) then { s.setBit HOST_QSTSTAT 31 true with bus := 0 }
    else (let r := s.qspiRead a.toNat upset; { r.2 with bus := r.1 }))

/-! ### The debug port (R354, R359, R444) -/

/-- The core whose scratchpad lies at an address of the debug port's window. -/
def scratchCore (a : Nat) : Option (Fin 8) :=
  if 0x70000000 ≤ a ∧ a < 0x70100000 then some (Fin.ofNat 8 ((a - 0x70000000) / 0x20000)) else none

/-- The domain that a debug access reaches; PD0 for what needs no session's domain. -/
def debugDom (a : Nat) : Nat :=
  match scratchCore a with
  | some c => coreDom c
  | none => match areaOf a with
    | .reg => regDom a
    | .shared => 1
    | .dram => 9
    | _ => 0

/-- May the session do this: OBSERVE reads, HALT writes, with the DBG block always open to the port; CRYP is OBSERVE only in
FIELD; a scratchpad is written while its core is halted; eMRAM is written at FULL outside the key area; KEYS_BUF is not
read. -/
def State.debugMay (s : State) (write : Bool) (a : Nat) : Bool :=
  let level := s.fld DBG_SESS 31 30
  let d := debugDom a
  if a / 0x10000 = 0x4016 then true
  else if !s.session || (d != 0 && !s.attached d) then false
  else if !write then !decide (KEYS_BUFk 0 ≤ a ∧ a < 0x400D0000)
  else if d = 8 ∧ s.lifecycle = 2 then false
  else match scratchCore a with
  | some c => decide (2 ≤ level) && (s.core c).dbgHalt
  | none => if areaOf a = .emram then level == 3 && !keyArea a else decide (2 ≤ level)

/-- How an access completes (R359): DOMOFF and PAUSED by the state of its domain. -/
def State.debugStatus (s : State) (write : Bool) (a : Nat) : AccStatus :=
  let d := debugDom a
  if s.debugRow = 4 ∧ d ≠ 0 ∧ !s.isOn d then .domoff
  else if !s.debugMay write a then .denied
  else if d = 0 ∨ s.isOn d then .ok
  else if (s.dom d).state = .off ∧ !(s.dom d).busy then .domoff
  else .paused

/-- A read by the debug port where it may: zero at an address marked "—" or zero in Table 19-1. -/
def State.debugRead (s : State) (a : Nat) : Word × State :=
  if a % 4 ≠ 0 then (0, s) else
  match scratchCore a with
  | some _ => (s.ldw a, s)
  | none => match areaOf a with
    | .reg => s.readReg .debug a false
    | .rom => (s.ldw a, s)
    | .shared => (s.ldw a, s)
    | .emram => (if keyArea a then 0 else s.ldw a, s)
    | .dram => (s.ldw a, s)
    | _ => (0, s)

/-- A write by the debug port where it may. -/
def State.debugWrite (s : State) (a : Nat) (v : Word) : State :=
  if a % 4 ≠ 0 then s else
  match scratchCore a with
  | some _ => s.stw a v
  | none => match areaOf a with
    | .reg => s.writeReg .debug a v 0xFFFFFFFF
    | .shared => s.stw a v
    | .emram => s.stw a v
    | .dram => s.dmaWrite a (leOctets v.toNat 4)
    | _ => s

/-- DBGACC (R354, R359): the debug port reads or writes one word, at the session's level. A word read stands on `bus`. -/
def execDbgacc (write : Bool) (a v : Word) (s : State) : Host.Outcome State Fault Refusal :=
  .next (let s := s.selectTap .dbgacc
    let st := s.debugStatus write a.toNat
    let s := { s with dbg := { s.dbg with acc := st } }
    if st ≠ .ok then { s with bus := 0 }
    else if write then s.debugWrite a.toNat v
    else (let r := s.debugRead a.toNat; { r.2 with bus := r.1 }))

end Sys2Proof.Machine
end

