-- ==== Sys2Proof/Machine/Clock.lean ====
section
/-!
DEFINITION. Sys2Proof/Machine/Clock.lean: what the clocks do when no command waits (log entry 10). The opcode table has no row
for a clock edge, so an idle step is one cycle of the 1 GHz SEQ clock, with the edges of the other clocks that fall on it.
-/
namespace Sys2Proof.Machine

/-- A cycle of the cores whose domain is ON and not frozen: the cycle counter (Table 02-3), and the oldest store of the write
buffer (Table 02-6). -/
def State.seqEdge (s : State) : State :=
  (List.finRange 8).foldl (fun (s : State) c =>
    if s.isOn (coreDom c) && !s.frozen (coreDom c) then (s.modCore c fun k => { k with cyc := k.cyc + 1 }).drainOne c else s) s

/-- A whole second of the elapsed RTC count on the counters that show seconds left: UPD_TRIAL.REMAIN (R373) and
DBG_STAT.LOCKOUT (R355). -/
def State.rtcSecond (s : State) : State :=
  let s := s.setFld UPD_TRIAL 31 16 (s.fld UPD_TRIAL 31 16 - 1)
  if s.fld DBG_STAT 23 8 = 0 then s else s.setFld DBG_STAT 23 8 (600 - (s.elapsed - s.dbg.lockAt) / 65536)

/-- An edge of the 32.768 kHz AON clock: the RTC tick (R336) and the release time of the stop inputs (R299). -/
def State.aonEdge (s : State) : State :=
  let t := s.rtcTick.stopAonTick
  if t.elapsed / 65536 = s.elapsed / 65536 then t else t.rtcSecond

/-- FAULT_OPENw.REMAIN of the open windows, in units of 10 ms (R387). -/
def State.windowTick (s : State) : State :=
  (List.range 8).foldl (fun (s : State) w => s.setFld (FAULT_OPENw w) 15 0 (s.fld (FAULT_OPENw w) 15 0 - 1)) s

/-- The counters in whole seconds and units of 10 ms of the model's clock. -/
def State.slowEdges (s : State) : State :=
  let s := if s.clock % 10000000 = 0 then s.windowTick else s
  if s.clock % 1000000000 = 0 && s.isOn 13 then s.fleetSecond 1 else s

/-- Does an edge of the AON clock fall in the ns that ends at `t`? -/
def aonAt (t : Nat) : Bool := t * 32768 / 1000000000 != (t - 1) * 32768 / 1000000000

/-- One ns with nothing commanded: the SEQ cycle, every fourth the TIME edge (R53), the AON edge when one falls in it, and the
counters that show time. -/
def State.idle (s : State) : State :=
  let s := ({ s with clock := s.clock + 1 }.modTime fun t => { t with phase := Fin.ofNat 4 (s.clock + 1) }).seqEdge
  let s := if s.clock % 4 = 0 then s.timeTick.ageTick else s
  let s := if aonAt s.clock then s.aonEdge else s
  (s.grantTick.uartTick).slowEdges

end Sys2Proof.Machine
end

