-- ==== Sys2Proof/Machine/Alu.lean ====
section
/-!
DEFINITION. Sys2Proof/Machine/Alu.lean: the arithmetic, logic and shift instructions (R27, Table 02-5). Each writes gd
(a write to g0 is discarded, R24) and moves the pc on; nothing else changes.
-/
namespace Sys2Proof.Machine

/-- ADD: gd ← ga + gb, modulo 2³² (R27). -/
def execAdd (c : Fin 8) (gd ga gb : Fin 16) (s : State) : Host.Outcome State Fault Refusal :=
  .next (s.issue c fun s => s.result c gd (s.gpr c ga + s.gpr c gb))

/-- SUB: gd ← ga − gb, modulo 2³² (R27). -/
def execSub (c : Fin 8) (gd ga gb : Fin 16) (s : State) : Host.Outcome State Fault Refusal :=
  .next (s.issue c fun s => s.result c gd (s.gpr c ga - s.gpr c gb))

/-- AND: gd ← ga AND gb (R27). -/
def execAnd (c : Fin 8) (gd ga gb : Fin 16) (s : State) : Host.Outcome State Fault Refusal :=
  .next (s.issue c fun s => s.result c gd (s.gpr c ga &&& s.gpr c gb))

/-- OR: gd ← ga OR gb (R27). -/
def execOr (c : Fin 8) (gd ga gb : Fin 16) (s : State) : Host.Outcome State Fault Refusal :=
  .next (s.issue c fun s => s.result c gd (s.gpr c ga ||| s.gpr c gb))

/-- XOR: gd ← ga XOR gb (R27). -/
def execXor (c : Fin 8) (gd ga gb : Fin 16) (s : State) : Host.Outcome State Fault Refusal :=
  .next (s.issue c fun s => s.result c gd (s.gpr c ga ^^^ s.gpr c gb))

/-- SLL: gd ← ga shifted left by gb[4:0] (R27). -/
def execSll (c : Fin 8) (gd ga gb : Fin 16) (s : State) : Host.Outcome State Fault Refusal :=
  .next (s.issue c fun s => s.result c gd (s.gpr c ga <<< bits (s.gpr c gb) 4 0))

/-- SRL: gd ← ga shifted right, zeros entering, by gb[4:0] (R27). -/
def execSrl (c : Fin 8) (gd ga gb : Fin 16) (s : State) : Host.Outcome State Fault Refusal :=
  .next (s.issue c fun s => s.result c gd (s.gpr c ga >>> bits (s.gpr c gb) 4 0))

/-- SRA: gd ← ga shifted right, the sign entering, by gb[4:0] (R27). -/
def execSra (c : Fin 8) (gd ga gb : Fin 16) (s : State) : Host.Outcome State Fault Refusal :=
  .next (s.issue c fun s => s.result c gd ((s.gpr c ga).sshiftRight (bits (s.gpr c gb) 4 0)))

/-- SLT: gd ← ga < gb, signed (R27). -/
def execSlt (c : Fin 8) (gd ga gb : Fin 16) (s : State) : Host.Outcome State Fault Refusal :=
  .next (s.issue c fun s => s.result c gd (setLt (s.gpr c ga) (s.gpr c gb)))

/-- SLTU: gd ← ga < gb, unsigned (R27). -/
def execSltu (c : Fin 8) (gd ga gb : Fin 16) (s : State) : Host.Outcome State Fault Refusal :=
  .next (s.issue c fun s => s.result c gd (setLtu (s.gpr c ga) (s.gpr c gb)))

/-- MUL: gd ← the low 32 bits of the product (R27). -/
def execMul (c : Fin 8) (gd ga gb : Fin 16) (s : State) : Host.Outcome State Fault Refusal :=
  .next (s.issue c fun s => s.result c gd (s.gpr c ga * s.gpr c gb))

/-- MULHU: gd ← the high 32 bits of the unsigned product (R27). -/
def execMulhu (c : Fin 8) (gd ga gb : Fin 16) (s : State) : Host.Outcome State Fault Refusal :=
  .next (s.issue c fun s => s.result c gd (word ((s.gpr c ga).toNat * (s.gpr c gb).toNat / 2 ^ 32)))

/-- MULH: gd ← the high 32 bits of the signed product (R27). -/
def execMulh (c : Fin 8) (gd ga gb : Fin 16) (s : State) : Host.Outcome State Fault Refusal :=
  .next (s.issue c fun s => s.result c gd (iword ((s.gpr c ga).toInt * (s.gpr c gb).toInt / 2 ^ 32)))

/-- MIN: gd ← the signed minimum (R27). -/
def execMin (c : Fin 8) (gd ga gb : Fin 16) (s : State) : Host.Outcome State Fault Refusal :=
  .next (s.issue c fun s => s.result c gd (if (s.gpr c ga).slt (s.gpr c gb) then s.gpr c ga else s.gpr c gb))

/-- MAX: gd ← the signed maximum (R27). -/
def execMax (c : Fin 8) (gd ga gb : Fin 16) (s : State) : Host.Outcome State Fault Refusal :=
  .next (s.issue c fun s => s.result c gd (if (s.gpr c ga).slt (s.gpr c gb) then s.gpr c gb else s.gpr c ga))

/-- DIVU: gd ← ga / gb, unsigned; a divide by zero gives 0xFFFF_FFFF (R27). -/
def execDivu (c : Fin 8) (gd ga gb : Fin 16) (s : State) : Host.Outcome State Fault Refusal :=
  .next (s.issue c fun s => s.result c gd (if s.gpr c gb = 0 then 0xFFFFFFFF else s.gpr c ga / s.gpr c gb))

/-- REMU: gd ← the remainder, unsigned; a divide by zero gives ga (R27). -/
def execRemu (c : Fin 8) (gd ga gb : Fin 16) (s : State) : Host.Outcome State Fault Refusal :=
  .next (s.issue c fun s => s.result c gd (if s.gpr c gb = 0 then s.gpr c ga else s.gpr c ga % s.gpr c gb))

/-- The count of leading zeros of a word; 32 for zero (Table 02-5). -/
def leadingZeros (a : Word) : Nat := if a = 0 then 32 else 31 - a.toNat.log2

/-- CLZ: gd ← the leading zeros of ga; gb must name g0, else ILLEGAL_INSN (R26, R27). -/
def execClz (c : Fin 8) (gd ga gb : Fin 16) (s : State) : Host.Outcome State Fault Refusal :=
  .next (s.issue c fun s => s.legal c (gb != 0) fun s => s.result c gd (word (leadingZeros (s.gpr c ga))))

/-- ADDI: gd ← ga + the sign-extended immediate (R26, R27). -/
def execAddi (c : Fin 8) (gd ga : Fin 16) (imm : BitVec 18) (s : State) : Host.Outcome State Fault Refusal :=
  .next (s.issue c fun s => s.result c gd (s.gpr c ga + simm imm))

/-- ANDI: gd ← ga AND the zero-extended immediate (R26, R27). -/
def execAndi (c : Fin 8) (gd ga : Fin 16) (imm : BitVec 18) (s : State) : Host.Outcome State Fault Refusal :=
  .next (s.issue c fun s => s.result c gd (s.gpr c ga &&& zimm imm))

/-- ORI: gd ← ga OR the zero-extended immediate (R26, R27). -/
def execOri (c : Fin 8) (gd ga : Fin 16) (imm : BitVec 18) (s : State) : Host.Outcome State Fault Refusal :=
  .next (s.issue c fun s => s.result c gd (s.gpr c ga ||| zimm imm))

/-- XORI: gd ← ga XOR the zero-extended immediate (R26, R27). -/
def execXori (c : Fin 8) (gd ga : Fin 16) (imm : BitVec 18) (s : State) : Host.Outcome State Fault Refusal :=
  .next (s.issue c fun s => s.result c gd (s.gpr c ga ^^^ zimm imm))

/-- SLTI: gd ← ga < the sign-extended immediate, signed (R26, R27). -/
def execSlti (c : Fin 8) (gd ga : Fin 16) (imm : BitVec 18) (s : State) : Host.Outcome State Fault Refusal :=
  .next (s.issue c fun s => s.result c gd (setLt (s.gpr c ga) (simm imm)))

/-- SLTIU: gd ← ga < the sign-extended immediate, unsigned (R26, R27). -/
def execSltiu (c : Fin 8) (gd ga : Fin 16) (imm : BitVec 18) (s : State) : Host.Outcome State Fault Refusal :=
  .next (s.issue c fun s => s.result c gd (setLtu (s.gpr c ga) (simm imm)))

/-- LUI: gd ← imm18 << 14; ga must name g0, else ILLEGAL_INSN (R26, R27). -/
def execLui (c : Fin 8) (gd ga : Fin 16) (imm : BitVec 18) (s : State) : Host.Outcome State Fault Refusal :=
  .next (s.issue c fun s => s.legal c (ga != 0) fun s => s.result c gd (zimm imm <<< 14))

/-- SHI: gd ← ga shifted by imm18[4:0], imm18[6:5] the kind (0 SLL, 1 SRL, 2 SRA); kind 3 and imm18[17:7] are reserved
(R26, R27). -/
def execShi (c : Fin 8) (gd ga : Fin 16) (imm : BitVec 18) (s : State) : Host.Outcome State Fault Refusal :=
  .next (s.issue c fun s => s.legal c (imm.toNat / 128 != 0 || imm.toNat / 32 % 4 == 3) fun s =>
    let a := s.gpr c ga
    let n := imm.toNat % 32
    s.result c gd (match imm.toNat / 32 % 4 with
      | 0 => a <<< n
      | 1 => a >>> n
      | _ => a.sshiftRight n))

end Sys2Proof.Machine
end

