-- ==== Sys2Proof/Machine/Services.lean ====
section
/-!
DEFINITION. Sys2Proof/Machine/Services.lean: the mailbox services of the base image (R52, R46, R47), and the completion of the
UPD commands (R365), which some of them wait for. A request's words are the operands of its row.
-/
namespace Sys2Proof.Machine

/-! ### Requests -/

/-- Does the base image run on a core: not halted, retired or loading, its domain ON? -/
def State.serves (s : State) (c : Fin 8) : Bool :=
  s.isOn (coreDom c) && !(s.core c).dbgHalt && !s.frozen (coreDom c) &&
    match (s.core c).run with
    | .running => true
    | .wfe => true
    | .waiting _ => true
    | _ => false

/-- A request of the host to core `c` (R52): word 0 of SVC, OP, TAG and NW, and the words that follow, into the inbound mailbox,
and the ring. While a message waits there the host writes nothing, and the ring is counted (R46, R47). The core that receives it
clears IN_FULL and answers RANGE when it does not own the service (`own` does, or its successor) or NW is below `need`; else
it acts. A core that does not run leaves the message waiting. -/
def State.request (s : State) (c own : Fin 8) (svc op : Nat) (tag : Byte) (nw : Fin 16) (ws : List Word) (need : Nat)
    (act : State → Fin 8 → Word → State) : State :=
  let head := word (svc * 2 ^ 24 + op * 2 ^ 16 + tag.toNat * 256 + nw.val)
  if !s.isOn (coreDom c) then s
  else if s.bit (SEQ_MBSTATn c.val) 0 then s.inRing c
  else
    let l := head :: ws.take nw.val
    let s := (List.range l.length).foldl (fun (s : State) k => s.wr (SEQ_MBINn_k c.val k) (l.getD k 0)) s
    match s.mailCore c with
    | none => s.inRing c
    | some m =>
      let s := s.inRing c
      if !s.serves m || !s.bit (SEQ_MBSTATn m.val) 0 then s else
      let s := s.setBit (SEQ_MBSTATn m.val) 0 false
      if s.mailCore own ≠ some m ∨ nw.val < need then s.reply m head stRANGE [] else act s m head

/-- A register as the base image on core `c` reads it. -/
def State.readBy (s : State) (c : Fin 8) (a : Nat) : Word := (s.readReg (.core c) a false).1

/-! ### MODE, TIME, FLEET, GNSS -/

/-- MODE SET (R52): C0 issues MODE to `target`[3:0]; the reply waits for its completion. -/
def execModeSet (c : Fin 8) (tag : Byte) (nw : Fin 16) (target : Word) (s : State) : Host.Outcome State Fault Refusal :=
  .next (s.request c 0 0x01 0x01 tag nw [target] 1 fun s m head =>
    let t := bits target 3 0
    let r := s.modeCheck m t
    if r.1 = stOK then { s with modeReq := some ⟨m, 0, t, some (m, head)⟩ }
    else
      let s := s.noteMode m t r.1
      s.reply m head r.1 [s.rd SYS_MODE])

/-- MODE GET (R52). -/
def execModeGet (c : Fin 8) (tag : Byte) (nw : Fin 16) (s : State) : Host.Outcome State Fault Refusal :=
  .next (s.request c 0 0x01 0x02 tag nw [] 0 fun s m head =>
    let r := s.readReg (.core m) SYS_MODE_STAT false
    r.2.reply m head stOK [s.rd SYS_MODE, s.overlay, r.1])

/-- TIME READ (R52): the TRD value, TIME_TQ.STATE and TIME_TQERR; zero while TIME is not ON (R30, R448). -/
def execTimeRead (c : Fin 8) (tag : Byte) (nw : Fin 16) (s : State) : Host.Outcome State Fault Refusal :=
  .next (s.request c 6 0x02 0x01 tag nw [] 0 fun s m head =>
    if !s.isOn 12 then s.reply m head stOK [0, 0, 0, 0]
    else
      let v := s.trdNow
      s.reply m head stOK [word (v / 2 ^ 32), word (s.tqState * 65536 + v / 2 ^ 64), word v, s.readBy m TIME_TQERR])

/-- FLEET RESUME (R52, R299): C4 issues RESUME with the 72-octet token at a DRAM address; the reply follows the clear. -/
def execFleetResume (c : Fin 8) (tag : Byte) (nw : Fin 16) (addr : Word) (s : State) : Host.Outcome State Fault Refusal :=
  .next (s.request c 4 0x04 0x01 tag nw [addr] 1 fun s m head =>
    if s.mode == 9 then (let s := s.replayOutput; s.reply m head stINHIBIT [s.rd FLEET_STOP_STAT])
    else if !s.isOn 8 then s.reply m head stNOTREADY [s.rd FLEET_STOP_STAT]
    else
      let r := s.resumeCheck (s.octets (corePhys m addr.toNat) 72) 72
      if r.1 = stOK then r.2.2.2.modFleet fun f => { f with clear := some ⟨m, 0, some head, r.2.2.1⟩ }
      else r.2.2.2.reply m head r.1 [r.2.2.2.rd FLEET_STOP_STAT])

/-- FLEET STOP (R52, R298): C4 issues STOP with the cause in word 1. -/
def execFleetStop (c : Fin 8) (tag : Byte) (nw : Fin 16) (cause : Word) (s : State) : Host.Outcome State Fault Refusal :=
  .next (s.request c 4 0x04 0x02 tag nw [cause] 1 fun s m head =>
    if s.mode == 9 then (let s := s.replayOutput; s.reply m head stINHIBIT [s.rd FLEET_STOP_STAT])
    else
      let st := if s.latched then stALREADY else stOK
      let s := s.setLatch (max (bits cause 7 0) 0x10)
      s.reply m head st [s.rd FLEET_STOP_STAT])

/-- GNSS SPOOFCLR (R52, R277): under a grant of purpose 2, which it consumes, SPOOF is cleared; DENIED without one. -/
def execSpoofclr (c : Fin 8) (tag : Byte) (nw : Fin 16) (s : State) : Host.Outcome State Fault Refusal :=
  .next (s.request c 4 0x05 0x01 tag nw [] 0 fun s m head =>
    if s.isOn 8 && s.granted 2 then
      let s := s.consumeGrant
      (if s.isOn 6 then s.spoofClear else s).reply m head stOK []
    else s.reply m head stDENIED [])

/-- GNSS STATUS (R52). -/
def execGnssStatus (c : Fin 8) (tag : Byte) (nw : Fin 16) (s : State) : Host.Outcome State Fault Refusal :=
  .next (s.request c 4 0x05 0x02 tag nw [] 0 fun s m head =>
    s.reply m head stOK [s.readBy m GNSS_INTEG, s.readBy m GNSS_REFSTAT, s.readBy m GNSS_FREE])

/-! ### UPDATE -/

/-- A UPD command for a request: its reply follows the completion. With LOG not ON the write is discarded and UPD_CMDSTAT reads
zero (R448); while another command is in progress the write sets CMDLOST, and the reply gives that command's status. -/
def State.updService (s : State) (m : Fin 8) (head : Word) (cmd t : Nat) : State :=
  if !s.isOn 14 then s.reply m head 0 [0]
  else if s.bit UPD_CMDSTAT 31 then
    (s.setBit UPD_STAT 4 true).modUpd fun u => { u with cmd := u.cmd.map fun k => { k with svc := k.svc.or (some (m, head)) } }
  else s.updCmd cmd t (some (m, head))

/-- UPDATE PIECE (R52, R365): the target, the UPD_ARG1 value and the address of the piece. -/
def execUpdatePiece (c : Fin 8) (tag : Byte) (nw : Fin 16) (target arg1 addr : Word) (s : State) :
    Host.Outcome State Fault Refusal :=
  .next (s.request c 5 0x03 0x01 tag nw [target, arg1, addr] 3 fun s m head =>
    let s := (s.writeReg (.core m) UPD_ARG0 addr 0xFFFFFFFF).writeReg (.core m) UPD_ARG1 arg1 0xFFFFFFFF
    s.updService m head 1 (bits target 3 0))

/-- UPDATE STATUS (R52). -/
def execUpdateStatus (c : Fin 8) (tag : Byte) (nw : Fin 16) (s : State) : Host.Outcome State Fault Refusal :=
  .next (s.request c 5 0x03 0x02 tag nw [] 0 fun s m head =>
    s.reply m head stOK (s.readBy m UPD_BOOT :: (List.range 6).map fun t => s.readBy m (UPD_TGTt_STAT t)))

/-- UPDATE COMMIT (R52, R373). -/
def execUpdateCommit (c : Fin 8) (tag : Byte) (nw : Fin 16) (s : State) : Host.Outcome State Fault Refusal :=
  .next (s.request c 5 0x03 0x03 tag nw [] 0 fun s m head => s.updService m head 6 0)

/-- UPDATE REVERT (R52, R373). -/
def execUpdateRevert (c : Fin 8) (tag : Byte) (nw : Fin 16) (s : State) : Host.Outcome State Fault Refusal :=
  .next (s.request c 5 0x03 0x04 tag nw [] 0 fun s m head => s.updService m head 7 0)

/-- An ACTIVATE that ends at a step: the reply, with the status and the step. -/
def State.endActivate (s : State) (m : Fin 8) (head : Word) (st step : Nat) : State :=
  (s.modUpd fun u => { u with activate := none }).reply m head st [word step]

/-- UPDATE ACTIVATE (R52): LOADSLOT of the slot, ACT scope 3, MODE ACTIVATE. `addr`: the DRAM address that the base image loads
the image to, which the spec leaves to it. -/
def execUpdateActivate (c : Fin 8) (tag : Byte) (nw : Fin 16) (slot addr : Word) (s : State) : Host.Outcome State Fault Refusal :=
  .next (s.request c 5 0x03 0x05 tag nw [slot] 1 fun s m head =>
    let s := (s.writeReg (.core m) UPD_ARG0 addr 0xFFFFFFFF).writeReg (.core m) UPD_ARG1 (word (bits slot 0 0)) 0xFFFFFFFF
    if !s.isOn 14 then s.endActivate m head stNOTREADY 2
    else (s.modUpd fun u => { u with activate := some ⟨m, head, 1⟩ }).updService m head 5 0)

/-- The status of an ACT of scope 3 on a verified entry (R370), its checks in their order. -/
def State.stageStatus3 (s : State) (v : Nat) : Nat :=
  let a := s.entryAddr v
  if s.mode = 9 ∨ !s.isOn 9 ∨ !s.isOn 14 then stNOTREADY
  else if (s.lup a).typ ≠ 3 ∨ s.onlyRetired a then stRANGE
  else if !s.bundleReady v then stNOTREADY
  else if s.keyLost a then stAUTH
  else if s.activating then stBUSY
  else stOK

/-- The later steps of an ACTIVATE once its LOADSLOT has completed: entry `v` staged, and MODE ACTIVATE issued by C0. -/
def State.continueActivate (s : State) (m : Fin 8) (head : Word) (v : Nat) : State :=
  let st := s.stageStatus3 v
  if st ≠ stOK then
    let s := if st = stAUTH then s.authFail 5 (s.lup (s.entryAddr v)).keyId else s
    s.endActivate m head st 2
  else
    let s := s.modUpd fun u => { u with bundle := some v }
    let c0 := (s.mailCore 0).getD 0
    let r := s.modeCheck c0 8
    if r.1 = stOK then
      let s := { s with modeReq := some ⟨c0, 0, 8, some (m, head)⟩ }
      s.modUpd fun u => { u with activate := some ⟨m, head, 3⟩ }
    else (s.noteMode c0 8 r.1).endActivate m head r.1 3

/-- UPD_COMMAND_DONE (R365, R366): the command in progress completes in UPD_CMDSTAT; a piece's bit is set, and the request that
waited for it is answered. -/
def execUpdCommandDone (s : State) : Host.Outcome State Fault Refusal :=
  .next (match s.upd.cmd with
    | none => s
    | some k =>
      if !s.isOn 14 then s else
      let s := s.wr UPD_CMDSTAT (word (k.result * 65536 + k.detail * 256 + k.status))
      let s := (s.finPiece k.fin).modUpd fun u => { u with cmd := none }
      match k.svc with
      | none => s
      | some (m, head) =>
        match bits head 23 16 with
        | 1 => s.reply m head k.status [word k.detail]
        | 5 => if k.status = stOK then s.continueActivate m head k.result else s.endActivate m head k.status 1
        | _ => s.reply m head k.status [])

end Sys2Proof.Machine
end

