-- ==== Sys2Proof/Machine/Replay.lean ====
section
/-!
DEFINITION. Sys2Proof/Machine/Replay.lean: the replay of a frozen journal (R406, R407): its start, its inputs with the comparison
of outputs, and its end. The digests of what a replayed core has put out, and the input it asks for, are operands.
-/
namespace Sys2Proof.Machine

/-- Does the replay run: mode REPLAY with RUN, LOG ON, and not ended by a divergence under STOPDIV (R406)? -/
def State.replaying (s : State) : Bool :=
  s.mode == 9 && s.isOn 14 && s.bit REPLAY_STAT 29 && !(s.bit REPLAY_STAT 27 && s.bit REPLAY_CTL 30)

/-- Does a replay present an entry: an input or output of a core of the set, or a unit's input? -/
def State.presents (s : State) (e : JEnt) : Bool :=
  (decide (3 ≤ e.kind ∧ e.kind ≤ 7) && s.bit REPLAY_CTL e.core && decide (e.core < 8)) || decide (8 ≤ e.kind ∧ e.kind ≤ 11)

/-- The entries from a checkpoint set to the FREEZE entry. -/
def State.fromPoint (s : State) (k : Ckpt) : List JEnt :=
  (((s.rep.replay.entries.dropWhile fun (e : JEnt) => e.jseq != k.jseq).takeWhile fun (e : JEnt) => e.kind != 14).filter s.presents)

/-- REPLAY_START (R406, Table 17-7 steps 2 to 4): scratchpads, reserved banks and registers of the set restored from the start
point, and its cores started. Its cells hold the memory at the capture, so no SCRW entry is left to apply. -/
def execReplayStart (s : State) : Host.Outcome State Fault Refusal :=
  .next (if !s.replaying || !s.rep.replay.todo.isEmpty || s.rd REPLAY_PROG != 0 then s else
    match s.startPoint with
    | none => s
    | some k =>
      let s := { s with mem := s.mem.filter fun (e : Host.Cell) => !s.inSetMem e.1 }
      let s := k.cells.foldl (fun (s : State) (e : Host.Cell) => s.setByte e.1 e.2) s
      let s := k.cores.foldl (fun (s : State) (e : Fin 8 × Core) =>
        if (s.core e.1).run = .retired then s else s.modCore e.1 fun now => { e.2 with
          dbgHalt := now.dbgHalt, dbgStep := now.dbgStep, held := now.held, wbuf := []
          run := if e.2.run = .halted then .running else e.2.run }) s
      (s.modReplay fun r => { r with todo := s.fromPoint k, input := [] }).wr REPLAY_PROG k.jseq)

/-- The first mismatch of a replay (R407): DIV, the event, and where and what it is. -/
def State.diverge (s : State) (kind core : Nat) (jseq rec rep : Word) : State :=
  if s.bit REPLAY_STAT 27 then s else
  let s := ((s.setBit REPLAY_STAT 27 true).wr REPLAY_DIVIDX jseq).wr REPLAY_DIVINFO (word (kind * 2 ^ 28 + core * 2 ^ 24))
  ((s.wr REPLAY_DIVREC rec).wr REPLAY_DIVREP rep).raise 0xE2 0x03

/-- The next entry of a core, or of the units for 15. -/
def State.nextOf (s : State) (core : Nat) : Option JEnt :=
  s.rep.replay.todo.find? fun e => if core = 15 then decide (8 ≤ e.kind) else decide (e.kind < 8) && e.core == core

/-- An entry replayed. -/
def State.doneEntry (s : State) (e : JEnt) : State :=
  (s.modReplay fun r => { r with todo := r.todo.erase e }).wr REPLAY_PROG e.jseq

/-- An output of a core compared with its next OUT entry. -/
def State.compareOut (core : Nat) (s : State) (digest : Word) : State :=
  match s.nextOf core with
  | none => s.diverge 2 core (s.rd REPLAY_TRIG) 0 digest
  | some e =>
    if e.kind ≠ 7 then s.diverge 2 core e.jseq 0 digest
    else (if e.arg = digest then s else s.diverge 1 core e.jseq e.arg digest).doneEntry e

/-- The OUT entries of a core ahead of its next input entry, which it has not reproduced. -/
def State.missing (core : Nat) : Nat → State → State
  | 0, s => s
  | n + 1, s => match s.nextOf core with
    | none => s
    | some e => if e.kind ≠ 7 then s else State.missing core n ((s.diverge 3 core e.jseq e.arg 0).doneEntry e)

/-- The words of a frame in a FRAME entry: two payload words for each word of the port. -/
def replayWords : List Word → List (BitVec 64)
  | lo :: hi :: t => (hi ++ lo) :: replayWords t
  | [lo] => [lo.zeroExtend 64]
  | [] => []

/-- An input entry given to the core, or to the unit, that it is for (Table 17-6). -/
def State.give (s : State) (e : JEnt) : State :=
  let c := Fin.ofNat 8 e.core
  let d (i : Nat) : Word := e.data.getD i 0
  match e.kind with
  | 3 =>
    let line := bits e.arg 4 0
    s.modCore c fun k => { k with
      evpend := k.evpend ||| word (2 ^ line)
      arrival := tabSet (fun _ => (0, false)) k.arrival line (k.cyc, bitAt e.arg 8)
      run := if k.run = .wfe ∧ bitAt k.evmask line then .running else k.run }
  | 6 => (s.putWords (corePhys c e.arg.toNat) e.data).modCore c fun k => { k with dmactl := k.dmactl &&& 0x7FFFFFFF }
  | 8 =>
    let ws := replayWords e.data
    (List.range ws.length).foldl (fun (s : State) i =>
      s.produce e.arg.toNat (mkFWord (ws.getD i 0) (i == 0) (i + 1 == ws.length) false)) s
  | 9 => s.gpioEdge (Fin.ofNat 16 (bits e.arg 15 8)) (bitAt e.arg 0) true
  | 10 =>
    let k := e.arg.toNat % 4
    (s.writeReg .host (TIME_SRCk_S k) (d 0) 0xFFFFFFFF).writeReg .host (TIME_SRCk_N k) (d 1) 0xFFFFFFFF
  | 11 => s.writeReg .host (d 0).toNat (d 1) 0xFFFFFFFF
  | _ =>
    let s := s.modReplay fun r => { r with input := tabSet (fun _ => none) r.input e.core (some e) }
    if e.kind ≠ 5 then s else
    match (s.core c).run with
    | .waiting w => if w.again then s.finishAt c (d 0) else s.finish c (fun _ => true) (d 0)
    | _ => s

/-- REPLAY_INPUT (R407): the next input entry of core `c` (15: of the units) reaches it. `outs`: the digests of what the core has
put out since its last one, which are compared first; `ask`: the kind, and the address of a load, that the core asks for. -/
def execReplayInput (c : Fin 16) (outs : List Word) (ask : Option (Fin 16 × Word)) (s : State) :
    Host.Outcome State Fault Refusal :=
  .next (if !s.replaying then s else
    let s := if c = 15 then s else outs.foldl (State.compareOut c) s
    let s := if c = 15 then s else State.missing c s.rep.replay.todo.length s
    if !s.replaying then s else
    match s.nextOf c with
    | none => s
    | some e =>
      let wrong : Bool := match ask with
        | none => false
        | some (k, a) => k.val != e.kind || (e.kind == 4 && e.data.headD 0 != a)
      let s := if wrong then s.diverge 4 c e.jseq 0 0 else s
      if !s.replaying then s else (s.doneEntry e).give e)

/-- REPLAY_END (R406, Table 17-7 step 6): the FREEZE entry is reached, every input given, or the first divergence under STOPDIV. -/
def execReplayEnd (s : State) : Host.Outcome State Fault Refusal :=
  .next (if s.mode ≠ 9 ∨ !s.isOn 14 ∨ !s.bit REPLAY_STAT 29 then s else
    let stopped := s.bit REPLAY_STAT 27 && s.bit REPLAY_CTL 30
    if !stopped && s.rep.replay.todo.any (fun (e : JEnt) => e.kind != 7) then s else
    let s := (List.range 8).foldl (fun (s : State) c => State.missing c s.rep.replay.todo.length s) s
    let s := (s.setBit REPLAY_STAT 29 false).setBit REPLAY_STAT 28 true
    let s := s.modSet fun s c => s.modCore c fun k => { k with run := .halted }
    (s.record 0xE2 recREPLAY_DONE (word (b2n (s.bit REPLAY_STAT 26) * 2 + b2n (s.bit REPLAY_STAT 27))) (s.rd REPLAY_DIVIDX)
      (s.rd REPLAY_PROG)).raise 0xE2 0x02)

end Sys2Proof.Machine
end

