-- ==== Sys2Proof/Machine/Dispatch.lean ====
section
/-! DEFINITION. The dispatch: one arm per command, each a direct call of that command's meaning. -/

namespace Sys2Proof.Machine

def exec (i : Instr) (s : State) : Host.Outcome State Fault Refusal :=
  match i with
  | .add c gd ga gb => Sys2Proof.Machine.execAdd c gd ga gb s
  | .sub c gd ga gb => Sys2Proof.Machine.execSub c gd ga gb s
  | .and c gd ga gb => Sys2Proof.Machine.execAnd c gd ga gb s
  | .or c gd ga gb => Sys2Proof.Machine.execOr c gd ga gb s
  | .xor c gd ga gb => Sys2Proof.Machine.execXor c gd ga gb s
  | .sll c gd ga gb => Sys2Proof.Machine.execSll c gd ga gb s
  | .srl c gd ga gb => Sys2Proof.Machine.execSrl c gd ga gb s
  | .sra c gd ga gb => Sys2Proof.Machine.execSra c gd ga gb s
  | .slt c gd ga gb => Sys2Proof.Machine.execSlt c gd ga gb s
  | .sltu c gd ga gb => Sys2Proof.Machine.execSltu c gd ga gb s
  | .mul c gd ga gb => Sys2Proof.Machine.execMul c gd ga gb s
  | .mulhu c gd ga gb => Sys2Proof.Machine.execMulhu c gd ga gb s
  | .mulh c gd ga gb => Sys2Proof.Machine.execMulh c gd ga gb s
  | .min c gd ga gb => Sys2Proof.Machine.execMin c gd ga gb s
  | .max c gd ga gb => Sys2Proof.Machine.execMax c gd ga gb s
  | .clz c gd ga gb => Sys2Proof.Machine.execClz c gd ga gb s
  | .divu c gd ga gb => Sys2Proof.Machine.execDivu c gd ga gb s
  | .remu c gd ga gb => Sys2Proof.Machine.execRemu c gd ga gb s
  | .addi c gd ga imm => Sys2Proof.Machine.execAddi c gd ga imm s
  | .andi c gd ga imm => Sys2Proof.Machine.execAndi c gd ga imm s
  | .ori c gd ga imm => Sys2Proof.Machine.execOri c gd ga imm s
  | .xori c gd ga imm => Sys2Proof.Machine.execXori c gd ga imm s
  | .slti c gd ga imm => Sys2Proof.Machine.execSlti c gd ga imm s
  | .sltiu c gd ga imm => Sys2Proof.Machine.execSltiu c gd ga imm s
  | .lui c gd ga imm => Sys2Proof.Machine.execLui c gd ga imm s
  | .shi c gd ga imm => Sys2Proof.Machine.execShi c gd ga imm s
  | .lw c gd ga imm upset => Sys2Proof.Machine.execLw c gd ga imm upset s
  | .lh c gd ga imm upset => Sys2Proof.Machine.execLh c gd ga imm upset s
  | .lhu c gd ga imm upset => Sys2Proof.Machine.execLhu c gd ga imm upset s
  | .lb c gd ga imm upset => Sys2Proof.Machine.execLb c gd ga imm upset s
  | .lbu c gd ga imm upset => Sys2Proof.Machine.execLbu c gd ga imm upset s
  | .sw c gd ga imm => Sys2Proof.Machine.execSw c gd ga imm s
  | .sh c gd ga imm => Sys2Proof.Machine.execSh c gd ga imm s
  | .sb c gd ga imm => Sys2Proof.Machine.execSb c gd ga imm s
  | .bcs c ga gb cond rsv off => Sys2Proof.Machine.execBcs c ga gb cond rsv off s
  | .bcu c ga gb cond rsv off => Sys2Proof.Machine.execBcu c ga gb cond rsv off s
  | .jal c gd ga imm => Sys2Proof.Machine.execJal c gd ga imm s
  | .jalr c gd ga imm => Sys2Proof.Machine.execJalr c gd ga imm s
  | .mfs c gd imm => Sys2Proof.Machine.execMfs c gd imm s
  | .mts c ga imm => Sys2Proof.Machine.execMts c ga imm s
  | .nop c rsv => Sys2Proof.Machine.execNop c rsv s
  | .wfe c rsv => Sys2Proof.Machine.execWfe c rsv s
  | .rete c rsv => Sys2Proof.Machine.execRete c rsv s
  | .fence c rsv => Sys2Proof.Machine.execFence c rsv s
  | .trd c gd ga => Sys2Proof.Machine.execTrd c gd ga s
  | .trdSecondsHi c gd => Sys2Proof.Machine.execTrdSecondsHi c gd s
  | .twait c gd ga gb func => Sys2Proof.Machine.execTwait c gd ga gb func s
  | .twaitDone c => Sys2Proof.Machine.execTwaitDone c s
  | .mwait c gd ga gb func => Sys2Proof.Machine.execMwait c gd ga gb func s
  | .mwaitDone c => Sys2Proof.Machine.execMwaitDone c s
  | .tarm c gd ga imm => Sys2Proof.Machine.execTarm c gd ga imm s
  | .tarmPulse c gd ga imm => Sys2Proof.Machine.execTarmPulse c gd ga imm s
  | .tarmCancel c gd imm => Sys2Proof.Machine.execTarmCancel c gd imm s
  | .tarmFire c idx => Sys2Proof.Machine.execTarmFire c idx s
  | .trearm c gd sub rsv => Sys2Proof.Machine.execTrearm c gd sub rsv s
  | .rxarm c gd ga imm => Sys2Proof.Machine.execRxarm c gd ga imm s
  | .rxarmCancel c gd ga imm => Sys2Proof.Machine.execRxarmCancel c gd ga imm s
  | .txq c gd ga imm frame => Sys2Proof.Machine.execTxq c gd ga imm frame s
  | .pktget c gd ga imm upset => Sys2Proof.Machine.execPktget c gd ga imm upset s
  | .pktgetWaitDone c upset => Sys2Proof.Machine.execPktgetWaitDone c upset s
  | .pktput c gd ga imm => Sys2Proof.Machine.execPktput c gd ga imm s
  | .keyld c gd ga imm => Sys2Proof.Machine.execKeyld c gd ga imm s
  | .kdrv c gd ga gb func => Sys2Proof.Machine.execKdrv c gd ga gb func s
  | .pdreqOn c gd ga imm => Sys2Proof.Machine.execPdreqOn c gd ga imm s
  | .pdreqRet c gd ga imm silent => Sys2Proof.Machine.execPdreqRet c gd ga imm silent s
  | .pdreqOff c gd ga low imm silent => Sys2Proof.Machine.execPdreqOff c gd ga low imm silent s
  | .pdstat c gd ga imm => Sys2Proof.Machine.execPdstat c gd ga imm s
  | .stg c gd ga gb func => Sys2Proof.Machine.execStg c gd ga gb func s
  | .chk c gd sub rsv => Sys2Proof.Machine.execChk c gd sub rsv s
  | .blk c gd ga gb func => Sys2Proof.Machine.execBlk c gd ga gb func s
  | .blkNetworkTime c gd ga gb b rsv => Sys2Proof.Machine.execBlkNetworkTime c gd ga gb b rsv s
  | .blkMains c gd ga gb b rsv => Sys2Proof.Machine.execBlkMains c gd ga gb b rsv s
  | .logw c gd ga imm => Sys2Proof.Machine.execLogw c gd ga imm s
  | .logwFreeze c gd ga rsv => Sys2Proof.Machine.execLogwFreeze c gd ga rsv s
  | .logwClear c gd ga rsv => Sys2Proof.Machine.execLogwClear c gd ga rsv s
  | .mode c gd sub rsv => Sys2Proof.Machine.execMode c gd sub rsv s
  | .modeChange => Sys2Proof.Machine.execModeChange s
  | .stop c gd sub rsv => Sys2Proof.Machine.execStop c gd sub rsv s
  | .resume c gd ga imm => Sys2Proof.Machine.execResume c gd ga imm s
  | .act c gd ga imm => Sys2Proof.Machine.execAct c gd ga imm s
  | .actPktMicrocode c gd ga imm => Sys2Proof.Machine.execActPktMicrocode c gd ga imm s
  | .actGnssMicrocode c gd ga imm => Sys2Proof.Machine.execActGnssMicrocode c gd ga imm s
  | .actBundle c gd ga imm => Sys2Proof.Machine.execActBundle c gd ga imm s
  | .actPauseEnd gnss => Sys2Proof.Machine.execActPauseEnd gnss s
  | .activationEnd failed step status who pause => Sys2Proof.Machine.execActivationEnd failed step status who pause s
  | .eventEntry c => Sys2Proof.Machine.execEventEntry c s
  | .wdog c => Sys2Proof.Machine.execWdog c s
  | .wdogWarn c => Sys2Proof.Machine.execWdogWarn c s
  | .dmaGo c v => Sys2Proof.Machine.execDmaGo c v s
  | .dmaDone c => Sys2Proof.Machine.execDmaDone c s
  | .inRing n => Sys2Proof.Machine.execInRing n s
  | .outRing n => Sys2Proof.Machine.execOutRing n s
  | .seqRetireWrite v => Sys2Proof.Machine.execSeqRetireWrite v s
  | .modeSet c tag nw target => Sys2Proof.Machine.execModeSet c tag nw target s
  | .modeGet c tag nw => Sys2Proof.Machine.execModeGet c tag nw s
  | .timeRead c tag nw => Sys2Proof.Machine.execTimeRead c tag nw s
  | .updatePiece c tag nw target arg1 addr => Sys2Proof.Machine.execUpdatePiece c tag nw target arg1 addr s
  | .updateStatus c tag nw => Sys2Proof.Machine.execUpdateStatus c tag nw s
  | .updateCommit c tag nw => Sys2Proof.Machine.execUpdateCommit c tag nw s
  | .updateRevert c tag nw => Sys2Proof.Machine.execUpdateRevert c tag nw s
  | .updateActivate c tag nw slot addr => Sys2Proof.Machine.execUpdateActivate c tag nw slot addr s
  | .fleetResume c tag nw addr => Sys2Proof.Machine.execFleetResume c tag nw addr s
  | .fleetStop c tag nw cause => Sys2Proof.Machine.execFleetStop c tag nw cause s
  | .spoofclr c tag nw => Sys2Proof.Machine.execSpoofclr c tag nw s
  | .gnssStatus c tag nw => Sys2Proof.Machine.execGnssStatus c tag nw s
  | .timeCapture a idx => Sys2Proof.Machine.execTimeCapture a idx s
  | .shadowRelease a g => Sys2Proof.Machine.execShadowRelease a g s
  | .timeTadjWrite v => Sys2Proof.Machine.execTimeTadjWrite v s
  | .sourceCommit agent k n => Sys2Proof.Machine.execSourceCommit agent k n s
  | .sourceLost k temp => Sys2Proof.Machine.execSourceLost k temp s
  | .sourceRevert => Sys2Proof.Machine.execSourceRevert s
  | .holdoverUpdate temp => Sys2Proof.Machine.execHoldoverUpdate temp s
  | .timeColdStart => Sys2Proof.Machine.execTimeColdStart s
  | .counterLoad => Sys2Proof.Machine.execCounterLoad s
  | .pulseEdge n => Sys2Proof.Machine.execPulseEdge n s
  | .ethRxFrame p octets => Sys2Proof.Machine.execEthRxFrame p octets s
  | .ethTxFrame p octets => Sys2Proof.Machine.execEthTxFrame p octets s
  | .insertOrigin p => Sys2Proof.Machine.execInsertOrigin p s
  | .insertResidence p => Sys2Proof.Machine.execInsertResidence p s
  | .linkChange p up anDone fdx speed => Sys2Proof.Machine.execLinkChange p up anDone fdx speed s
  | .mainsEdge falling => Sys2Proof.Machine.execMainsEdge falling s
  | .mainsLost => Sys2Proof.Machine.execMainsLost s
  | .mainsCapture a idx => Sys2Proof.Machine.execMainsCapture a idx s
  | .retune p fc => Sys2Proof.Machine.execRetune p fc s
  | .retuneEnd p => Sys2Proof.Machine.execRetuneEnd p s
  | .agcAttack p => Sys2Proof.Machine.execAgcAttack p s
  | .agcDecay p => Sys2Proof.Machine.execAgcDecay p s
  | .detectorEvaluation c power => Sys2Proof.Machine.execDetectorEvaluation c power s
  | .channelJam c => Sys2Proof.Machine.execChannelJam c s
  | .qualify ms => Sys2Proof.Machine.execQualify ms s
  | .qualifierTimeout c => Sys2Proof.Machine.execQualifierTimeout c s
  | .phrDecoded n ms fcs dw len foff rssi snr => Sys2Proof.Machine.execPhrDecoded n ms fcs dw len foff rssi snr s
  | .laneRelease n fcs tail => Sys2Proof.Machine.execLaneRelease n fcs tail s
  | .windowOpen w => Sys2Proof.Machine.execWindowOpen w s
  | .windowClose w => Sys2Proof.Machine.execWindowClose w s
  | .pathOffRequest p => Sys2Proof.Machine.execPathOffRequest p s
  | .pathRunRequest p => Sys2Proof.Machine.execPathRunRequest p s
  | .pathCalRequest p => Sys2Proof.Machine.execPathCalRequest p s
  | .pathMapoutRequest p => Sys2Proof.Machine.execPathMapoutRequest p s
  | .calwaitExpiry p => Sys2Proof.Machine.execCalwaitExpiry p s
  | .pathCalDone p ok temp => Sys2Proof.Machine.execPathCalDone p ok temp s
  | .laneMapWrite hi v => Sys2Proof.Machine.execLaneMapWrite hi v s
  | .laneSelfcheck => Sys2Proof.Machine.execLaneSelfcheck s
  | .selfcheckEnd n ok => Sys2Proof.Machine.execSelfcheckEnd n ok s
  | .blankEnd p => Sys2Proof.Machine.execBlankEnd p s
  | .frameFetch x ckptFails => Sys2Proof.Machine.execFrameFetch x ckptFails s
  | .hopStart x => Sys2Proof.Machine.execHopStart x s
  | .lock x => Sys2Proof.Machine.execLock x s
  | .nolock x pll => Sys2Proof.Machine.execNolock x pll s
  | .lbtMeasurement x power => Sys2Proof.Machine.execLbtMeasurement x power s
  | .airStart x pdet => Sys2Proof.Machine.execAirStart x pdet s
  | .txComplete x underrun => Sys2Proof.Machine.execTxComplete x underrun s
  | .paSensorRead x temp mv => Sys2Proof.Machine.execPaSensorRead x temp mv s
  | .bgcalStart x => Sys2Proof.Machine.execBgcalStart x s
  | .calibrationDone x ok result => Sys2Proof.Machine.execCalibrationDone x ok result s
  | .calreqAll x => Sys2Proof.Machine.execCalreqAll x s
  | .calreqGo x k => Sys2Proof.Machine.execCalreqGo x k s
  | .frqWrite x k f => Sys2Proof.Machine.execFrqWrite x k f s
  | .bucketAdvance r => Sys2Proof.Machine.execBucketAdvance r s
  | .guardLock v => Sys2Proof.Machine.execGuardLock v s
  | .guardFused ok => Sys2Proof.Machine.execGuardFused ok s
  | .ismRxFrame octets status busy foff rssi snr toff => Sys2Proof.Machine.execIsmRxFrame octets status busy foff rssi snr toff s
  | .chainStart => Sys2Proof.Machine.execChainStart s
  | .slotBeacon p n => Sys2Proof.Machine.execSlotBeacon p n s
  | .slotPoll p n head => Sys2Proof.Machine.execSlotPoll p n head s
  | .slotListen p n => Sys2Proof.Machine.execSlotListen p n s
  | .slotWake p n => Sys2Proof.Machine.execSlotWake p n s
  | .slotAlarm p n => Sys2Proof.Machine.execSlotAlarm p n s
  | .macFilter q f => Sys2Proof.Machine.execMacFilter q f s
  | .receiveDecision q mic ckptFails => Sys2Proof.Machine.execReceiveDecision q mic ckptFails s
  | .deferredAckExpiry => Sys2Proof.Machine.execDeferredAckExpiry s
  | .floodCacheExpiry => Sys2Proof.Machine.execFloodCacheExpiry s
  | .expectationEvaluation idx => Sys2Proof.Machine.execExpectationEvaluation idx s
  | .expectationWindowClose idx => Sys2Proof.Machine.execExpectationWindowClose idx s
  | .lostqPop => Sys2Proof.Machine.execLostqPop s
  | .nodeRead idx => Sys2Proof.Machine.execNodeRead idx s
  | .nodeWrite idx => Sys2Proof.Machine.execNodeWrite idx s
  | .nodeAlloc => Sys2Proof.Machine.execNodeAlloc s
  | .nodeRemove idx => Sys2Proof.Machine.execNodeRemove idx s
  | .nodeState idx st => Sys2Proof.Machine.execNodeState idx st s
  | .quarantineExpiry idx => Sys2Proof.Machine.execQuarantineExpiry idx s
  | .portWrite q data sof eof pa => Sys2Proof.Machine.execPortWrite q data sof eof pa s
  | .portRead q upset => Sys2Proof.Machine.execPortRead q upset s
  | .creditReturn q => Sys2Proof.Machine.execCreditReturn q s
  | .creditAudit dq idx found => Sys2Proof.Machine.execCreditAudit dq idx found s
  | .creditModeRestore dq idx => Sys2Proof.Machine.execCreditModeRestore dq idx s
  | .tokenReturn pool n => Sys2Proof.Machine.execTokenReturn pool n s
  | .hrxPop upset => Sys2Proof.Machine.execHrxPop upset s
  | .htxPush tag => Sys2Proof.Machine.execHtxPush tag s
  | .hdqPop upset => Sys2Proof.Machine.execHdqPop upset s
  | .hdqPush v => Sys2Proof.Machine.execHdqPush v s
  | .regionInit v => Sys2Proof.Machine.execRegionInit v s
  | .regionInitDone => Sys2Proof.Machine.execRegionInitDone s
  | .pfxAdd len res => Sys2Proof.Machine.execPfxAdd len res s
  | .pfxDel len => Sys2Proof.Machine.execPfxDel len s
  | .pfxRead len => Sys2Proof.Machine.execPfxRead len s
  | .pfxLookup => Sys2Proof.Machine.execPfxLookup s
  | .rebuild => Sys2Proof.Machine.execRebuild s
  | .pfxCommandDone => Sys2Proof.Machine.execPfxCommandDone s
  | .routeLookup dst tooLong => Sys2Proof.Machine.execRouteLookup dst tooLong s
  | .bridgeForward p dst src vid fcs => Sys2Proof.Machine.execBridgeForward p dst src vid fcs s
  | .agerVisit b => Sys2Proof.Machine.execAgerVisit b s
  | .brLookup => Sys2Proof.Machine.execBrLookup s
  | .brWrite noj => Sys2Proof.Machine.execBrWrite noj s
  | .brDelete noj => Sys2Proof.Machine.execBrDelete noj s
  | .brFlush noj p => Sys2Proof.Machine.execBrFlush noj p s
  | .readidx idx => Sys2Proof.Machine.execReadidx idx s
  | .emLookupEui => Sys2Proof.Machine.execEmLookupEui s
  | .emLookupShort => Sys2Proof.Machine.execEmLookupShort s
  | .emLookupIid => Sys2Proof.Machine.execEmLookupIid s
  | .schedEnqueue e desc word0 word1 => Sys2Proof.Machine.execSchedEnqueue e desc word0 word1 s
  | .selection e => Sys2Proof.Machine.execSelection e s
  | .shaperRefill n => Sys2Proof.Machine.execShaperRefill n s
  | .wakeholdExpiry f => Sys2Proof.Machine.execWakeholdExpiry f s
  | .ageSweep e => Sys2Proof.Machine.execAgeSweep e s
  | .flowIdleExpiry f => Sys2Proof.Machine.execFlowIdleExpiry f s
  | .flowBind => Sys2Proof.Machine.execFlowBind s
  | .flowFree f => Sys2Proof.Machine.execFlowFree f s
  | .flowWake f => Sys2Proof.Machine.execFlowWake f s
  | .flowSleep f => Sys2Proof.Machine.execFlowSleep f s
  | .flowRead f clr => Sys2Proof.Machine.execFlowRead f clr s
  | .policerRead idx clr => Sys2Proof.Machine.execPolicerRead idx clr s
  | .pendSweep v => Sys2Proof.Machine.execPendSweep v s
  | .pendSweepDone => Sys2Proof.Machine.execPendSweepDone s
  | .setmode a arg => Sys2Proof.Machine.execSetmode a arg s
  | .create a key2 => Sys2Proof.Machine.execCreate a key2 s
  | .importWrapped a key2 => Sys2Proof.Machine.execImportWrapped a key2 s
  | .importPlain a key2 => Sys2Proof.Machine.execImportPlain a key2 s
  | .exportObj a key2 obj => Sys2Proof.Machine.execExport a key2 obj s
  | .invalidate a obj => Sys2Proof.Machine.execInvalidate a obj s
  | .keysDelete a obj => Sys2Proof.Machine.execKeysDelete a obj s
  | .readattr a obj => Sys2Proof.Machine.execReadattr a obj s
  | .keysVerify a key2 => Sys2Proof.Machine.execKeysVerify a key2 s
  | .authorise a key2 => Sys2Proof.Machine.execAuthorise a key2 s
  | .newchal a => Sys2Proof.Machine.execNewchal a s
  | .keysCommandDone => Sys2Proof.Machine.execKeysCommandDone s
  | .grantExpiry => Sys2Proof.Machine.execGrantExpiry s
  | .gcmRun open_ => Sys2Proof.Machine.execGcmRun open_ s
  | .gcmDone => Sys2Proof.Machine.execGcmDone s
  | .zeroizeSalt => Sys2Proof.Machine.execZeroizeSalt s
  | .zeroize => Sys2Proof.Machine.execZeroize s
  | .antEnable v => Sys2Proof.Machine.execAntEnable v s
  | .antOpen ma => Sys2Proof.Machine.execAntOpen ma s
  | .antRecover ma => Sys2Proof.Machine.execAntRecover ma s
  | .antShort ma => Sys2Proof.Machine.execAntShort ma s
  | .antRetry => Sys2Proof.Machine.execAntRetry s
  | .assign n v => Sys2Proof.Machine.execAssign n v s
  | .release n v => Sys2Proof.Machine.execRelease n v s
  | .reacq n v => Sys2Proof.Machine.execReacq n v s
  | .searchStart => Sys2Proof.Machine.execSearchStart s
  | .searchDone ok dop => Sys2Proof.Machine.execSearchDone ok dop s
  | .trackEntry n => Sys2Proof.Machine.execTrackEntry n s
  | .pullinTimeout n => Sys2Proof.Machine.execPullinTimeout n s
  | .lossOfLock n => Sys2Proof.Machine.execLossOfLock n s
  | .cycleSlip n => Sys2Proof.Machine.execCycleSlip n s
  | .txtWrite n v => Sys2Proof.Machine.execTxtWrite n v s
  | .measurementEpoch ms => Sys2Proof.Machine.execMeasurementEpoch ms s
  | .navMessage m => Sys2Proof.Machine.execNavMessage m s
  | .spoofWrite a v median agreed cond => Sys2Proof.Machine.execSpoofWrite a v median agreed cond s
  | .refFix v => Sys2Proof.Machine.execRefFix v s
  | .fleetRx f desc => Sys2Proof.Machine.execFleetRx f desc s
  | .slotLost n => Sys2Proof.Machine.execSlotLost n s
  | .slotFree n short => Sys2Proof.Machine.execSlotFree n short s
  | .submit => Sys2Proof.Machine.execSubmit s
  | .cancel idx => Sys2Proof.Machine.execCancel idx s
  | .cancelslot => Sys2Proof.Machine.execCancelslot s
  | .resRead idx => Sys2Proof.Machine.execResRead idx s
  | .reservationTick => Sys2Proof.Machine.execReservationTick s
  | .resultPop => Sys2Proof.Machine.execResultPop s
  | .taskAdd => Sys2Proof.Machine.execTaskAdd s
  | .next n => Sys2Proof.Machine.execNext n s
  | .taskDone idx => Sys2Proof.Machine.execTaskDone idx s
  | .taskFail idx => Sys2Proof.Machine.execTaskFail idx s
  | .taskCancel idx => Sys2Proof.Machine.execTaskCancel idx s
  | .taskRead idx => Sys2Proof.Machine.execTaskRead idx s
  | .go => Sys2Proof.Machine.execGo s
  | .stopInputAssert b samples => Sys2Proof.Machine.execStopInputAssert b samples s
  | .inputStuck b => Sys2Proof.Machine.execInputStuck b s
  | .stopDisc => Sys2Proof.Machine.execStopDisc s
  | .stopSw v => Sys2Proof.Machine.execStopSw v s
  | .latchClear => Sys2Proof.Machine.execLatchClear s
  | .stopFrame n => Sys2Proof.Machine.execStopFrame n s
  | .delayExpiry d silent => Sys2Proof.Machine.execDelayExpiry d silent s
  | .domainEntryComplete d => Sys2Proof.Machine.execDomainEntryComplete d s
  | .domainOn d sealOk => Sys2Proof.Machine.execDomainOn d sealOk s
  | .wkrxFrame crcOk addr => Sys2Proof.Machine.execWkrxFrame crcOk addr s
  | .wkrxJam => Sys2Proof.Machine.execWkrxJam s
  | .wkrxRearm => Sys2Proof.Machine.execWkrxRearm s
  | .vinGlitch => Sys2Proof.Machine.execVinGlitch s
  | .vinLoss vin => Sys2Proof.Machine.execVinLoss vin s
  | .vinGood vin => Sys2Proof.Machine.execVinGood vin s
  | .backupReturn => Sys2Proof.Machine.execBackupReturn s
  | .vinWarn vin => Sys2Proof.Machine.execVinWarn vin s
  | .bakLow mv => Sys2Proof.Machine.execBakLow mv s
  | .vbakCutoff mv => Sys2Proof.Machine.execVbakCutoff mv s
  | .aonPowerOnReset => Sys2Proof.Machine.execAonPowerOnReset s
  | .weekdayAdvance => Sys2Proof.Machine.execWeekdayAdvance s
  | .rtcAlarm n => Sys2Proof.Machine.execRtcAlarm n s
  | .xtalFail => Sys2Proof.Machine.execXtalFail s
  | .xtalGood => Sys2Proof.Machine.execXtalGood s
  | .rtcCapture a snap idx => Sys2Proof.Machine.execRtcCapture a snap idx s
  | .rtcTsnap => Sys2Proof.Machine.execRtcTsnap s
  | .commitTime => Sys2Proof.Machine.execCommitTime s
  | .commitWday => Sys2Proof.Machine.execCommitWday s
  | .rtcCommitApply => Sys2Proof.Machine.execRtcCommitApply s
  | .rtcShiftWrite v => Sys2Proof.Machine.execRtcShiftWrite v s
  | .rtcShiftApply => Sys2Proof.Machine.execRtcShiftApply s
  | .toProvision key => Sys2Proof.Machine.execToProvision key s
  | .fuseOwner key => Sys2Proof.Machine.execFuseOwner key s
  | .toField key => Sys2Proof.Machine.execToField key s
  | .toRma key => Sys2Proof.Machine.execToRma key s
  | .lcFusesDone => Sys2Proof.Machine.execLcFusesDone s
  | .tamperAssert src samples => Sys2Proof.Machine.execTamperAssert src samples s
  | .debugOpen v => Sys2Proof.Machine.execDebugOpen v s
  | .openingDone => Sys2Proof.Machine.execOpeningDone s
  | .debugClose => Sys2Proof.Machine.execDebugClose s
  | .coreHalt mask => Sys2Proof.Machine.execCoreHalt mask s
  | .coreStep mask => Sys2Proof.Machine.execCoreStep mask s
  | .domainFreeze mask => Sys2Proof.Machine.execDomainFreeze mask s
  | .lockoutExpiry => Sys2Proof.Machine.execLockoutExpiry s
  | .extest => Sys2Proof.Machine.execExtest s
  | .samplePreload => Sys2Proof.Machine.execSamplePreload s
  | .idcode => Sys2Proof.Machine.execIdcode s
  | .bypass code => Sys2Proof.Machine.execBypass code s
  | .dbgacc write a v => Sys2Proof.Machine.execDbgacc write a v s
  | .piece t => Sys2Proof.Machine.execPiece t s
  | .erase t => Sys2Proof.Machine.execErase t s
  | .updVerify => Sys2Proof.Machine.execUpdVerify s
  | .updRelease v => Sys2Proof.Machine.execUpdRelease v s
  | .loadslot => Sys2Proof.Machine.execLoadslot s
  | .updCommit => Sys2Proof.Machine.execUpdCommit s
  | .updRevert => Sys2Proof.Machine.execUpdRevert s
  | .setw => Sys2Proof.Machine.execSetw s
  | .setfind => Sys2Proof.Machine.execSetfind s
  | .setdel => Sys2Proof.Machine.execSetdel s
  | .pgret => Sys2Proof.Machine.execPgret s
  | .updCommandDone => Sys2Proof.Machine.execUpdCommandDone s
  | .listHashDone t => Sys2Proof.Machine.execListHashDone t s
  | .imageHashDone t => Sys2Proof.Machine.execImageHashDone t s
  | .trialExpiry => Sys2Proof.Machine.execTrialExpiry s
  | .revertTimeout => Sys2Proof.Machine.execRevertTimeout s
  | .bankApply b => Sys2Proof.Machine.execBankApply b s
  | .hostStg b => Sys2Proof.Machine.execHostStg b s
  | .hostChk b => Sys2Proof.Machine.execHostChk b s
  | .hostBlk b kind => Sys2Proof.Machine.execHostBlk b kind s
  | .bankClear b => Sys2Proof.Machine.execBankClear b s
  | .bankDisarm b => Sys2Proof.Machine.execBankDisarm b s
  | .faultDetected cls block detail value => Sys2Proof.Machine.execFaultDetected cls block detail value s
  | .recoveryComplete seq ok => Sys2Proof.Machine.execRecoveryComplete seq ok s
  | .faultWindowExpiry w => Sys2Proof.Machine.execFaultWindowExpiry w s
  | .throttleEnd => Sys2Proof.Machine.execThrottleEnd s
  | .eccCorrected addr uncorrectable => Sys2Proof.Machine.execEccCorrected addr uncorrectable s
  | .faultInject v => Sys2Proof.Machine.execFaultInject v s
  | .availClear v => Sys2Proof.Machine.execAvailClear v s
  | .availCheckpoint => Sys2Proof.Machine.execAvailCheckpoint s
  | .recordWrite => Sys2Proof.Machine.execRecordWrite s
  | .rateLimitIntervalEnd code key => Sys2Proof.Machine.execRateLimitIntervalEnd code key s
  | .evrWindowRead ag => Sys2Proof.Machine.execEvrWindowRead ag s
  | .journalAppend kind core cyc arg data full => Sys2Proof.Machine.execJournalAppend kind core cyc arg data full s
  | .checkpoint => Sys2Proof.Machine.execCheckpoint s
  | .freeze key => Sys2Proof.Machine.execFreeze key s
  | .unfreeze key => Sys2Proof.Machine.execUnfreeze key s
  | .iqStop idx0 idx1 => Sys2Proof.Machine.execIqStop idx0 idx1 s
  | .replayInput c outs ask => Sys2Proof.Machine.execReplayInput c outs ask s
  | .replayEnd => Sys2Proof.Machine.execReplayEnd s
  | .resetNAssert samples => Sys2Proof.Machine.execResetNAssert samples s
  | .resetNRelease bootsel => Sys2Proof.Machine.execResetNRelease bootsel s
  | .resetApply bootsel => Sys2Proof.Machine.execResetApply bootsel s
  | .rstoutRelease => Sys2Proof.Machine.execRstoutRelease s
  | .uartFrame payload crcOk => Sys2Proof.Machine.execUartFrame payload crcOk s
  | .mdioC22Write phy reg => Sys2Proof.Machine.execMdioC22Write phy reg s
  | .mdioC22Read phy reg => Sys2Proof.Machine.execMdioC22Read phy reg s
  | .mdioC45Address phy reg => Sys2Proof.Machine.execMdioC45Address phy reg s
  | .mdioC45Write phy reg => Sys2Proof.Machine.execMdioC45Write phy reg s
  | .mdioC45Read phy reg => Sys2Proof.Machine.execMdioC45Read phy reg s
  | .mdioDone data => Sys2Proof.Machine.execMdioDone data s
  | .perst => Sys2Proof.Machine.execPerst s
  | .ringTailWrite k v => Sys2Proof.Machine.execRingTailWrite k v s
  | .ringDeviceToHost k size len err upset => Sys2Proof.Machine.execRingDeviceToHost k size len err upset s
  | .ringHostToDevice k len err upset => Sys2Proof.Machine.execRingHostToDevice k len err upset s
  | .qstWrite a v octets => Sys2Proof.Machine.execQstWrite a v octets s
  | .qstRead a octets late upset => Sys2Proof.Machine.execQstRead a octets late upset s
  | .uartRxByte b => Sys2Proof.Machine.execUartRxByte b s
  | .uartTxPush b => Sys2Proof.Machine.execUartTxPush b s
  | .uartRxPop => Sys2Proof.Machine.execUartRxPop s
  | .gpioEdge n level held => Sys2Proof.Machine.execGpioEdge n level held s
  | .gpioRelease => Sys2Proof.Machine.execGpioRelease s
  | .registerWrite ag a v => Sys2Proof.Machine.execRegisterWrite ag a v s
  | .stopInputRelease b => Sys2Proof.Machine.execStopInputRelease b s
  | .tamperInputRelease src => Sys2Proof.Machine.execTamperInputRelease src s
  | .pcieLinkChange link speed msi => Sys2Proof.Machine.execPcieLinkChange link speed msi s
  | .vbakPresentChange mv => Sys2Proof.Machine.execVbakPresentChange mv s
  | .vbakReconnect => Sys2Proof.Machine.execVbakReconnect s
  | .tqLocked => Sys2Proof.Machine.execTqLocked s
  | .preambleCorrelation c rate => Sys2Proof.Machine.execPreambleCorrelation c rate s
  | .bitSynchronisation n => Sys2Proof.Machine.execBitSynchronisation n s
  | .programSwapEnd c => Sys2Proof.Machine.execProgramSwapEnd c s
  | .replayStart => Sys2Proof.Machine.execReplayStart s
  | .emramStatesResolved => Sys2Proof.Machine.execEmramStatesResolved s
  | .pathCalRetry p => Sys2Proof.Machine.execPathCalRetry p s

end Sys2Proof.Machine
end

