-- ==== Sys2Proof/Safety.lean ====
section
/-!
DEFINITION. Sys2Proof/Safety.lean: the terms in which the statements speak of the machine: when a core carries out an
instruction, and what "nothing else" means.
-/
namespace Sys2Proof.Machine

/-- Core `c` carries out the instruction that it is given: it issues (RUNNING, its domain ON, not frozen, not halted but for a
single step), and its pc lies where it may fetch. -/
def State.runs (s : State) (c : Fin 8) : Bool := s.issues c && fetchable (s.core c).pc.toNat

/-- The state that an instruction of core `c` acts on: a single step that the debugger asked for is used up. -/
def State.begun (s : State) (c : Fin 8) : State :=
  if (s.core c).dbgStep then s.modCore c fun k => { k with dbgStep := false } else s

/-- Core `c` is RUNNING, its pc at an instruction it may fetch, with no single step asked for. -/
def State.plain (s : State) (c : Fin 8) : Bool := s.runs c && !(s.core c).dbgStep

/-- From `s` to `t` core `c` has written `v` to `gd` (g0 discards it) and set its pc; a single step may be used up; nothing else
has changed, in the core, in another core or elsewhere. -/
structure Wrote (s t : State) (c : Fin 8) (gd : Fin 16) (v pc : Word) : Prop where
  value : t.gpr c gd = if gd = 0 then 0 else v
  others : ∀ r, r ≠ gd → t.gpr c r = s.gpr c r
  pc : (t.core c).pc = pc
  core : { t.core c with gpr := (s.core c).gpr, pc := (s.core c).pc, dbgStep := (s.core c).dbgStep } = s.core c
  cores : ∀ k, k ≠ c → t.core k = s.core k
  rest : { t with cores := s.cores } = s

/-- Core `c` has written `v` to `gd` and gone on to the next instruction, and nothing else. -/
abbrev WroteOne (s t : State) (c : Fin 8) (gd : Fin 16) (v : Word) : Prop := Wrote s t c gd v ((s.core c).pc + 4)

/-- Core `c` has set its pc, and nothing else. -/
abbrev Moved (s t : State) (c : Fin 8) (pc : Word) : Prop := Wrote s t c 0 0 pc

/-- The register blocks in which telling of something shows: PWR, SEQ, HOST and LOG. -/
def signalBlock (a : Nat) : Bool :=
  a / 0x10000 == 0x4001 || a / 0x10000 == 0x4004 || a / 0x10000 == 0x4010 || a / 0x10000 == 0x4011

/-- From `s` to `t` something has been told of, by events, records, wakes or host interrupts, and nothing else has changed: event
lines, a WFE that an event ends, domain states, the recorder's queues, and registers of PWR, SEQ, HOST and LOG may differ. -/
structure Signals (s t : State) : Prop where
  rest : { t with regs := s.regs, cores := s.cores, power := s.power, rep := s.rep } = s
  power : { t.power with dom := s.power.dom } = s.power
  rep : { t.rep with queue := s.rep.queue, aon := s.rep.aon, rates := s.rep.rates } = s.rep
  cores : ∀ k, { t.core k with run := (s.core k).run, evpend := (s.core k).evpend, arrival := (s.core k).arrival,
                               held := (s.core k).held } = s.core k
  regs : ∀ a, signalBlock a = false → t.rd a = s.rd a

/-- Core `c` carries out a device instruction whose units lie in `doms`: it runs, they are ON, and no replay answers for it. -/
def State.able (s : State) (c : Fin 8) (doms : List Nat) : Bool := s.runs c && s.mode != 9 && doms.all s.isOn

/-- From `s` to `t` an instruction of core `c` has returned `v` in `gd` (g0 discards it), left the core's other registers, and gone
on. -/
structure Returned (s t : State) (c : Fin 8) (gd : Fin 16) (v : Word) : Prop where
  value : t.gpr c gd = if gd = 0 then 0 else v
  others : ∀ r, r ≠ gd → t.gpr c r = s.gpr c r
  pc : (t.core c).pc = (s.core c).pc + 4

/-- From `s` to `t` nothing is stored in memory and no core's general registers or pc change. -/
structure Calm (s t : State) : Prop where
  mem : t.mem = s.mem
  gpr : ∀ c r, t.gpr c r = s.gpr c r
  pc : ∀ c, (t.core c).pc = (s.core c).pc

/-- From `s` to `t` only registers of the blocks at 0x40000000 + 0x10000 × n, `n` in `blocks`, have changed, with what telling of
events and records changes; nothing is stored in memory, and no core's general registers or pc change. -/
structure Within (blocks : List Nat) (s t : State) : Prop where
  regs : ∀ a, blocks.contains (a / 0x10000 - 0x4000) = false → signalBlock a = false → t.rd a = s.rd a
  calm : Calm s t

/-- The canonical form of everything sparse that software can reach: the byte memory and the registers. -/
def State.canonical (s : State) : Prop := Memory.wf s.mem = true ∧ tabWf regReset s.regs = true

end Sys2Proof.Machine
end

