-- ==== Sys2Proof/Certificates/Slice0/Obligations.lean ====
section
/-!
DEFINITION. Sys2Proof/Certificates/Slice0/Obligations.lean: the statements for the provers. Each holds for every state and operands
that meet its hypotheses; its docstring names the rules of spec/ that it formalises. A statement about a free value holds for every
value of it (log entry 2).
-/

open Sys2Proof Sys2Proof.Machine

/-- A step with a command at the front of the queue is that command carried out on the state with the queue's rest. With no
command waiting a step answers a next state in which still none waits and the model's clock is one ns on (the model's choice, log
entry 10). -/
def Obligations.StepRunsTheFrontCommandOrIdles : Prop :=
  (∀ (c : Instr) (rest : List Instr) (s : State), step { s with pending := c :: rest } = exec c { s with pending := rest }) ∧
  (∀ (s : State), s.pending = [] → ∃ t, step s = .next t ∧ t.pending = [] ∧ t.clock = s.clock + 1)

/-- Table 02-5, register forms: each writes its result to gd, and nothing else changes but the pc (R24, R27). Table 02-5,
immediate forms: ADDI, SLTI and SLTIU take imm18 sign-extended, ANDI, ORI, XORI and LUI zero-extended (R26); SHI shifts by
imm18[4:0] with the kind in imm18[6:5]; each writes its result to gd and nothing else changes but the pc. CLZ with gb = g0 counts
the leading zeros of ga (Table 02-5): 32 for zero, else the n with 2^(31−n) ≤ ga < 2^(32−n). -/
def Obligations.AluInstructionsWriteTheirResult : Prop :=
  (∀ (c : Fin 8) (gd ga gb : Fin 16) (s : State), s.runs c = true →
     let a := s.gpr c ga
     let b := s.gpr c gb
     (∃ t, exec (.add c gd ga gb) s = .next t ∧ WroteOne s t c gd (a + b)) ∧
     (∃ t, exec (.sub c gd ga gb) s = .next t ∧ WroteOne s t c gd (a - b)) ∧
     (∃ t, exec (.and c gd ga gb) s = .next t ∧ WroteOne s t c gd (a &&& b)) ∧
     (∃ t, exec (.or c gd ga gb) s = .next t ∧ WroteOne s t c gd (a ||| b)) ∧
     (∃ t, exec (.xor c gd ga gb) s = .next t ∧ WroteOne s t c gd (a ^^^ b)) ∧
     (∃ t, exec (.sll c gd ga gb) s = .next t ∧ WroteOne s t c gd (a <<< (b.toNat % 32))) ∧
     (∃ t, exec (.srl c gd ga gb) s = .next t ∧ WroteOne s t c gd (a >>> (b.toNat % 32))) ∧
     (∃ t, exec (.sra c gd ga gb) s = .next t ∧ WroteOne s t c gd (a.sshiftRight (b.toNat % 32))) ∧
     (∃ t, exec (.slt c gd ga gb) s = .next t ∧ WroteOne s t c gd (if a.toInt < b.toInt then 1 else 0)) ∧
     (∃ t, exec (.sltu c gd ga gb) s = .next t ∧ WroteOne s t c gd (if a.toNat < b.toNat then 1 else 0)) ∧
     (∃ t, exec (.mul c gd ga gb) s = .next t ∧ WroteOne s t c gd (BitVec.ofNat 32 (a.toNat * b.toNat))) ∧
     (∃ t, exec (.mulhu c gd ga gb) s = .next t ∧ WroteOne s t c gd (BitVec.ofNat 32 (a.toNat * b.toNat / 2 ^ 32))) ∧
     (∃ t, exec (.mulh c gd ga gb) s = .next t ∧ WroteOne s t c gd (BitVec.ofInt 32 (a.toInt * b.toInt / 2 ^ 32))) ∧
     (∃ t, exec (.min c gd ga gb) s = .next t ∧ WroteOne s t c gd (if a.toInt ≤ b.toInt then a else b)) ∧
     (∃ t, exec (.max c gd ga gb) s = .next t ∧ WroteOne s t c gd (if a.toInt ≤ b.toInt then b else a)) ∧
     (∃ t, exec (.divu c gd ga gb) s = .next t ∧
       WroteOne s t c gd (if b = 0 then 0xFFFFFFFF else BitVec.ofNat 32 (a.toNat / b.toNat))) ∧
     (∃ t, exec (.remu c gd ga gb) s = .next t ∧ WroteOne s t c gd (if b = 0 then a else BitVec.ofNat 32 (a.toNat % b.toNat)))) ∧
  (∀ (c : Fin 8) (gd ga : Fin 16) (imm : BitVec 18) (s : State), s.runs c = true →
     let a := s.gpr c ga
     let sx := imm.signExtend 32
     let zx := imm.zeroExtend 32
     (∃ t, exec (.addi c gd ga imm) s = .next t ∧ WroteOne s t c gd (a + sx)) ∧
     (∃ t, exec (.andi c gd ga imm) s = .next t ∧ WroteOne s t c gd (a &&& zx)) ∧
     (∃ t, exec (.ori c gd ga imm) s = .next t ∧ WroteOne s t c gd (a ||| zx)) ∧
     (∃ t, exec (.xori c gd ga imm) s = .next t ∧ WroteOne s t c gd (a ^^^ zx)) ∧
     (∃ t, exec (.slti c gd ga imm) s = .next t ∧ WroteOne s t c gd (if a.toInt < sx.toInt then 1 else 0)) ∧
     (∃ t, exec (.sltiu c gd ga imm) s = .next t ∧ WroteOne s t c gd (if a.toNat < sx.toNat then 1 else 0)) ∧
     (∃ t, exec (.lui c gd 0 imm) s = .next t ∧ WroteOne s t c gd (zx <<< 14)) ∧
     (imm.toNat < 32 → ∃ t, exec (.shi c gd ga imm) s = .next t ∧ WroteOne s t c gd (a <<< imm.toNat)) ∧
     (32 ≤ imm.toNat → imm.toNat < 64 →
       ∃ t, exec (.shi c gd ga imm) s = .next t ∧ WroteOne s t c gd (a >>> (imm.toNat - 32))) ∧
     (64 ≤ imm.toNat → imm.toNat < 96 →
       ∃ t, exec (.shi c gd ga imm) s = .next t ∧ WroteOne s t c gd (a.sshiftRight (imm.toNat - 64)))) ∧
  (∀ (c : Fin 8) (gd ga : Fin 16) (s : State), s.runs c = true →
     ∃ t n, exec (.clz c gd ga 0) s = .next t ∧ WroteOne s t c gd (BitVec.ofNat 32 n) ∧
       (s.gpr c ga = 0 → n = 32) ∧
       (s.gpr c ga ≠ 0 → n < 32 ∧ 2 ^ (31 - n) ≤ (s.gpr c ga).toNat ∧ (s.gpr c ga).toNat < 2 ^ (32 - n)))

/-- Table 02-7: BCS and BCU go to their own address plus 4 × off14 when their condition holds (BCS EQ, NE, LT, GE, signed; BCU
LTU, GEU, BTST, BTCLR by cond2 0 to 3) and to the next instruction when it does not, and change nothing else (R26, R27). JAL and
JALR write the address of the next instruction to gd, whatever register that is, and go to pc + 4 × imm18 and to ga + imm18 with
bits [1:0] cleared (R24, R26, R27; Table 02-7); NOP only goes on. -/
def Obligations.BranchesAndJumpsGoWhereTheySay : Prop :=
  (∀ (c : Fin 8) (ga gb : Fin 16) (off : BitVec 14) (s : State), s.runs c = true →
     let a := s.gpr c ga
     let b := s.gpr c gb
     let pc := (s.core c).pc
     let dest := pc + 4 * off.signExtend 32
     (∃ t, exec (.bcs c ga gb 0 0 off) s = .next t ∧ Moved s t c (if a = b then dest else pc + 4)) ∧
     (∃ t, exec (.bcs c ga gb 1 0 off) s = .next t ∧ Moved s t c (if a ≠ b then dest else pc + 4)) ∧
     (∃ t, exec (.bcs c ga gb 2 0 off) s = .next t ∧ Moved s t c (if a.toInt < b.toInt then dest else pc + 4)) ∧
     (∃ t, exec (.bcs c ga gb 3 0 off) s = .next t ∧ Moved s t c (if b.toInt ≤ a.toInt then dest else pc + 4)) ∧
     (∃ t, exec (.bcu c ga gb 0 0 off) s = .next t ∧ Moved s t c (if a.toNat < b.toNat then dest else pc + 4)) ∧
     (∃ t, exec (.bcu c ga gb 1 0 off) s = .next t ∧ Moved s t c (if b.toNat ≤ a.toNat then dest else pc + 4)) ∧
     (∃ t, exec (.bcu c ga gb 2 0 off) s = .next t ∧ Moved s t c (if a &&& b ≠ 0 then dest else pc + 4)) ∧
     (∃ t, exec (.bcu c ga gb 3 0 off) s = .next t ∧ Moved s t c (if a &&& b = 0 then dest else pc + 4))) ∧
  (∀ (c : Fin 8) (gd ga : Fin 16) (imm : BitVec 18) (s : State), s.runs c = true →
     let pc := (s.core c).pc
     (∃ t, exec (.jal c gd 0 imm) s = .next t ∧ Wrote s t c gd (pc + 4) (pc + 4 * imm.signExtend 32)) ∧
     (∃ t, exec (.jalr c gd ga imm) s = .next t ∧
       Wrote s t c gd (pc + 4) ((s.gpr c ga + imm.signExtend 32) &&& 0xFFFFFFFC)) ∧
     (∃ t, exec (.nop c 0) s = .next t ∧ Moved s t c (pc + 4)))

/-- R26: an instruction with a non-zero reserved bit, CLZ with gb, LUI or JAL with ga not g0, or SHI with a reserved kind or bit
changes no register: the core goes on at the next word and the event ILLEGAL_INSN is raised with LASTEV 3 (log entries 4, 9). -/
def Obligations.ReservedBitsRaiseIllegalInsn : Prop :=
  ∀ (c : Fin 8) (gd ga gb : Fin 16) (imm : BitVec 18) (off : BitVec 14) (cond rsv : BitVec 2) (s : State), s.runs c = true →
    let t := ((s.begun c).advance c).coreEvent c 3
    (∀ k r, t.gpr k r = s.gpr k r) ∧ (t.core c).pc = (s.core c).pc + 4 ∧ (t.core c).lastev = 3 ∧
    (rsv ≠ 0 →
      exec (.bcs c ga gb cond rsv off) s = .next t ∧ exec (.bcu c ga gb cond rsv off) s = .next t ∧
      exec (.nop c rsv) s = .next t ∧ exec (.wfe c rsv) s = .next t ∧ exec (.rete c rsv) s = .next t ∧
      exec (.fence c rsv) s = .next t) ∧
    (gb ≠ 0 → exec (.clz c gd ga gb) s = .next t) ∧
    (ga ≠ 0 → exec (.lui c gd ga imm) s = .next t ∧ exec (.jal c gd ga imm) s = .next t) ∧
    ((128 ≤ imm.toNat ∨ imm.toNat / 32 % 4 = 3) → exec (.shi c gd ga imm) s = .next t) ∧
    ((s.core c).level = 0 → exec (.rete c 0) s = .next t)

/-- R25: MFS reads the special registers of Table 02-3 and 0 at a number not listed; a read of CYCLO captures CYCHI. R25: MTS
writes the RW registers of Table 02-3, each to its own place and only there; RO and unlisted numbers ignore it, and the watchdog
value 0x5AFE restarts the watchdog. -/
def Obligations.SpecialRegistersAreReadAndWritten : Prop :=
  (∀ (c : Fin 8) (gd : Fin 16) (n : BitVec 18) (s : State), s.runs c = true →
     let k := s.core c
     let v : Word := match n.toNat with
       | 0x000 => BitVec.ofNat 32 c.val
       | 0x001 => BitVec.ofNat 32 (16 * k.level.val + k.even.toNat)
       | 0x002 => k.evage
       | 0x003 => k.evpend
       | 0x004 => k.evmask
       | 0x005 => k.evlvl0
       | 0x006 => k.evlvl1
       | 0x007 => k.evvec
       | 0x008 => BitVec.ofNat 32 (k.evline.get k.level).val
       | 0x010 => k.epc.get 0
       | 0x011 => k.epc.get 1
       | 0x012 => k.epc.get 2
       | 0x014 => k.estat.get 0
       | 0x015 => k.estat.get 1
       | 0x016 => k.estat.get 2
       | 0x020 => k.cyc.setWidth 32
       | 0x021 => k.cychi
       | 0x024 => k.stgmask
       | 0x030 => k.dmasrc
       | 0x031 => k.dmadst
       | 0x032 => k.dmalen
       | 0x033 => k.dmactl
       | _ => 0
     ∃ t, exec (.mfs c gd n) s = .next t ∧ t.gpr c gd = (if gd = 0 then 0 else v) ∧
       (∀ r, r ≠ gd → t.gpr c r = s.gpr c r) ∧ (t.core c).pc = k.pc + 4 ∧
       (t.core c).cychi = (if n.toNat = 0x020 then (k.cyc >>> 32).setWidth 32 else k.cychi) ∧
       { t with cores := s.cores } = s ∧ (∀ j, j ≠ c → t.core j = s.core j)) ∧
  (∀ (c : Fin 8) (ga : Fin 16) (s : State), s.plain c = true →
     let v := s.gpr c ga
     let k := { s.core c with pc := (s.core c).pc + 4 }
     let put (j : Core) : State := s.modCore c fun _ => j
     exec (.mts c ga 0x001) s = .next (put { k with even := v.getLsbD 0 }) ∧
     exec (.mts c ga 0x004) s = .next (put { k with evmask := v }) ∧
     exec (.mts c ga 0x005) s = .next (put { k with evlvl0 := v }) ∧
     exec (.mts c ga 0x006) s = .next (put { k with evlvl1 := v }) ∧
     exec (.mts c ga 0x007) s = .next (put { k with evvec := v &&& 0xFFFFF800 }) ∧
     exec (.mts c ga 0x010) s = .next (put { k with epc := k.epc.set 0 v }) ∧
     exec (.mts c ga 0x011) s = .next (put { k with epc := k.epc.set 1 v }) ∧
     exec (.mts c ga 0x012) s = .next (put { k with epc := k.epc.set 2 v }) ∧
     exec (.mts c ga 0x014) s = .next (put { k with estat := k.estat.set 0 (v &&& 0x31) }) ∧
     exec (.mts c ga 0x015) s = .next (put { k with estat := k.estat.set 1 (v &&& 0x31) }) ∧
     exec (.mts c ga 0x016) s = .next (put { k with estat := k.estat.set 2 (v &&& 0x31) }) ∧
     exec (.mts c ga 0x024) s = .next (put { k with stgmask := v }) ∧
     (v = 0x5AFE → exec (.mts c ga 0x028) s = .next (put { k with wdogAt := k.cyc })) ∧
     exec (.mts c ga 0x030) s = .next (put { k with dmasrc := v }) ∧
     exec (.mts c ga 0x031) s = .next (put { k with dmadst := v }) ∧
     exec (.mts c ga 0x032) s = .next (put { k with dmalen := v }) ∧
     (∀ n : BitVec 18, n.toNat ∉ [0x001, 0x004, 0x005, 0x006, 0x007, 0x010, 0x011, 0x012, 0x014, 0x015, 0x016, 0x024, 0x028,
       0x030, 0x031, 0x032, 0x033] → exec (.mts c ga n) s = .next (put k)))

/-- R38, Table 02-11: entering the handler of line i, the one `nextLine` picks (R40), at its level n: EPCn and ESTATn take the pc
and STATUS, the level and the running line change, the pc is EVVEC + 64 × i, the line is no longer pending, and at L3 g10–g13 are
exchanged with the L3 bank (R24). R38: RETE at level n restores the pc from EPCn and LEVEL and EVEN from ESTATn. R38: with every
pending enabled line at or below the running level nothing is entered; with one above it, and let in by EVEN or at L3, a line of
the highest such level is entered next. -/
def Obligations.EventsEnterAndReturn : Prop :=
  (∀ (c : Fin 8) (i : Fin 32) (n : Fin 3) (s : State), s.takesEvents c = true → (s.core c).nextLine = some i.val →
     (s.core c).lineLevel i.val = n.val + 1 →
     let k := s.core c
     ∃ t, exec (.eventEntry c) s = .next t ∧
       (t.core c).run = .running ∧ (t.core c).pc = k.evvec + BitVec.ofNat 32 (64 * i.val) ∧
       (t.core c).epc.get n = k.pc ∧ (t.core c).estat.get n = BitVec.ofNat 32 (16 * k.level.val + k.even.toNat) ∧
       (t.core c).level.val = n.val + 1 ∧ (t.core c).even = k.even ∧
       (t.core c).evline.get (t.core c).level = i ∧ (t.core c).evpend.getLsbD i.val = false ∧
       (∀ j : Fin 32, j ≠ i → (t.core c).evpend.getLsbD j.val = k.evpend.getLsbD j.val) ∧
       (∀ r : Fin 16, ¬(n = 2 ∧ 10 ≤ r.val ∧ r.val ≤ 13) → t.gpr c r = s.gpr c r) ∧
       (n = 2 → (t.core c).gpr.get 10 = k.l3.get 0 ∧ (t.core c).gpr.get 11 = k.l3.get 1 ∧
         (t.core c).gpr.get 12 = k.l3.get 2 ∧ (t.core c).gpr.get 13 = k.l3.get 3 ∧
         (t.core c).l3.toList = [k.gpr.get 10, k.gpr.get 11, k.gpr.get 12, k.gpr.get 13]) ∧
       (∀ j, j ≠ c → t.core j = s.core j) ∧ (∀ a, t.byte a = s.byte a)) ∧
  (∀ (c : Fin 8) (n : Fin 3) (s : State), s.runs c = true → (s.core c).level.val = n.val + 1 →
     let k := s.core c
     ∃ t, exec (.rete c 0) s = .next t ∧ (t.core c).pc = k.epc.get n ∧
       (t.core c).level.val = (k.estat.get n).toNat / 16 % 4 ∧ (t.core c).even = (k.estat.get n).getLsbD 0 ∧
       (∀ j, j ≠ c → t.core j = s.core j) ∧ { t with cores := s.cores } = s) ∧
  (∀ (c : Fin 8) (s : State), s.takesEvents c = true →
     let k := s.core c
     let due (i : Fin 32) : Prop := k.evpend.getLsbD i.val = true ∧ k.evmask.getLsbD i.val = true
     ((∀ i, due i → k.lineLevel i.val ≤ k.level.val) → exec (.eventEntry c) s = .next s) ∧
     (∀ i, due i → k.level.val < k.lineLevel i.val → k.even = true ∨ k.lineLevel i.val = 3 →
       ∃ j, k.nextLine = some j ∧ k.level.val < k.lineLevel j ∧ k.lineLevel i.val ≤ k.lineLevel j))

/-- R29: at RETE a result latched at the level returned to is written to its register, and a committed instruction that still
waits there waits on; other registers stay, but for the L3 bank exchange at level 3 (that there is a latch for each level is the
model's reading, log entry 11). R24: an L3 entry and the RETE from L3 exchange g10–g13 with the L3 bank, so an entry and its
return leave both as they were. R27, R36: with no enabled event pending WFE stops issue, its pc at the next instruction, and a RET
of the core's own domain that waits for it proceeds; with one pending it only goes on. FENCE with an empty write buffer goes on;
with one store of the shared scratch or DRAM buffered that store completes first. Tables 02-3, 02-16 and 17-1: a watchdog that is
set and expires, and a value other than 0x5AFE written to WDOG, are told of as the faults WDOG and WDOG_BADKICK of the core, with
LASTEV 4 and 5 and the watchdog restarted; at half the period the core's event 0x02 is raised. -/
def Obligations.LatchedResultsWaitsAndTheWatchdog : Prop :=
  (∀ (c : Fin 8) (n : Fin 3) (s : State), s.runs c = true → (s.core c).level.val = n.val + 1 →
     let k := s.core c
     let back : Fin 4 := ⟨(k.estat.get n).toNat / 16 % 4, Nat.mod_lt _ (by decide)⟩
     ∃ t, exec (.rete c 0) s = .next t ∧ (t.core c).latch.get back = none ∧
       (∀ gd v, k.latch.get back = some (.done gd v) → t.gpr c gd = if gd = 0 then 0 else v) ∧
       (∀ w, k.latch.get back = some (.waiting w) → (t.core c).run = .waiting w) ∧
       (k.latch.get back = none → (t.core c).run = .running ∧
         ∀ r : Fin 16, ¬(n = 2 ∧ 10 ≤ r.val ∧ r.val ≤ 13) → t.gpr c r = s.gpr c r) ∧
       (∀ j, j ≠ c → t.core j = s.core j) ∧ { t with cores := s.cores } = s) ∧
  (∀ (c : Fin 8) (i : Fin 32) (s t u : State), s.takesEvents c = true → (s.core c).run = .running →
     (s.core c).nextLine = some i.val → (s.core c).lineLevel i.val = 3 → (s.core c).level.val < 3 →
     (s.core c).latch.get (s.core c).level = none →
     exec (.eventEntry c) s = .next t → t.runs c = true → exec (.rete c 0) t = .next u →
     (u.core c).gpr = (s.core c).gpr ∧ (u.core c).l3 = (s.core c).l3 ∧ (u.core c).pc = (s.core c).pc ∧
     (u.core c).level = (s.core c).level ∧ (u.core c).even = (s.core c).even) ∧
  (∀ (c : Fin 8) (s : State), s.runs c = true →
     ((s.core c).evpend &&& (s.core c).evmask = 0 → ∃ t, exec (.wfe c 0) s = .next t ∧
       (t.core c).run = .wfe ∧ (t.core c).pc = (s.core c).pc + 4 ∧ (∀ r, t.gpr c r = s.gpr c r) ∧ t.regs = s.regs ∧ t.mem = s.mem ∧
       ((s.dom (coreDom c)).hold = some (.wfe c) → (t.dom (coreDom c)).hold = none)) ∧
     ((s.core c).evpend &&& (s.core c).evmask ≠ 0 → ∃ t, exec (.wfe c 0) s = .next t ∧ Moved s t c ((s.core c).pc + 4)) ∧
     ((s.core c).wbuf = [] → ∃ t, exec (.fence c 0) s = .next t ∧ Moved s t c ((s.core c).pc + 4)) ∧
     (∀ b : BufStore, (s.core c).wbuf = [b] → areaOf b.addr = .shared ∨ (areaOf b.addr = .dram ∧ s.isOn 9 = true) →
       ∃ t, exec (.fence c 0) s = .next t ∧ (t.core c).wbuf = [] ∧ (t.core c).pc = (s.core c).pc + 4 ∧
         t.loadN b.addr b.width = b.val.toNat % 256 ^ b.width ∧
         (∀ a, a < b.addr ∨ b.addr + b.width ≤ a → t.byte a = s.byte a) ∧ t.regs = s.regs)) ∧
  (∀ (c : Fin 8) (ga : Fin 16) (s : State),
     let told (cls : Nat) (last : Fin 8) (s : State) : State :=
       (s.modCore c fun k => { k with lastev := last, wdogAt := k.cyc }).fault cls (coreBlock c) c.val 0
     (s.fld (SEQ_CTLn c.val) 31 28 ≠ 0 → s.isOn (coreDom c) = true →
       exec (.wdog c) s = .next (told 1 4 s) ∧ exec (.wdogWarn c) s = .next (s.raise (coreBlock c) 0x02)) ∧
     (s.plain c = true → s.gpr c ga ≠ 0x5AFE → exec (.mts c ga 0x028) s = .next (told 2 5 (s.advance c))))

/-- Table 02-3: GO with a length that is a multiple of 8, at most 65,536, and both ranges inside their regions sets BUSY; GO while
BUSY is ignored and sets ERR, as does GO outside the regions. DMA_DONE copies the bytes where no image is locked, changes no other
byte, clears BUSY and raises the line of DMACTL[8:4]. R46, R47: a ring of an unretired core's inbound doorbell sets IN_FULL; one
while it is set counts in IN_BUSY and changes nothing; one of a retired core without a successor sets IN_RETIRED. A ring of the
outbound doorbell sets OUT_FULL, or counts in OUT_BUSY. R51: setting one core's bit in SEQ_RETIRE, not the boot core's, retires
that core: RETIRED, its TARM slots cancelled, its mark set; its registers stay. A bit already set is not cleared outside MAINT.
Where the rules are silent or can be read in two ways, the clauses follow the model's choices of log entry 16. -/
def Obligations.DmaDoorbellsAndRetirement : Prop :=
  (∀ (c : Fin 8) (v : Word) (s : State),
     let k := s.core c
     let n := k.dmalen.toNat
     let dst := corePhys c k.dmadst.toNat
     let src := corePhys c k.dmasrc.toNat
     (s.issues c = true → k.dmactl.getLsbD 31 = false → n % 8 = 0 → n ≤ 65536 → s.dmaRange c k.dmasrc.toNat n false = true →
       s.dmaRange c k.dmadst.toNat n true = true → ∃ t, exec (.dmaGo c v) s = .next t ∧
         (t.core c).dmactl = BitVec.ofNat 32 (2 ^ 31 + 16 * (v.toNat / 16 % 32)) ∧
         { t with cores := s.cores } = s ∧ { t.core c with dmactl := k.dmactl } = k) ∧
     (s.issues c = true → k.dmactl.getLsbD 31 = false →
       (n % 8 ≠ 0 ∨ 65536 < n ∨ s.dmaRange c k.dmasrc.toNat n false = false ∨ s.dmaRange c k.dmadst.toNat n true = false) →
       ∃ t, exec (.dmaGo c v) s = .next t ∧ (t.core c).dmactl = BitVec.ofNat 32 (2 ^ 30 + 16 * (v.toNat / 16 % 32)) ∧
         { t with cores := s.cores } = s) ∧
     (s.issues c = true → k.dmactl.getLsbD 31 = true →
       ∃ t, exec (.dmaGo c v) s = .next t ∧ (t.core c).dmactl = k.dmactl ||| 0x40000000 ∧ { t with cores := s.cores } = s) ∧
     (s.isOn (coreDom c) = true → k.dmactl.getLsbD 31 = true → s.lockedRange dst n = false →
       ∃ t, exec (.dmaDone c) s = .next t ∧ (t.core c).dmactl = k.dmactl &&& 0x7FFFFFFF ∧
         (∀ i, i < n → t.byte (dst + i) = s.byte (src + i)) ∧
         (∀ a, a < dst ∨ dst + n ≤ a → t.byte a = s.byte a) ∧ (∀ j r, t.gpr j r = s.gpr j r) ∧
         (k.evpend.getLsbD (k.dmactl.toNat / 16 % 32) = false →
           (t.core c).evpend.getLsbD (k.dmactl.toNat / 16 % 32) = true))) ∧
  (∀ (n : Fin 8) (s : State), s.isOn (coreDom n) = true →
     let stat := SEQ_MBSTATn n.val
     (s.bit SEQ_RETIRE n.val = false → s.bit stat 0 = false →
       exec (.inRing n) s = .next ((s.setBit stat 0 true).raise (coreBlock n) 0x01)) ∧
     (s.bit SEQ_RETIRE n.val = false → s.bit stat 0 = true →
       ∃ t, exec (.inRing n) s = .next t ∧ t.fld stat 31 24 = min (s.fld stat 31 24 + 1) 255 ∧
         (∀ a, a ≠ stat → t.rd a = s.rd a) ∧ { t with regs := s.regs } = s) ∧
     (s.bit SEQ_RETIRE n.val = true → s.bit SEQ_SUCC (4 * n.val + 3) = false →
       ∃ t, exec (.inRing n) s = .next t ∧ t.bit stat 9 = true ∧ (∀ a, a ≠ stat → t.rd a = s.rd a) ∧
         { t with regs := s.regs } = s) ∧
     (s.bit stat 8 = false → ∃ t, exec (.outRing n) s = .next t ∧ t.bit stat 8 = true ∧
       (s.isOn 11 = true → t.bit HOST_IRQSTAT n.val = true) ∧
       (∀ a, a ≠ stat → a ≠ HOST_IRQSTAT → t.rd a = s.rd a) ∧ { t with regs := s.regs } = s) ∧
     (s.bit stat 8 = true → ∃ t, exec (.outRing n) s = .next t ∧ t.fld stat 23 16 = min (s.fld stat 23 16 + 1) 255 ∧
       (∀ a, a ≠ stat → t.rd a = s.rd a) ∧ { t with regs := s.regs } = s)) ∧
  (∀ (c : Fin 8) (s : State), s.isOn 1 = true → s.bit SEQ_RETIRE c.val = false → s.fld SEQ_BOOTCORE 2 0 ≠ c.val → s.mode ≠ 10 →
     ∃ t, exec (.seqRetireWrite (BitVec.ofNat 32 (2 ^ c.val))) s = .next t ∧
       (t.core c).run = .retired ∧ (t.core c).tarm = Vector.replicate 8 none ∧ t.bit SEQ_RETIRE c.val = true ∧
       (∀ k r, t.gpr k r = s.gpr k r) ∧ (∀ k : Fin 8, k ≠ c → t.bit SEQ_RETIRE k.val = s.bit SEQ_RETIRE k.val) ∧
       t.mem = s.mem)

/-- R27, Table 02-6: with its write buffer empty, an aligned load of memory that the core may read returns the bytes at its
address, little-endian, sign-extended by LH and LB and zero-extended by LHU and LBU; nothing else changes but the pc. A word
buffered for the address is returned by LW (R27); a word of register space is the register as the core reads it. R27: a store to
the own data scratchpad writes the low bytes of gd at its address at once and no other byte; any other store that the core may
make goes to the end of the write buffer, memory as it was; with four buffered, the oldest, here one of the shared scratch, is
written first. No general register changes. Where the rules are silent or can be read in two ways, the clauses follow the model's
choices of log entry 50. -/
def Obligations.LoadsAndStoresMoveTheirBytes : Prop :=
  (∀ (c : Fin 8) (gd ga : Fin 16) (imm : BitVec 18) (upset : Bool) (s : State), s.runs c = true → s.mode ≠ 9 →
     let a := s.ea c ga imm
     let p := corePhys c a
     let plainMem := areaOf a ≠ .reg ∧ keyArea a = false ∧ (areaOf a = .dram → s.isOn 9 = true ∧ upset = false)
     ((s.core c).wbuf = [] → plainMem →
       (a % 4 = 0 → s.reach c a 4 false = .ok →
         ∃ t, exec (.lw c gd ga imm upset) s = .next t ∧ WroteOne s t c gd (BitVec.ofNat 32 (s.loadN p 4))) ∧
       (a % 2 = 0 → s.reach c a 2 false = .ok →
         (∃ t, exec (.lh c gd ga imm upset) s = .next t ∧ WroteOne s t c gd ((BitVec.ofNat 16 (s.loadN p 2)).signExtend 32)) ∧
         (∃ t, exec (.lhu c gd ga imm upset) s = .next t ∧ WroteOne s t c gd (BitVec.ofNat 32 (s.loadN p 2)))) ∧
       (s.reach c a 1 false = .ok →
         (∃ t, exec (.lb c gd ga imm upset) s = .next t ∧ WroteOne s t c gd ((s.byte p).signExtend 32)) ∧
         (∃ t, exec (.lbu c gd ga imm upset) s = .next t ∧ WroteOne s t c gd ((s.byte p).zeroExtend 32)))) ∧
     (∀ v, (s.core c).wbuf = [⟨a, 4, v⟩] → a % 4 = 0 → s.reach c a 4 false = .ok → areaOf a ≠ .dram ∨ (s.isOn 9 ∧ upset = false) →
       ∃ t, exec (.lw c gd ga imm upset) s = .next t ∧ WroteOne s t c gd v) ∧
     (s.plain c = true → (s.core c).wbuf = [] → a % 4 = 0 → areaOf a = .reg →
       let r := s.readReg (.core c) a upset
       exec (.lw c gd ga imm upset) s = .next (r.2.result c gd r.1))) ∧
  (∀ (c : Fin 8) (gd ga : Fin 16) (imm : BitVec 18) (n : Nat) (i : Instr) (s : State), s.runs c = true →
     (i = .sw c gd ga imm ∧ n = 4) ∨ (i = .sh c gd ga imm ∧ n = 2) ∨ (i = .sb c gd ga imm ∧ n = 1) →
     let a := s.ea c ga imm
     let v := s.gpr c gd
     a % n = 0 → s.reach c a n true = .ok →
     (areaOf a = .own → ∃ t, exec i s = .next t ∧ t.loadN (corePhys c a) n = v.toNat % 256 ^ n ∧
       (∀ x, x < corePhys c a ∨ corePhys c a + n ≤ x → t.byte x = s.byte x) ∧
       (∀ k r, t.gpr k r = s.gpr k r) ∧ (t.core c).pc = (s.core c).pc + 4 ∧ t.regs = s.regs) ∧
     (areaOf a ≠ .own → (s.core c).wbuf.length < 4 → ∃ t, exec i s = .next t ∧ (t.core c).wbuf = (s.core c).wbuf ++ [⟨a, n, v⟩] ∧
       { t with cores := s.cores } = s ∧ (∀ k r, t.gpr k r = s.gpr k r) ∧ (t.core c).pc = (s.core c).pc + 4) ∧
     (∀ b rest, areaOf a ≠ .own → (s.core c).wbuf = b :: rest → rest.length = 3 → areaOf b.addr = .shared →
       ∃ t, exec i s = .next t ∧ (t.core c).wbuf = rest ++ [⟨a, n, v⟩] ∧ t.loadN b.addr b.width = b.val.toNat % 256 ^ b.width ∧
       (∀ x, x < b.addr ∨ b.addr + b.width ≤ x → t.byte x = s.byte x) ∧
       (∀ k r, t.gpr k r = s.gpr k r) ∧ (t.core c).pc = (s.core c).pc + 4 ∧ t.regs = s.regs))

/-- R20, R27: a misaligned load or store raises ALIGN (LASTEV 2) and one that its address does not allow raises ACCESS (LASTEV 1);
it does not take place: no byte and no register of register space that a store could reach changes, and the load of ACCESS returns
zero. Where the rules are silent or can be read in two ways, the clauses follow the model's choices of log entries 4, 9 and 50. -/
def Obligations.DeniedAccessesDoNotTakePlace : Prop :=
  ∀ (c : Fin 8) (gd ga : Fin 16) (imm : BitVec 18) (upset : Bool) (n : Nat) (ld st : Instr) (s : State), s.runs c = true →
    (ld = .lw c gd ga imm upset ∧ st = .sw c gd ga imm ∧ n = 4) ∨ (ld = .lh c gd ga imm upset ∧ st = .sh c gd ga imm ∧ n = 2) ∨
      (ld = .lhu c gd ga imm upset ∧ st = .sh c gd ga imm ∧ n = 2) ∨ (ld = .lb c gd ga imm upset ∧ st = .sb c gd ga imm ∧ n = 1) ∨
      (ld = .lbu c gd ga imm upset ∧ st = .sb c gd ga imm ∧ n = 1) →
    let a := s.ea c ga imm
    let gone (u t : State) : Prop := (∀ x, t.byte x = u.byte x) ∧ (∀ b, signalBlock b = false → t.rd b = u.rd b) ∧
      (∀ k r, t.gpr k r = u.gpr k r) ∧ (t.core c).pc = (s.core c).pc + 4 ∧ (t.core c).wbuf = (s.core c).wbuf
    (a % n ≠ 0 → ∃ t, exec ld s = .next t ∧ exec st s = .next t ∧ gone s t ∧ (t.core c).lastev = 2) ∧
    (a % n = 0 → s.reach c a n false = .access →
      ∃ t, exec ld s = .next t ∧ gone (s.setGpr c gd 0) t ∧ (t.core c).lastev = 1) ∧
    (a % n = 0 → s.reach c a n true = .access → ∃ t, exec st s = .next t ∧ gone s t ∧ (t.core c).lastev = 1)

/-- R31: TRD returns the counter at the last TIME edge, plus 0, 4, 9 or 13 grains for the SEQ cycles since, its grains in gd and
its seconds[31:0] in ga, and latches all 80 bits, of which the form with func14 1 returns seconds[47:32]; with gd = ga, or one of
them g0, it raises ILLEGAL_INSN with LASTEV 3 and changes no register and no memory. -/
def Obligations.TrdReadsTheNetworkTime : Prop :=
  ∀ (c : Fin 8) (gd ga : Fin 16) (s : State), s.able c [12] = true → s.time.running = true →
    let v := (s.time.sec.toNat * 2 ^ 32 + s.time.grn.toNat + [0, 4, 9, 13].getD s.time.phase.val 0) % 2 ^ 80
    (gd ≠ ga → gd ≠ 0 → ga ≠ 0 → ∃ t, exec (.trd c gd ga) s = .next t ∧ t.gpr c gd = BitVec.ofNat 32 v ∧
      t.gpr c ga = BitVec.ofNat 32 (v / 2 ^ 32) ∧ (t.core c).trd = BitVec.ofNat 80 v ∧ (t.core c).pc = (s.core c).pc + 4 ∧
      (∀ r, r ≠ gd → r ≠ ga → t.gpr c r = s.gpr c r) ∧ { t with cores := s.cores } = s) ∧
    (gd = ga ∨ gd = 0 ∨ ga = 0 → ∃ u : State, exec (.trd c gd ga) s = .next (u.coreEvent c 3) ∧
      (∀ k r, u.gpr k r = s.gpr k r) ∧ u.regs = s.regs ∧ u.mem = s.mem) ∧
    (∃ t, exec (.trdSecondsHi c gd) s = .next t ∧ WroteOne s t c gd (BitVec.ofNat 32 ((s.core c).trd.toNat / 2 ^ 64)))

/-- R31, R32: TRD of a counter that does not run returns the counter. TWAIT completes OK at its target, LATE past it, and else
waits with its pc at the instruction; TWAIT_DONE ends the wait OK once TRD has reached the target. R32, R79–R81: MWAIT completes
OK at its cycle and angle and LATE past them while the axis is not lost, else waits; MWAIT_DONE ends the wait OK when the axis
reaches them. R33, R70, R57: TARM puts the event of its descriptor into the lowest free slot i and returns it, OK or LATE; with
PULSE the slot holds generator n, whose start, period and owner the descriptor sets; CANCEL frees the slot. A slot without a pulse
that is due fires its line: a once slot is freed. R34: TREARM arms the step, OK, in PROVISION and MAINT, and elsewhere under a
grant of purpose 1, which it consumes; without one it completes DENIED and arms nothing. Every one writes a TREARM record. Where
the rules are silent or can be read in two ways, the clauses follow the model's choices of log entries 15 and 61. -/
def Obligations.TimeInstructionsWaitAndArm : Prop :=
  (∀ (c : Fin 8) (gd ga gb : Fin 16) (s : State), s.able c [12] = true →
     let v := if s.time.running then (s.time.sec.toNat * 2 ^ 32 + s.time.grn.toNat + [0, 4, 9, 13].getD s.time.phase.val 0) % 2 ^ 80
       else s.time.sec.toNat * 2 ^ 32 + s.time.grn.toNat
     let diff (x y : Word) : Int := (BitVec.ofNat 64 v - BitVec.ofNat 64 (x.toNat * 2 ^ 32 + y.toNat)).toInt
     (s.time.running = false → gd ≠ ga → gd ≠ 0 → ga ≠ 0 → ∃ t, exec (.trd c gd ga) s = .next t ∧ t.gpr c gd = s.time.grn ∧
       t.gpr c ga = s.time.sec.setWidth 32 ∧ (∀ r, r ≠ gd → r ≠ ga → t.gpr c r = s.gpr c r) ∧ { t with cores := s.cores } = s) ∧
     (s.time.running = true → diff (s.gpr c ga) (s.gpr c gb) = 0 →
       ∃ t, exec (.twait c gd ga gb 0) s = .next t ∧ WroteOne s t c gd (completion stOK)) ∧
     (s.time.running = true → 0 < diff (s.gpr c ga) (s.gpr c gb) →
       ∃ t, exec (.twait c gd ga gb 0) s = .next t ∧ WroteOne s t c gd (completion stLATE)) ∧
     (s.time.running = false ∨ diff (s.gpr c ga) (s.gpr c gb) < 0 →
       ∃ t, exec (.twait c gd ga gb 0) s = .next t ∧ (t.core c).run = .waiting (.twait gd (s.gpr c ga) (s.gpr c gb)) ∧
         (t.core c).pc = (s.core c).pc ∧ (∀ r, t.gpr c r = s.gpr c r) ∧ { t with cores := s.cores } = s) ∧
     (∀ x y, s.time.running = true → 0 ≤ diff x y →
       let w := s.modCore c fun k => { k with run := .waiting (.twait gd x y) }
       ∃ t, exec (.twaitDone c) w = .next t ∧ WroteOne s t c gd (completion stOK))) ∧
  (∀ (c : Fin 8) (gd ga gb : Fin 16) (s : State), s.able c [12] = true → s.bit TIME_MAINS_STAT 0 = false →
     let cyc := s.gpr c ga
     let ang := (s.gpr c gb).toNat % 65536
     let d := (s.mainsCyc - cyc).toInt
     (d = 0 → ang = s.mainsAng → ∃ t, exec (.mwait c gd ga gb 0) s = .next t ∧ WroteOne s t c gd (completion stOK)) ∧
     ((0 < d ∨ d = 0 ∧ ang < s.mainsAng) →
       ∃ t, exec (.mwait c gd ga gb 0) s = .next t ∧ WroteOne s t c gd (completion stLATE)) ∧
     ((d < 0 ∨ d = 0 ∧ s.mainsAng < ang) →
       ∃ t, exec (.mwait c gd ga gb 0) s = .next t ∧
         (t.core c).run = .waiting (.mwait gd cyc (BitVec.ofNat 16 ang) false false) ∧ (t.core c).pc = (s.core c).pc) ∧
     ((0 < d ∨ d = 0 ∧ ang ≤ s.mainsAng) →
       let w := s.modCore c fun k => { k with run := .waiting (.mwait gd cyc (BitVec.ofNat 16 ang) false false) }
       ∃ t, exec (.mwaitDone c) w = .next t ∧ WroteOne s t c gd (completion stOK))) ∧
  (∀ (c : Fin 8) (gd ga : Fin 16) (imm : BitVec 16) (s : State), s.able c [12] = true →
     (∀ (i : Fin 8), (s.core c).tarm.get i = none → (∀ j : Fin 8, j.val < i.val → (s.core c).tarm.get j ≠ none) →
       let p := corePhys c (s.gpr c ga).toNat
       let sec := s.ldw p
       let grn := s.ldw (p + 4)
       let late := s.time.running = true ∧
         0 < (BitVec.ofNat 64 (s.time.sec.toNat * 2 ^ 32 + s.time.grn.toNat) - (sec ++ grn)).toInt
       (imm.toNat < 32 → ∃ t, exec (.tarm c gd ga imm) s = .next t ∧
         Returned s t c gd (completion (if late then stLATE else stOK) i) ∧
         (t.core c).tarm.get i = some ⟨sec, grn, s.ldw (p + 12) &&& 0xFFFF, s.ldw (p + 8), Fin.ofNat 32 imm.toNat, none⟩ ∧
         (∀ j, j ≠ i → (t.core c).tarm.get j = (s.core c).tarm.get j) ∧ { t with cores := s.cores } = s) ∧
       (imm.toNat < 4 → s.fld (TIME_PULSEn_CTL imm.toNat) 11 8 = 15 → ∃ t, exec (.tarmPulse c gd ga imm) s = .next t ∧
         Returned s t c gd (completion (if late then stLATE else stOK) i) ∧
         (t.core c).tarm.get i = some ⟨sec, grn, s.ldw (p + 12) &&& 0xFFFF, s.ldw (p + 8), 0, some (Fin.ofNat 4 imm.toNat)⟩ ∧
         t.rd (TIME_PULSEn_SSEC imm.toNat) = sec ∧ t.rd (TIME_PULSEn_SFRAC imm.toNat) = grn ∧
         t.rd (TIME_PULSEn_PFRAC imm.toNat) = s.ldw (p + 8) ∧ t.rd (TIME_PULSEn_PSEC imm.toNat) = s.ldw (p + 12) &&& 0xFFFF ∧
         t.bit (TIME_PULSEn_CTL imm.toNat) 0 = true ∧ t.fld (TIME_PULSEn_CTL imm.toNat) 11 8 = c.val ∧ t.mem = s.mem)) ∧
     (imm.toNat < 8 → ∃ t, exec (.tarmCancel c gd imm) s = .next t ∧ Returned s t c gd (completion stOK imm.toNat) ∧
       (t.core c).tarm.get (Fin.ofNat 8 imm.toNat) = none ∧
       (∀ j, j ≠ Fin.ofNat 8 imm.toNat → (t.core c).tarm.get j = (s.core c).tarm.get j) ∧ t.mem = s.mem) ∧
     (∀ (i : Fin 8) (sl : TarmSlot), (s.core c).tarm.get i = some sl → sl.pulse = none → sl.psec = 0 → sl.pgrn = 0 →
       s.time.running = true → 0 ≤ (BitVec.ofNat 64 (s.time.sec.toNat * 2 ^ 32 + s.time.grn.toNat) - (sl.sec ++ sl.grn)).toInt →
       (s.core c).evpend.getLsbD sl.line.val = false →
       ∃ t, exec (.tarmFire c i) s = .next t ∧ (t.core c).tarm.get i = none ∧ (t.core c).evpend.getLsbD sl.line.val = true ∧
         (∀ r, t.gpr c r = s.gpr c r))) ∧
  (∀ (c : Fin 8) (gd : Fin 16) (s : State), s.able c [12] = true →
     let may := s.mode = 1 ∨ s.mode = 10
     let grant := s.fld KEYS_AUTHSTAT 3 0 = 1 ∧ s.fld KEYS_AUTHSTAT 31 16 ≠ 0
     ∃ t, exec (.trearm c gd 0 0) s = .next t ∧
       (may ∨ grant → Returned s t c gd (completion stOK) ∧ t.bit TIME_CTL 0 = true) ∧
       (¬may ∧ grant → t.rd KEYS_AUTHSTAT = 0) ∧
       (¬may ∧ ¬grant → Returned s t c gd (completion stDENIED) ∧ t.rd TIME_CTL = s.rd TIME_CTL) ∧
       (s.isOn 14 = true → s.rep.reset = none → s.logFull = false → s.rep.queue.length < 64 →
         ∃ r, t.rep.queue = s.rep.queue ++ [r] ∧ r.code = recTREARM ∧ r.seq = s.rd LOG_SEQ ∧ r.src = 0xC0) ∧
       t.mem = s.mem)

/-- R55: a write of TIME_TADJ within ±549,755,813 is taken; one outside takes the nearer limit and sets TADJCLIP. R58, R79: the
first read of the TIME group or of the mains group by an agent captures the words of now, and the reads that follow return the
words captured until the group is released; a release by time-out makes the next capture STALE. -/
def Obligations.TadjAndSnapshotGroups : Prop :=
  (∀ (v : Word) (s : State), s.isOn 12 = true →
     ∃ t, exec (.timeTadjWrite v) s = .next t ∧
       (v.toInt.natAbs ≤ 549755813 → t.rd TIME_TADJ = v ∧ ∀ a, a ≠ TIME_TADJ → t.rd a = s.rd a) ∧
       (549755813 < v.toInt → t.rd TIME_TADJ = 549755813 ∧ t.bit TIME_STAT 5 = true) ∧
       (v.toInt < -549755813 → t.rd TIME_TADJ = -549755813 ∧ t.bit TIME_STAT 5 = true) ∧
       t.mem = s.mem ∧ t.cores = s.cores ∧ t.time = s.time ∧
       ∀ a, a ≠ TIME_TADJ → a ≠ TIME_STAT → signalBlock a = false → t.rd a = s.rd a) ∧
  (∀ (a : Agent) (i : Fin 3) (j : Fin 2) (s : State), s.isOn 12 = true →
     let h := vget s.time.shadow (agentIdx a) ⟨false, [], 0, false⟩
     let m := vget s.time.mshadow (agentIdx a) ⟨false, [], 0, false⟩
     (h.live = false → ∃ t, exec (.timeCapture a i) s = .next t ∧
       let words : List Word := [BitVec.ofNat 32 s.time.sec.toNat,
         BitVec.ofNat 32 (s.time.sec.toNat / 2 ^ 32 + s.fld TIME_TQ 1 0 * 65536 + if h.stale then 2 ^ 31 else 0), s.time.grn]
       t.bus = words.getD i 0 ∧ (vget t.time.shadow (agentIdx a) ⟨false, [], 0, false⟩).words = words ∧
       (vget t.time.shadow (agentIdx a) ⟨false, [], 0, false⟩).live = true ∧
       (h.stale = true → t.bit TIME_STAT 4 = true)) ∧
     (h.live = true → ∃ t, exec (.timeCapture a i) s = .next t ∧ t.bus = h.words.getD i 0 ∧
       (vget t.time.shadow (agentIdx a) ⟨false, [], 0, false⟩).words = h.words ∧ t.regs = s.regs ∧ t.mem = s.mem) ∧
     (m.live = false → ∃ t, exec (.mainsCapture a j) s = .next t ∧
       t.bus = [s.mainsCyc, BitVec.ofNat 32 ((if s.bit TIME_MAINS_STAT 0 then 2 ^ 31 else 0) +
         (if m.stale then 2 ^ 30 else 0) + s.mainsAng)].getD j 0 ∧ t.regs = s.regs ∧ t.mem = s.mem) ∧
     (h.live = true → ∃ t, exec (.shadowRelease a 0) s = .next t ∧
       (vget t.time.shadow (agentIdx a) ⟨false, [], 0, false⟩).live = false ∧
       (vget t.time.shadow (agentIdx a) ⟨false, [], 0, false⟩).stale = true ∧ t.regs = s.regs ∧ t.mem = s.mem))

/-- R59–R62, R65: the host's commit of a source sets its offset, and with the source in use, tracked, usable and no step armed the
residual R to that offset; an N beyond 999,999,999 is refused with OFFRANGE. A source lost is not valid; a revert puts the primary
in use; R below 100 ns makes STATE LOCKED. R66, R82: each second of HOLDOVER sets TIME_TQERR to the estimate of R66. A cold start
stops the counter, arms the step, sets TADJ and R to zero, USED to none and the axis lost, and discards every source's commit; the
load then takes the RTC's time, or 0 when RTC_INVALID is set. Where the rules are silent or can be read in two ways, the clauses
follow the model's choices of log entries 13 and 60. -/
def Obligations.SourcesHoldoverAndColdStart : Prop :=
  (∀ (k : Fin 4) (n : Word) (temp : Int) (s : State), s.isOn 12 = true →
     let off := (s.rd (TIME_SRCk_S k)).toInt * 1000000000 + n.toInt
     (999999999 < n.toInt.natAbs → ∃ t, exec (.sourceCommit .host k n) s = .next t ∧ t.bit TIME_STAT 6 = true ∧
       (∀ a, a ≠ TIME_STAT → t.rd a = s.rd a) ∧ t.time = s.time ∧ t.mem = s.mem ∧ t.cores = s.cores) ∧
     (n.toInt.natAbs ≤ 999999999 → off.natAbs < 2 ^ 31 → s.usedSrc = k → s.tracked k = true → s.bit (TIME_SRCk_ACC k) 31 = false →
       s.bit TIME_CTL 0 = false → ∃ t, exec (.sourceCommit .host k n) s = .next t ∧
         t.time.resid = off * 2 ^ 38 ∧ (t.src k).valid = true ∧ (t.src k).sec = (s.rd (TIME_SRCk_S k)).toInt ∧
         (t.src k).ns = n.toInt ∧ t.rd (TIME_SRCk_N k) = n ∧ t.time.sec = s.time.sec ∧ t.time.grn = s.time.grn) ∧
     ((s.src k).valid = true → ∃ t, exec (.sourceLost k temp) s = .next t ∧ (t.src k).valid = false ∧
       t.time.sec = s.time.sec ∧ t.time.grn = s.time.grn) ∧
     (s.bit TIME_SRCSEL 8 = true → s.primary ≤ 3 → (s.src s.primary).valid = true →
       ∃ t, exec .sourceRevert s = .next t ∧ t.usedSrc = s.primary ∧ t.time.sec = s.time.sec ∧ t.time.grn = s.time.grn) ∧
     (s.usedSrc ≤ 3 → s.fld TIME_TQ 1 0 = 2 → s.time.resid.natAbs < 100 * 2 ^ 38 →
       ∃ t, exec .tqLocked s = .next t ∧ t.fld TIME_TQ 1 0 = 3 ∧ t.time.resid = s.time.resid)) ∧
  (∀ (temp : Int) (s : State), s.isOn 12 = true →
     (s.fld TIME_TQ 1 0 = 1 →
       let sec := s.time.hoSec + 1
       let dev := max s.time.hoDev (temp - s.time.hoTemp).natAbs
       let f := s.fld TIME_HOMODEL 31 16
       let a := s.fld TIME_HOMODEL 15 8
       let tc := s.fld TIME_HOMODEL 7 0
       ∃ t e, exec (.holdoverUpdate temp) s = .next t ∧ t.rd TIME_TQERR = BitVec.ofNat 32 (min (s.time.e0 + e) 0xFFFFFFFE) ∧
         (f * sec * 17280 + a * sec * sec + tc * dev * sec * 172800 ≤ e * 1728000 ∧
           e * 1728000 < f * sec * 17280 + a * sec * sec + tc * dev * sec * 172800 + 1728000) ∧
         t.time.sec = s.time.sec ∧ t.time.grn = s.time.grn ∧ t.time.hoSec = sec) ∧
     (∃ t, exec .timeColdStart s = .next t ∧ t.time.running = false ∧ t.time.resid = 0 ∧ t.time.step = none ∧
       t.rd TIME_TADJ = 0 ∧ t.bit TIME_CTL 0 = true ∧ t.usedSrc = 7 ∧ t.rd TIME_TQERR = 0xFFFFFFFF ∧
       t.fld TIME_TQ 1 0 = 0 ∧ t.bit TIME_MAINS_STAT 0 = true ∧ (∀ k : Fin 4, (t.src k).valid = false) ∧
       t.time.sec = s.time.sec ∧ t.time.grn = s.time.grn) ∧
     (s.time.running = false → ∃ t, exec .counterLoad s = .next t ∧ t.time.running = true ∧ t.regs = s.regs ∧ t.mem = s.mem ∧
       (s.bit RTC_STAT 31 = true → t.time.sec = 0 ∧ t.time.grn = 0) ∧
       (s.bit RTC_STAT 31 = false → t.time.sec = ((s.rd RTC_SEC_HI).setWidth 16 ++ s.rd RTC_SEC_LO) ∧
         t.time.grn = BitVec.ofNat 32 (s.fld RTC_FRAC 15 0 * 65536))))

/-- R53, R54: on an idle step that holds a TIME edge, with no step pending, R zero and nothing buffered, the running counter gains
4 ns × (1 + TADJ × 2⁻⁴⁰) in grains, rounded to 2⁻³² grain, and wraps at 2⁴⁸ s. That every fourth idle step is such an edge is the
model's choice (log entry 10). R69, R71, R72: a leading edge of generator n that is due, and no more than a tick past, is emitted:
0xC1 : n + 1 is told of, the pulse ends after WIDTH, and a single generator has no next edge; a squelched one only counts in
SQUELCHED. R78, R80: an edge of the polarity used less than 4 ms after the last accepted one counts in GLITCH, one outside
15.38–22.22 ms counts in RANGE and restarts the measurement, any other is measured as a valid interval. With no valid edge for 100
ms the axis is lost. Where the rules are silent or can be read in two ways, the clauses follow the model's choices of log entries
10, 13 and 14. -/
def Obligations.TimePulseAndMainsEdges : Prop :=
  (∀ (s t : State), s.pending = [] → step s = .next t → s.isOn 12 = true → s.time.running = true → s.time.step = none →
     s.time.resid = 0 → (∀ c, (s.core c).wbuf = []) → (s.clock + 1) % 4 = 0 → aonAt (s.clock + 1) = false →
     let units (u : State) : Int := ((u.time.sec.toNat * 2 ^ 32 + u.time.grn.toNat) * 2 ^ 32 + u.time.sub.toNat : Nat)
     let inc : Int := units t - units s
     ∃ d : Int, (inc = d ∨ inc = d - 2 ^ 112) ∧
       2 * (d * 1000000000 - 2 ^ 26 * (2 ^ 40 + (s.rd TIME_TADJ).toInt)).natAbs ≤ 1000000000) ∧
  (∀ (n : Fin 4) (sec grn : Word) (s : State), s.isOn 12 = true → s.time.running = true → s.bit (TIME_PULSEn_CTL n) 0 = true →
     s.bit (TIME_PULSEn_CTL n) 1 = false → (s.time.pulse.get n).next = some (sec, grn) →
     let d := (BitVec.ofNat 64 (s.time.sec.toNat * 2 ^ 32 + s.time.grn.toNat) - (sec ++ grn)).toInt
     d ≤ 17 →
     ∃ t, exec (.pulseEdge n) s = .next t ∧ (t.time.pulse.get n).next = none ∧ t.mem = s.mem ∧
       (s.squelched n = false → (t.time.pulse.get n).ends = some (s.clock + (s.rd (TIME_PULSEn_WIDTH n)).toNat) ∧
         t.bit (TIME_PULSEn_CTL n) 5 = false) ∧
       (s.squelched n = true → t.fld (TIME_PULSEn_CNT n) 31 16 = min (s.fld (TIME_PULSEn_CNT n) 31 16 + 1) 65535 ∧
         (t.time.pulse.get n).ends = (s.time.pulse.get n).ends ∧ t.bit (TIME_PULSEn_CTL n) 5 = true)) ∧
  (∀ (iv : Nat) (s : State), s.isOn 12 = true →
     (s.bit TIME_MAINS_CTL 0 = true → s.time.mEdge = some iv →
       let i := Instr.mainsEdge (s.bit TIME_MAINS_CTL 1)
       (iv < 1000000 → ∃ t, exec i s = .next t ∧ t.fld TIME_MAINS_STAT 31 16 = min (s.fld TIME_MAINS_STAT 31 16 + 1) 65535 ∧
         t.time = s.time ∧ t.mem = s.mem) ∧
       (1000000 ≤ iv → (iv < 3845000 ∨ 5555000 < iv) → ∃ t, exec i s = .next t ∧
         t.fld TIME_MAINS_STAT 15 8 = min (s.fld TIME_MAINS_STAT 15 8 + 1) 255 ∧ t.time.mEdge = some 0 ∧
         t.time.mIvals = s.time.mIvals ∧ t.mem = s.mem) ∧
       (3845000 ≤ iv → iv ≤ 5555000 → s.bit TIME_MAINS_STAT 0 = false → ∃ t, exec i s = .next t ∧
         t.time.mEdge = some 0 ∧ t.time.mIvals = (iv :: s.time.mIvals).take 8 ∧ t.bit TIME_MAINS_STAT 0 = false ∧ t.mem = s.mem)) ∧
     (s.bit TIME_MAINS_STAT 0 = false → ∃ t, exec .mainsLost s = .next t ∧ t.bit TIME_MAINS_STAT 0 = true ∧
       t.rd TIME_MAINS_PER = s.rd TIME_MAINS_PER ∧ t.mem = s.mem))

/-- R340–R342: RTC_COMMIT sets CPEND for what it commits; on the tick edge the RTC takes the staged time or weekday, CPEND clears,
and a commit of TIME clears INVALID. RTC_SHIFT takes its value and sets PEND; on its tick edge the count gains the increment and
the shift, and PEND clears. R342–R344: a tick edge on which the seconds reach the start of a day advances the weekday; one on
which an enabled once alarm is reached sets its bit and clears EN; one on which the seconds change captures network and RTC time.
R338, R339: a failure of the crystal in use sets XTALFAIL and INVALID, clears XTAL and is told of as the fault RTC_XTAL; the count
of 1,024 good cycles sets XTAL again. A first read of the RTC group captures its four words. Where the rules are silent or can be
read in two ways, the clauses follow the model's choices of log entry 32. -/
def Obligations.TheRtcTicksCommitsAndShifts : Prop :=
  (∀ (s : State),
     (s.bit RTC_STAT 9 = false →
       (∃ t, exec .commitTime s = .next t ∧ t.bit RTC_STAT 9 = true ∧ t.rtc.commit = (true, false) ∧
         (∀ a, a ≠ RTC_STAT → t.rd a = s.rd a) ∧ t.mem = s.mem) ∧
       (∃ t, exec .commitWday s = .next t ∧ t.bit RTC_STAT 9 = true ∧ t.rtc.commit = (false, true) ∧
         (∀ a, a ≠ RTC_STAT → t.rd a = s.rd a) ∧ t.mem = s.mem)) ∧
     (s.bit RTC_STAT 9 = true → s.rtc.commit = (true, false) → ∃ t, exec .rtcCommitApply s = .next t ∧ t.bit RTC_STAT 9 = false ∧
       t.rd RTC_SEC_LO = s.rd RTC_SETSEC_LO ∧ t.fld RTC_SEC_HI 15 0 = s.fld RTC_SETSEC_HI 15 0 ∧
       t.fld RTC_FRAC 15 0 = s.fld RTC_SETFRAC 15 0 ∧ t.fld RTC_WDAY 2 0 = s.fld RTC_WDAY 2 0 ∧ t.bit RTC_STAT 31 = false ∧
       t.rtc.acc = 0 ∧ t.mem = s.mem) ∧
     (∀ v : BitVec 17, v.toInt.natAbs ≤ 32768 → ∃ t, exec (.rtcShiftWrite v) s = .next t ∧
       t.fld RTC_SHIFT 16 0 = v.toNat ∧ t.bit RTC_SHIFT 31 = true ∧ (∀ a, a ≠ RTC_SHIFT → t.rd a = s.rd a) ∧ t.mem = s.mem) ∧
     (s.bit RTC_SHIFT 31 = true → s.bit RTC_STAT 9 = false → s.fld RTC_TRIM 7 0 = 0 → s.rtc.acc < 2 ^ 24 →
       ∃ t, exec .rtcShiftApply s = .next t ∧ t.bit RTC_SHIFT 31 = false ∧ t.rtc.elapsed = s.rtc.elapsed + 2 ∧
         (t.rtcNow : Int) = (s.rtcNow + 2 + (BitVec.ofNat 17 (s.fld RTC_SHIFT 16 0)).toInt) % 2 ^ 64 ∧ t.mem = s.mem)) ∧
  (∀ (n : Fin 2) (s : State), s.bit RTC_STAT 9 = false →
     (s.rtcNext / 65536 = (s.rtcNow / 65536 + 1) % 2 ^ 48 → s.dayStart (s.rtcNext / 65536) = true → s.fld RTC_WDAY 2 0 ≤ 6 →
       ∃ t, exec .weekdayAdvance s = .next t ∧ t.fld RTC_WDAY 2 0 = (s.fld RTC_WDAY 2 0 + 1) % 7 ∧ t.mem = s.mem) ∧
     (s.bit (RTC_ALMn_CTL n) 31 = true → s.fld (RTC_ALMn_CTL n) 16 0 = 0 →
       (BitVec.ofNat 48 ((s.rd (RTC_ALMn_SEC n)).toNat * 65536 + s.fld (RTC_ALMn_FRAC n) 15 0) -
         BitVec.ofNat 48 s.rtcNext).toInt ≤ 0 →
       ∃ t, exec (.rtcAlarm n) s = .next t ∧ t.bit RTC_STAT (3 + n.val) = true ∧ t.bit (RTC_ALMn_CTL n) 31 = false ∧
         t.mem = s.mem) ∧
     (s.rtcNow / 65536 ≠ s.rtcNext / 65536 → s.isOn 12 = true → ∃ t, exec .rtcTsnap s = .next t ∧
       t.rd RTC_TSNAP_RSEC = BitVec.ofNat 32 (s.rtcNext / 65536) ∧ t.fld RTC_TSNAP_RFRAC 15 0 = s.rtcNext % 65536 ∧ t.mem = s.mem)) ∧
  (∀ (a : Agent) (i : Fin 4) (s : State),
     (s.bit RTC_STAT 30 = true → ∃ t, exec .xtalFail s = .next t ∧ t.bit RTC_STAT 30 = false ∧ t.bit RTC_STAT 31 = true ∧
       t.bit RTC_STAT 1 = true ∧ t.rd RTC_SEC_LO = s.rd RTC_SEC_LO) ∧
     (∃ t, exec .xtalGood s = .next t ∧ t.bit RTC_STAT 30 = true ∧ t.bit RTC_STAT 31 = s.bit RTC_STAT 31 ∧
       (∀ b, b ≠ RTC_STAT → t.rd b = s.rd b) ∧ { t with regs := s.regs } = s) ∧
     (let h := vget s.rtc.shadow (agentIdx a) ⟨false, [], 0, false⟩
      h.live = false → h.stale = false → ∃ t, exec (.rtcCapture a false i) s = .next t ∧
       t.bus = [s.rd RTC_SEC_LO, BitVec.ofNat 32 ((if s.bit RTC_STAT 31 then 2 ^ 30 else 0) + s.fld RTC_SEC_HI 15 0),
         s.rd RTC_FRAC, s.rd RTC_WDAY].getD i 0 ∧ t.regs = s.regs ∧ t.mem = s.mem))

/-- R429, R430: a good frame of a linked and enabled port counts in RXOK, a bad FCS in FCS, more than 2,048 octets in LONG; a
frame sent counts in TXOK and leaves with its FCS; a change of the link sets or clears NET_PORTp_STAT. An MDIO command sets BUSY,
and the end of a read takes the PHY's data, or 0xFFFF and ERR where there is none. R76, R77: an insertion made in time takes the
oldest frame that awaits one, sends it with its stamp, an origin in the octets 34 to 43 of the message or a residence in its
correctionField, and counts in INSERTED; one past the deadline counts in LATE_STAMP. Where the rules are silent or can be read in
two ways, the clauses follow the model's choices of log entries 33 and 34. -/
def Obligations.EthernetMdioAndPtpInsertion : Prop :=
  (∀ (p : Fin 2) (l : List Byte) (phy reg : Fin 32) (s : State), s.isOn 10 = true →
     (s.bit (NET_PORTp_CTL p) 31 = true → s.bit (NET_PORTp_STAT p) 31 = true →
       (64 ≤ l.length → l.length ≤ 2048 → l.drop (l.length - 4) = fcsOf (l.take (l.length - 4)) → be16 l 12 = 0x0800 →
         s.rd (NET_PTP_CTLp p) = 0 → (s.port (70 + p)).wait = [] →
         ∃ t, exec (.ethRxFrame p l) s = .next t ∧ t.rd (NET_PORTp_RXOK p) = BitVec.ofNat 32 (min ((s.rd (NET_PORTp_RXOK p)).toNat + 1) 0xFFFFFFFF) ∧
           t.mem = s.mem) ∧
       (64 ≤ l.length → l.length ≤ 2048 → l.drop (l.length - 4) ≠ fcsOf (l.take (l.length - 4)) →
         ∃ t, exec (.ethRxFrame p l) s = .next t ∧
           t.fld (NET_PORTp_ERR p) 23 16 = min (s.fld (NET_PORTp_ERR p) 23 16 + 1) 255 ∧ { t with regs := s.regs } = s) ∧
       (s.rd (NET_PTP_CTLp p) = 0 → ∃ t, exec (.ethTxFrame p l) s = .next t ∧ t.net.out.get p = l ++ fcsOf l ∧
         t.rd (NET_PORTp_TXOK p) = BitVec.ofNat 32 (min ((s.rd (NET_PORTp_TXOK p)).toNat + 1) 0xFFFFFFFF) ∧ t.mem = s.mem)) ∧
     (s.bit (NET_PORTp_STAT p) 31 = false → ∃ t, exec (.linkChange p true true true 2) s = .next t ∧
       t.rd (NET_PORTp_STAT p) = 0xE8000000 ∧ t.mem = s.mem) ∧
     (s.bit NET_MDIO_DATA 31 = false →
       ∀ i op, (i, op) ∈ [(Instr.mdioC22Write phy reg, 0), (.mdioC22Read phy reg, 1), (.mdioC45Address phy reg, 2),
         (.mdioC45Write phy reg, 3), (.mdioC45Read phy reg, 4)] →
         ∃ t, exec i s = .next t ∧ t.bit NET_MDIO_DATA 31 = true ∧ t.net.mdio = some (op, phy.val, reg.val) ∧
           (∀ a, a ≠ NET_MDIO_DATA → t.rd a = s.rd a) ∧ t.mem = s.mem) ∧
     (∀ op phy reg, s.net.mdio = some (op, phy, reg) → op = 1 ∨ op = 4 →
       (∀ d, ∃ t, exec (.mdioDone (some d)) s = .next t ∧ t.bit NET_MDIO_DATA 31 = false ∧ t.bit NET_MDIO_DATA 30 = false ∧
         t.fld NET_MDIO_DATA 15 0 = d.toNat ∧ t.net.mdio = none ∧ t.mem = s.mem) ∧
       (∃ t, exec (.mdioDone none) s = .next t ∧ t.bit NET_MDIO_DATA 30 = true ∧ t.fld NET_MDIO_DATA 15 0 = 0xFFFF))) ∧
  (∀ (p : Fin 2) (f : PtpFrame) (rest : List PtpFrame) (e : Encap) (s : State), s.isOn 10 = true → s.net.wait.get p = f :: rest →
     s.ptpEvent p f.octets = some (e, f.off) → e = .l2 →
     ∀ kind i, (kind = 0 ∧ i = Instr.insertOrigin p) ∨ (kind = 1 ∧ i = .insertResidence p) →
     ∃ t, exec i s = .next t ∧ t.net.wait.get p = rest ∧ t.mem = s.mem ∧
       (s.clock ≤ f.since + s.insertDeadline kind .l2 f.octets →
         t.fld (NET_PTPCNTp p) 15 0 = min (s.fld (NET_PTPCNTp p) 15 0 + 1) 65535 ∧
         (kind = 0 → f.off + 44 ≤ f.octets.length → ((t.net.out.get p).drop (f.off + 34)).take 6 =
           beOctets (s.fld (NET_INSp_SHI p) 15 0 * 2 ^ 32 + (s.rd (NET_INSp_SLO p)).toNat) 6)) ∧
       (f.since + s.insertDeadline kind .l2 f.octets < s.clock →
         t.fld (NET_PTPCNTp p) 31 24 = min (s.fld (NET_PTPCNTp p) 31 24 + 1) 255))

/-- R88, R89, R109, R114: an F_C outside 781.80–947.20 MHz is ignored and sets RANGE; one inside puts a path in RUN into RETUNE,
from which it returns to RUN. REQ takes a path to OFF, out of OFF through calibration or the restart, and to CAL or MAPPED_OUT
once its lanes have drained, at CALWAIT by force; a calibration ends in RUN with CALOK, or in MAPPED_OUT without it. R90, R93–R96:
an attack raises the gain index by 2, at most to 18, and counts in OVLD; a decay lowers it by 1. An evaluation at or above the
threshold starts an idle qualifier and leaves the floor; one below moves the floor towards the power. A jam sets the floor to the
power less 3 dB. A correlation of an enabled rate starts the SFD search, which QFAIL counts when it times out. Where the rules are
silent or can be read in two ways, the clauses follow the model's choices of log entry 62. -/
def Obligations.ReceivePathsGainAndQualifiers : Prop :=
  (∀ (p : Fin 2) (fc : Fin 131072) (temp : Int) (s : State), s.isOn 3 = true →
     let st := (s.rxPath p).st
     let calok := CARD_PATHp_STAT p
     ((fc.val < 78180 ∨ 94720 < fc.val) → ∃ t, exec (.retune p fc) s = .next t ∧ t.bit CARD_STAT 4 = true ∧
       (∀ a, a ≠ CARD_STAT → t.rd a = s.rd a) ∧ { t with regs := s.regs } = s) ∧
     (78180 ≤ fc.val → fc.val ≤ 94720 → st = 2 → ∃ t, exec (.retune p fc) s = .next t ∧ (t.rxPath p).st = 3 ∧
       t.fld (CARD_PATHp_FC p) 16 0 = fc ∧ (∀ k, k < 128 → t.fld (CARD_CHNFc (128 * p.val + k)) 15 0 = 0xFE34)) ∧
     (st = 3 → ∃ t, exec (.retuneEnd p) s = .next t ∧ (t.rxPath p).st = 2 ∧ t.mem = s.mem) ∧
     (∃ t, exec (.pathOffRequest p) s = .next t ∧ (t.rxPath p).st = 0) ∧
     (st = 0 ∨ st = 6 → ∃ t, exec (.pathRunRequest p) s = .next t ∧ (t.rxPath p).st = if s.bit calok 0 then 3 else 1) ∧
     (st = 2 → s.pathBusy p = true → (∃ t, exec (.pathCalRequest p) s = .next t ∧ (t.rxPath p).st = 5 ∧ (t.rxPath p).target = 2) ∧
       (∃ t, exec (.pathMapoutRequest p) s = .next t ∧ (t.rxPath p).st = 5 ∧ (t.rxPath p).target = 3)) ∧
     (st = 2 → s.pathBusy p = false → (∃ t, exec (.pathCalRequest p) s = .next t ∧ (t.rxPath p).st = 1) ∧
       (∃ t, exec (.pathMapoutRequest p) s = .next t ∧ (t.rxPath p).st = 6)) ∧
     (st = 5 → (∀ e ∈ s.rx.lane, e.1 < 64) → ∃ t, exec (.calwaitExpiry p) s = .next t ∧ t.pathBusy p = false ∧
       (t.rxPath p).st = if (s.rxPath p).target = 3 then 6 else 1) ∧
     (st = 1 → (∃ t, exec (.pathCalDone p true temp) s = .next t ∧ (t.rxPath p).st = 2 ∧ t.bit calok 0 = true ∧
         t.fld (CARD_PATHp_CAL p) 31 24 = (temp % 256).toNat) ∧
       (∃ t, exec (.pathCalDone p false temp) s = .next t ∧ (t.rxPath p).st = 6 ∧ t.bit calok 0 = false)) ∧
     (st = 6 → s.bit calok 0 = false → s.rep.wins.any (fun e => e.2.cls == 6 && e.2.block == BitVec.ofNat 8 (0x31 + p)) = true →
       ∃ t, exec (.pathCalRetry p) s = .next t ∧ (t.rxPath p).st = 1) ∧
     ((s.rxPath p).blank = true → (s.rxPath p).trsw = false →
       ∃ t, exec (.blankEnd p) s = .next t ∧ (t.rxPath p).blank = false ∧ (t.rxPath p).st = st ∧ t.mem = s.mem)) ∧
  (∀ (p : Fin 2) (c : Fin 256) (rate : Fin 4) (power : Int) (s : State),
     let gain (u : State) : Nat := u.fld (CARD_PATHp_STAT p) 12 8
     let qual (u : State) : QualSt := tabGet (fun _ => QualSt.idle) u.rx.qual c
     let above (u : State) : Nat := tabGet (fun _ => 0) u.rx.above c
     let fl := s.floorOf c
     (s.isOn 3 = true → s.bit (CARD_PATHp_CTL p) 4 = false → (s.rxPath p).st ≠ 0 →
       (∃ t, exec (.agcAttack p) s = .next t ∧ gain t = min 18 (gain s + 2) ∧
         t.fld (CARD_PATHp_CNT p) 31 16 = min (s.fld (CARD_PATHp_CNT p) 31 16 + 1) 65535 ∧ t.mem = s.mem) ∧
       (∃ t, exec (.agcDecay p) s = .next t ∧ gain t = gain s - 1 ∧
         (∀ a, a ≠ CARD_PATHp_STAT p → t.rd a = s.rd a) ∧ { t with regs := s.regs } = s)) ∧
     (s.pathRuns (c.val / 128) = true → s.chOn c = true →
       (fl + s.fld (CARD_CHCFGc c) 5 0 ≤ power → ∃ t, exec (.detectorEvaluation c power) s = .next t ∧ t.floorOf c = fl ∧
         above t = above s + 1 ∧ (qual s = .idle → s.mayQualify c = true → qual t = .corr) ∧ t.mem = s.mem) ∧
       (power < fl + s.fld (CARD_CHCFGc c) 5 0 → ∃ t, exec (.detectorEvaluation c power) s = .next t ∧ above t = 0 ∧
         qual t = qual s ∧
         let k := if tabGet (fun _ => 0) s.rx.evals c < 256 then 4 else s.fld CARD_NFCTL 19 16
         t.floorOf c = max (-520) (min (-240) (fl + roundDiv (power - fl) (2 ^ k)))) ∧
       (25 * s.fld CARD_NFCTL 15 0 ≤ above s → ∃ t, exec (.channelJam c) s = .next t ∧ above t = 0 ∧ t.bit CARD_STAT 5 = true ∧
         t.floorOf c = max (-520) (min (-240) ((BitVec.ofNat 16 (s.fld (CARD_CHNFc c) 31 16)).toInt - 12)) ∧ t.mem = s.mem) ∧
       (s.bit (CARD_CHCFGc c) (24 + rate.val) = true → qual s = .corr → s.mayQualify c = true →
         ∃ t, exec (.preambleCorrelation c rate) s = .next t ∧ qual t = .sfd rate ∧ { t with rx := s.rx } = s)) ∧
     (qual s = .sfd rate → ∃ t, exec (.qualifierTimeout c) s = .next t ∧
       qual t = (if above s = 0 then .idle else .corr) ∧
       t.fld (CARD_CHCNTc c) 15 0 = min (s.fld (CARD_CHCNTc c) 15 0 + 1) 65535 ∧ t.mem = s.mem))

/-- R96, R98, R99, R105: a frame that qualifies on a running path takes the lowest-numbered free lane, which latches its SFD with
TOFF, and the allocation count goes on; with no lane free it is counted in STARVED and never given one. R100–R103, R110, R111: a
lane whose PHR sets the mode switch ends MODESW, one with a length below its FCS or above MAXPSDU ends PHRLEN, any other goes on
to DATA; its release writes OK or FCS to LAST and leaves it FREE, or MAPPED_OUT when its map bit is set. A map bit set takes a
FREE lane to MAPPED_OUT and a busy one to DRAIN; none is cleared outside MAINT. A self-check takes a FREE lane to SELFTEST and
back, or maps it out. R106, R107: RXARM gives its window the lowest free index, which it returns, and arms it; the channel must be
enabled, the duration not 0 and the rates its channel's. CANCEL frees a window with outcome CANCELLED; a window opens at its open
time, and ends at its close with FRAME, STARVED or TIMEOUT. Where the rules are silent or can be read in two ways, the clauses
follow the model's choices of log entries 61 and 62. -/
def Obligations.LanesAndReceiveWindows : Prop :=
  (∀ (q : SfdMatch) (rate : Fin 4) (n : Fin 64) (s : State), tabGet (fun _ => QualSt.idle) s.rx.qual q.ch = .sfd rate →
     s.pathRuns (q.ch.val / 128) = true → (q.coded = true → s.bit (CARD_CHCFGc q.ch) 28 = true) → s.bit (CARD_CHCFGc q.ch) 30 = false →
     s.mode ≠ 9 → s.isOn 7 = true → s.bit CARD_CTL 1 = true → (s.dom 3).hold ≠ some .delay →
     (s.laneState n = 0 → (∀ m : Fin 64, m.val < n.val → s.laneState m ≠ 0) → ∃ t, exec (.qualify [q]) s = .next t ∧
       t.laneState n = 1 ∧ ((t.laneFrame n).map fun f => (f.ch, f.rate, f.fec, f.tag)) = some (q.ch.val, rate, q.coded, s.rx.tag) ∧
       t.bit (CARD_LANE_SFDn n) 31 = true ∧ t.fld (CARD_LANE_SFDn n) 15 0 = q.toff.toNat ∧
       t.fld (CARD_LANE_SFDn n) 29 16 = s.rx.tag.toNat % 2 ^ 14 ∧ t.rx.tag = s.rx.tag + 1 ∧ t.mem = s.mem) ∧
     ((∀ m : Fin 64, s.laneState m ≠ 0) → ∃ t, exec (.qualify [q]) s = .next t ∧
       t.fld (CARD_CHCNTc q.ch) 31 16 = min (s.fld (CARD_CHCNTc q.ch) 31 16 + 1) 65535 ∧ t.bit CARD_STAT 7 = true ∧
       t.rx.lane = s.rx.lane ∧ t.rx.tag = s.rx.tag ∧ t.mem = s.mem)) ∧
  (∀ (n : Fin 64) (ms fcs dw : Bool) (len : Fin 2048) (foff : BitVec 16) (rssi : BitVec 12) (snr : Int) (f : RxFrame)
     (hi : Bool) (v : Word) (s : State),
     let last (u : State) : Nat := u.fld (CARD_LANE_STATn n) 15 8
     let free := if s.laneMapped n then 5 else 0
     (s.laneFrame n = some f → f.phr = none →
       (ms = true → ∃ t, exec (.phrDecoded n ms fcs dw len foff rssi snr) s = .next t ∧ t.laneFrame n = none ∧ last t = 3 ∧
         t.laneState n = free) ∧
       (ms = false → (len.val < (if fcs then 2 else 4) ∨ s.fld CARD_CTL 26 16 < len.val) →
         ∃ t, exec (.phrDecoded n ms fcs dw len foff rssi snr) s = .next t ∧ t.laneFrame n = none ∧ last t = 2 ∧
           t.laneState n = free) ∧
       (ms = false → (if fcs then 2 else 4) ≤ len.val → len.val ≤ s.fld CARD_CTL 26 16 → s.laneState n = 1 →
         ∃ t, exec (.phrDecoded n ms fcs dw len foff rssi snr) s = .next t ∧ t.laneState n = 2 ∧
           ((t.laneFrame n).bind fun f => f.phr) = some (2 * b2n fcs + b2n dw, len.val, foff, rssi, linkQuality snr) ∧
           t.mem = s.mem)) ∧
     (s.laneFrame n = some f → f.phr.isSome = true → ∃ t, exec (.laneRelease n fcs []) s = .next t ∧ t.laneFrame n = none ∧
       last t = (if fcs then 0 else 1) ∧ t.laneState n = free) ∧
     (s.isOn 3 = true → s.mode ≠ 10 → ∃ t, exec (.laneMapWrite hi v) s = .next t ∧ t.mem = s.mem ∧
       ∀ i : Fin 32, let m := i.val + if hi then 32 else 0
         t.laneMapped m = (v.getLsbD i.val || s.laneMapped m) ∧
         (v.getLsbD i.val = true → s.laneMapped m = false → s.laneState m = 0 → t.laneState m = 5) ∧
         (v.getLsbD i.val = true → s.laneMapped m = false → s.laneState m = 1 ∨ s.laneState m = 2 → t.laneState m = 4)) ∧
     (s.isOn 3 = true → s.fld CARD_CTL 15 8 ≠ 0 → s.rx.scNext = n → s.laneState n = 0 →
       ∃ t, exec .laneSelfcheck s = .next t ∧ t.laneState n = 3 ∧ t.rx.scNext = (n.val + 1) % 64 ∧ t.mem = s.mem) ∧
     (s.laneState n = 3 → (∃ t, exec (.selfcheckEnd n true) s = .next t ∧ t.laneState n = free ∧ t.mem = s.mem) ∧
       (∃ t, exec (.selfcheckEnd n false) s = .next t ∧ t.laneState n = 5 ∧ t.laneMapped n = true ∧ t.bit CARD_STAT 6 = true))) ∧
  (∀ (c : Fin 8) (gd ga : Fin 16) (imm : BitVec 18) (w : Fin 128) (s : State),
     let code (u : State) (w : Nat) : Nat := u.fld (CARD_RXWINw w) 31 30
     let outcome (u : State) (w : Nat) : Nat := u.fld (CARD_RXWINw w) 27 24
     let now := s.time.sec.toNat * 2 ^ 32 + s.time.grn.toNat
     (s.able c [3] = true → imm.toNat < 64 →
       let d := corePhys c (s.gpr c ga).toNat
       let w3 := s.ldw (d + 12)
       let ch := bits w3 15 8
       let cfg := s.rd (CARD_CHCFGc ch)
       cfg.getLsbD 31 = true → s.idleHalf ch = false → s.ldw (d + 8) ≠ 0 → (bits w3 7 4 &&& bits cfg 27 24) = bits w3 7 4 →
       (s.isOn 12 = false → s.rxWin w = none → (∀ v : Fin 128, v.val < w.val → s.rxWin v ≠ none) →
         ∃ t, exec (.rxarm c gd ga imm) s = .next t ∧ Returned s t c gd (completion stOK 0 w) ∧ code t w = 1 ∧
           t.fld (CARD_RXWINw w) 23 16 = ch ∧ ((t.rxWin w).map fun x => (x.sec, x.grn, x.dur)) =
             some (s.ldw d, s.ldw (d + 4), s.ldw (d + 8)) ∧ t.mem = s.mem) ∧
       ((∀ v : Fin 128, s.rxWin v ≠ none) → ∃ t, exec (.rxarm c gd ga imm) s = .next t ∧ Returned s t c gd (completion stFULL) ∧
         t.bit CARD_STAT 0 = true ∧ t.rx = s.rx ∧ t.mem = s.mem)) ∧
     (s.able c [3] = true → (s.gpr c ga).toNat % 128 = w.val → ∃ t, exec (.rxarmCancel c gd ga 0) s = .next t ∧
       Returned s t c gd (completion stOK 0 w) ∧ t.rxWin w = none ∧ (s.rxWin w ≠ none → code t w = 0 ∧ outcome t w = 3)) ∧
     (∀ x, s.rxWin w = some x →
       (code s w = 1 → 0 ≤ (BitVec.ofNat 64 now - (x.sec ++ x.grn)).toInt →
         ∃ t, exec (.windowOpen w) s = .next t ∧ code t w = 2 ∧ { t with regs := s.regs } = s) ∧
       (s.isOn 3 = true → 0 ≤ (BitVec.ofNat 64 now - BitVec.ofNat 64 x.closes).toInt →
         ∃ t, exec (.windowClose w) s = .next t ∧ t.rxWin w = none ∧ code t w = 0 ∧
           outcome t w = (if x.got then 1 else if x.starved then 4 else 2) ∧ t.mem = s.mem)))

/-- R117–R119: an F_k inside Table 05-1's range is stored and its entry cold, one outside sets RANGE. A sensor reading is shown,
and makes an entry 15 °C away cold and one 5 °C away stale. ALL marks every valid entry stale; GO names the entry calibrated next,
which an idle synthesiser begins. A calibration gives its entry its results and makes it valid, or leaves it cold; a hop that does
not lock makes its entry cold and is told of as the fault NOLOCK. R120, R122: TXQ whose descriptor is in range is accepted: OK
with the queue's depth, the command at the queue's end with its time, entry, class and TAG. Sixteen commands waiting answer FULL,
a disabled chain or a value out of range RANGE, with no effect. Where the rules are silent or can be read in two ways, the clauses
follow the model's choices of log entry 61. -/
def Obligations.SynthesiserEntriesAndQueuedCommands : Prop :=
  (∀ (x : Fin 3) (k : Fin 1024) (f : Fin 268435456) (temp : Int) (mv : Nat) (ok : Bool) (result : BitVec 22) (s : State),
     s.isOn (txDom x) = true →
     let within := Within [if x.val < 2 then 6 else 7] s
     let e := s.fld (synStat x) 25 16
     let idle := if s.chainOn x then 1 else 0
     let away (j : Nat) : Nat := (temp - (BitVec.ofNat 8 (s.fld (txCal x j) 31 24)).toInt).natAbs
     (frqInRange x f = true → ∃ t, exec (.frqWrite x k f) s = .next t ∧ t.fld (txFrq x k) 27 0 = f ∧ t.calValid x k = false ∧
       (∀ j, j < 1024 → j ≠ k → t.rd (txFrq x j) = s.rd (txFrq x j) ∧ t.rd (txCal x j) = s.rd (txCal x j)) ∧ within t) ∧
     (frqInRange x f = false → ∃ t, exec (.frqWrite x k f) s = .next t ∧ t.bit (txStat x) 10 = true ∧
       (∀ a, a ≠ txStat x → t.rd a = s.rd a) ∧ { t with regs := s.regs } = s) ∧
     (-128 ≤ temp → temp ≤ 127 → mv < 65536 → ∃ t, exec (.paSensorRead x temp mv) s = .next t ∧
       t.paTemp x = temp ∧ t.paVolt x = mv ∧ within t ∧ ∀ j, j < 1024 → s.calValid x j = true →
         (15 ≤ away j → t.calValid x j = false) ∧
         (5 ≤ away j → away j < 15 → t.calValid x j = true ∧ t.bit (txCal x j) 22 = true) ∧
         (away j < 5 → t.rd (txCal x j) = s.rd (txCal x j))) ∧
     (∃ t, exec (.calreqAll x) s = .next t ∧ within t ∧ (∀ j, j < 1024 → s.calValid x j = true →
       t.calValid x j = true ∧ t.bit (txCal x j) 22 = true) ∧
       t.fld (synStat x) 10 0 = ((List.range 1024).filter fun j => s.calValid x j).length) ∧
     (∃ t, exec (.calreqGo x k) s = .next t ∧ (t.chain x).calreq = some k.val ∧ { t with tx := s.tx } = s) ∧
     (s.syn x = 1 → s.bgcal x = true → (s.dom (txDom x)).hold ≠ some .delay → (s.chain x).queue = [] →
       (s.chain x).calreq = some k.val → ∃ t, exec (.bgcalStart x) s = .next t ∧ t.syn x = 5 ∧ t.fld (synStat x) 25 16 = k ∧
         (t.chain x).calreq = none ∧ (∀ a, a ≠ synStat x → t.rd a = s.rd a) ∧ { t with regs := s.regs, tx := s.tx } = s) ∧
     (s.syn x = 5 → (∃ t, exec (.calibrationDone x true result) s = .next t ∧ t.calValid x e = true ∧
         t.bit (txCal x e) 22 = false ∧ t.fld (txCal x e) 21 0 = result.toNat ∧ t.syn x = idle ∧ within t) ∧
       (∃ t, exec (.calibrationDone x false result) s = .next t ∧ t.calValid x e = false ∧ t.syn x = idle ∧ within t)) ∧
     (s.syn x = 2 ∨ s.syn x = 4 ∨ s.syn x = 5 → (s.chain x).run = none →
       ∃ u, exec (.nolock x ok) s = .next (u.fault 7 (txBlock x) (if ok then 3 else if s.syn x = 2 then 1 else 2) (word e)) ∧
         u.calValid x e = false ∧ u.syn x = idle ∧ within u)) ∧
  (∀ (c : Fin 8) (gd ga : Fin 16) (imm : BitVec 18) (fr : TxFrame) (s : State), imm.toNat < 2 →
     let d := s.desc c (s.gpr c ga) 8
     let w2 := d.getD 2 0
     let w3 := d.getD 3 0
     let w7 := d.getD 7 0
     let x := bits w2 13 12
     let rate := bits w3 19 16
     let power := (BitVec.ofNat 12 (bits w3 31 20)).toInt
     let crec := (d.getD 6 0).toNat
     let good := x ≠ 3 ∧ s.chainOn x = true ∧ (bits w2 15 14 = 0 ∨ bits w2 15 14 = 2) ∧
       (if x < 2 then rate < 4 ∨ rate = 8 else rate = 4) ∧ (rate < 4 → 4 ≤ bits w3 11 6) ∧ -160 ≤ power ∧ power ≤ 144 ∧
       s.fld (txFrq x (bits w2 9 0)) 27 0 ≠ 0 ∧ (bitAt w3 12 = true → rate ≠ 8 → (d.getD 4 0).toNat < nodeMax) ∧
       (0x10000000 ≤ crec ∧ crec + 16 ≤ 0x10010000) ∧ bits w7 17 16 ≠ 3 ∧
       (bits w7 17 16 = 1 → bitAt w3 12 = false ∨ rate = 8 → bits w7 24 18 < 5 ∨ (7 < bits w7 24 18 ∧ bits w7 24 18 ≤ 71)) ∧
       (rate ≠ 8 → fr.len ≤ if rate = 4 then 127 else 2047)
     s.able c [if x = 2 then 5 else 4, 7] = true →
     (good → s.txDepth x < 16 → ∃ t, exec (.txq c gd ga imm fr) s = .next t ∧ Returned s t c gd (completion stOK 0 (t.txDepth x)) ∧
       (∃ m, (t.chain x).queue.getLast? = some m ∧ m.sec = d.getD 0 0 ∧ m.grn = d.getD 1 0 ∧ m.lateMax = bits w2 31 16 ∧
         m.entry = bits w2 9 0 ∧ m.rate = rate ∧ m.power = power ∧ m.tag = bits w7 15 0 ∧ m.frame = fr) ∧
       (bits w2 15 14 = 0 → t.txDepth x = s.txDepth x + 1 ∧ t.mem = s.mem)) ∧
     (good → 16 ≤ s.txDepth x → ∃ t, exec (.txq c gd ga imm fr) s = .next t ∧ Returned s t c gd (completion stFULL) ∧
       { t with cores := s.cores } = s) ∧
     (¬good → ∃ t, exec (.txq c gd ga imm fr) s = .next t ∧ Returned s t c gd (completion stRANGE) ∧ { t with cores := s.cores } = s))

/-- R121, R123, R124, R127, R133, R137: the frame of the next command is fetched with a TX token, or held while all sixteen are
taken. A free synthesiser takes its next command to a hop, or to calibration when the entry is cold; one the guard refuses, or
that is late, ends with its outcome. A lock in time sets the air start; a clear channel lets it begin, a busy one moves it on; on
air the switch and the amplifier are driven; the end completes the command SENT, or ABORTED with detail 5, its completion record
written. Where the rules are silent or can be read in two ways, the clauses follow the model's choices of log entries 26 and 63.
-/
def Obligations.CommandsHopLockAndGoOnAir : Prop :=
  ∀ (x : Fin 3) (m : TxCmd) (r : TxRun) (a : Nat) (power : Int) (pdet : Fin 4096) (ck : Bool) (s : State),
    s.isOn (txDom x) = true →
    let chain (t : State) := t.chain x
    let serves (t : State) (f : TxRun → Bool) : Prop := ((chain t).run.map f) = some true
    let last (t : State) : Nat := t.fld (txLast x) 15 0
    let free := s.syn x = 1 ∧ (s.chain x).run = none ∧ (s.dom (txDom x)).hold ≠ some .delay
    let due (lock : Nat) : Nat := laterOf m.t (after s.now (lock + 8000))
    let locked := laterOf r.cmd.t (after s.now 8000)
    let idle := if s.chainOn x then 1 else 0
    let record (t : State) (outcome : Nat) : Prop := ∀ c line ev crec tag, r.cmd.src = .core c line ev crec tag →
      t.ldw (corePhys c crec.toNat) = word (r.cmd.tag % 65536 * 65536 + b2n r.cmd.demoted * 256 + outcome)
    (s.nextFetch x = some m → s.isOn 7 = true →
      (16 ≤ s.qfab.tx → s.qfab.heldTx.contains ⟨m.sec, m.grn, x, m.order⟩ = false → ∃ t, exec (.frameFetch x ck) s = .next t ∧
        t.qfab.heldTx = s.qfab.heldTx ++ [⟨m.sec, m.grn, x, m.order⟩] ∧ t.tx = s.tx ∧ t.bit QFAB_STAT 3 = true ∧ Within [9] s t) ∧
      (s.qfab.tx < 16 → m.frame.secured = false → ∃ t, exec (.frameFetch x ck) s = .next t ∧ t.qfab.tx = s.qfab.tx + 1 ∧
        (∀ n ∈ (chain t).queue, n.order = m.order → n.fetched = true) ∧ Within [6, 7] s t)) ∧
    (s.nextTx x = some m → free → m.stop = false → m.entry < 1024 → (∀ n d, m.src ≠ .ack n d) →
      (∀ b, s.guardCheck x { m with demoted := false } false = .inr b →
        lateUs (due (if s.calValid x m.entry then 25000 else 150000)) m.t ≤ m.lateMax →
        ∃ t, exec (.hopStart x) s = .next t ∧ t.syn x = (if s.calValid x m.entry then 2 else 4) ∧
          t.fld (synStat x) 25 16 = m.entry ∧ serves t (fun q => q.cmd.order == m.order && q.band == b && q.a == none) ∧
          (chain t).queue = (chain s).queue.filter (fun n => n.order != m.order) ∧ Within [if x.val < 2 then 6 else 7] s t) ∧
      (∀ d, s.guardCheck x { m with demoted := false } false = .inl (4, d) → d < 256 →
        ∃ t, exec (.hopStart x) s = .next t ∧ last t = 256 * d + 4 ∧ (chain t).run = none ∧ t.syn x = s.syn x)) ∧
    ((chain s).run = some r → s.syn x = 2 → (lateUs locked r.cmd.t ≤ r.cmd.lateMax → ∃ t, exec (.lock x) s = .next t ∧
        t.syn x = 3 ∧ serves t (fun q => q.a == some locked) ∧ Within [if x.val < 2 then 6 else 7] s t) ∧
      (r.cmd.stop = false → r.cmd.lateMax < lateUs locked r.cmd.t → ∃ t, exec (.lock x) s = .next t ∧ (chain t).run = none ∧
        last t = (if r.cmd.displaced then 4 else 1) * 256 + 2)) ∧
    ((chain s).run = some r → r.a = some a → s.syn x = 3 → r.clear = false →
      let level := (BitVec.ofNat 8 (s.fld (SUBTX_GRDb_LBT r.band) 23 16)).toInt
      let moved := after a (1000 * s.fld (SUBTX_GRDb_LBT r.band) 15 0)
      (power < level → ∃ t, exec (.lbtMeasurement x power) s = .next t ∧ serves t (fun q => q.clear) ∧ { t with tx := s.tx } = s) ∧
      (level ≤ power → lateUs moved r.cmd.t ≤ r.cmd.lateMax → ∃ t, exec (.lbtMeasurement x power) s = .next t ∧
        serves t (fun q => q.a == some moved && !q.clear) ∧ { t with tx := s.tx } = s)) ∧
    ((chain s).run = some r → r.a = some a → s.syn x = 3 → r.clear = true → r.cmd.fetched = true →
      lateUs (laterOf a s.now) r.cmd.t ≤ r.cmd.lateMax → ∃ t, exec (.airStart x pdet) s = .next t ∧ t.syn x = 6 ∧
        (chain t).trsw = true ∧ (chain t).paEn = true ∧ serves t (fun q => q.ramp == some s.clock) ∧ Calm s t) ∧
    ((chain s).run = some r → s.syn x = 6 →
      (r.clip = 0 → ∃ t, exec (.txComplete x false) s = .next t ∧ t.syn x = idle ∧ (chain t).run = none ∧
        (chain t).trsw = false ∧ (chain t).paEn = false ∧ last t = 0 ∧ record t 0 ∧
        t.fld (txCnt2 x) 31 16 = min (s.fld (txCnt2 x) 31 16 + 1) 65535) ∧
      (r.ramp.isSome = true → ∃ t, exec (.txComplete x true) s = .next t ∧ t.syn x = idle ∧ (chain t).run = none ∧
        (chain t).paEn = false ∧ last t = 5 * 256 + 5 ∧ record t (5 * 16 + 5)))

/-- R135, R138, R142, R196: at a bucket boundary with nothing on air the account of each band of the radio starts a new bucket.
The guard image is locked in PROVISION with its key, and LOCKED or MISMATCH is fused with its CRC. A 2.4 GHz frame is stamped and
counted. A token comes back. Where the rules are silent or can be read in two ways, the clauses follow the model's choices of log
entries 24 and 63. -/
def Obligations.DutyGuardTokensAndTheIsmReceiver : Prop :=
  ∀ (r : Fin 2) (b : Fin 8) (v : Word) (ok : Bool) (octets : List Byte) (status : Fin 8) (foff toff : BitVec 16) (rssi : BitVec 12)
    (snr : Int) (n : Fin 64) (s : State),
    let crc := crc16 s.guardImage
    ((∀ x, x < 3 → (s.chain x).run = none) → ∃ t, exec (.bucketAdvance r) s = .next t ∧ Within [6, 7] s t ∧
      (s.bandRadio b = r → (t.duty b).cur = 0 ∧ (t.duty b).hist = ((s.duty b).cur :: (s.duty b).hist).take 360 ∧
        ((t.duty b).used ≤ s.budget b - s.allowance b → t.bit (dutyUsed r b) 31 = false)) ∧
      (s.bandRadio b ≠ r → t.duty b = s.duty b)) ∧
    (s.isOn 4 = true → bits v 31 16 = 0x4C4B → v.getLsbD 0 = true → s.mode = 1 → s.fld SUBTX_GRDSTAT 31 30 = 0 →
      ∃ t, exec (.guardLock v) s = .next t ∧ t.tx.fusing = true ∧ { t with tx := s.tx } = s) ∧
    (s.tx.fusing = true → ∃ t, exec (.guardFused ok) s = .next t ∧ t.tx.fusing = false ∧ t.bit SUBTX_GRDSTAT 31 = ok ∧
      t.bit SUBTX_GRDSTAT 30 = !ok ∧ t.fld SUBTX_GRDSTAT 15 0 = crc % 65536 ∧ Within [6] s t) ∧
    (s.isOn 5 = true → s.bit ISM_RX_CTL 31 = true → (s.chain 2).trsw = false → s.mode ≠ 9 →
      (∃ t, exec (.ismRxFrame octets status true foff rssi snr toff) s = .next t ∧
        t.fld ISM_RX_CNT 31 16 = min (s.fld ISM_RX_CNT 31 16 + 1) 65535 ∧ (∀ a, a ≠ ISM_RX_CNT → t.rd a = s.rd a) ∧
        { t with regs := s.regs } = s) ∧
      (∃ t, exec (.ismRxFrame octets status false foff rssi snr toff) s = .next t ∧ t.bit ISM_RX_SFD 31 = true ∧
        t.fld ISM_RX_SFD 15 0 = toff.toNat ∧ t.fld ISM_RX_SFD 29 16 = s.rx.tag.toNat % 2 ^ 14 ∧ t.rx.tag = s.rx.tag + 1 ∧
        t.fld ISM_RX_STAT 31 20 = rssi.toNat ∧ t.fld ISM_RX_STAT 2 0 = status ∧ t.mem = s.mem)) ∧
    (∃ t, exec (.tokenReturn 0 n) s = .next t ∧ t.qfab.lane.getLsbD n = false ∧
      (∀ j, j ≠ n.val → t.qfab.lane.getLsbD j = s.qfab.lane.getLsbD j) ∧ { t with qfab := s.qfab } = s) ∧
    ((∀ x, x < 3 → (s.chain x).run = none ∧ (s.chain x).queue = []) → 0 < s.qfab.tx →
      ∃ t, exec (.tokenReturn 1 n) s = .next t ∧ t.qfab.tx = s.qfab.tx - 1 ∧ { t with qfab := s.qfab } = s) ∧
    (∃ t, exec (.tokenReturn 2 n) s = .next t ∧ t.qfab.ch = s.qfab.ch - 1 ∧ { t with qfab := s.qfab } = s)

/-- R153, R155, R168: a chain begins at an even second of running, disciplined network time while EN is set, with the bank of NEXT
and the resynchronisation bits, whose paths note its start; with EN clear none begins. R154, R156–R158, R161, R162: the entry of a
slot, once per span, gives the path's chain a transmission at the slot's start plus TXOFF: a beacon on its channel, a poll of a
node that may be polled, the head of the broadcast queue, or its wake frames; LISTEN and ALARM send nothing. An entry whose values
its kind does not admit is skipped and counted. Where the rules are silent or can be read in two ways, the clauses follow the
model's choices of log entries 28 and 64. -/
def Obligations.ChainsSlotsAndTheirStart : Prop :=
  (∀ (s : State), s.isOn 7 = true →
     let sec := s.time.sec.toNat / 2 * 2
     let next := s.fld MAC_CHAINCTL 0 0
     ((∀ c, s.mac.chain = some c → c.rs = #v[false, false]) → s.bit MAC_CTL 0 = true → s.isOn 12 = true → s.time.running = true →
       s.tqState ≠ 0 → s.mode ≠ 7 → ∃ t, exec .chainStart s = .next t ∧ Within [8] s t ∧
         t.mac.chain = some ⟨sec, next, #v[s.bit MAC_CHAINCTL 4, s.bit MAC_CHAINCTL 5]⟩ ∧ t.fld MAC_CHAINCTL 8 8 = next ∧
         (s.bit MAC_CHAINCTL 4 = true → t.rd MAC_RSTIME0 = word sec) ∧ (s.bit MAC_CHAINCTL 5 = true → t.rd MAC_RSTIME1 = word sec) ∧
         (next ≠ s.fld MAC_CHAINCTL 8 8 → t.bit MAC_STAT 3 = true)) ∧
     (s.bit MAC_CTL 0 = false → ∃ t, exec .chainStart s = .next t ∧ t.mac.chain = none ∧ Within [8] s t)) ∧
  (∀ (p : Fin 2) (n : Fin 800) (c : ChainRun) (v : Word) (head : Option (TxFrame × Fin 4 × Fin 64)) (s : State),
     s.slotNow p n = some (c, v) →
     let kind := bits v 31 29
     let span := bits v 27 25 + 1
     let ch := bits v 24 18
     let arg := bits v 17 0
     let entry := s.txBase p + ch
     let start := (slotStart c.start n + (roundDiv (s.fld MAC_CTL 31 24 * 1000 * 2 ^ 32) 1000000000).toNat) % 2 ^ 64
     let node := bits v 16 0
     let can := entry ≤ 1023 ∧ s.isOn 4 = true ∧ s.chainOn p = true ∧ s.fld (txFrq p entry) 27 0 ≠ 0 ∧ s.txDepth p < 16
     let sends (i : Instr) (q : TxCmd → Prop) (keep : State → Prop) : Prop := ∃ t, exec i s = .next t ∧ keep t ∧
       ∃ m, (t.chain p).queue.getLast? = some m ∧ m.src = .mac ∧ m.t = start ∧ m.entry = entry ∧ q m
     let skipped := s.slotSkip
     (kind = 1 → (2 ≤ span → arg = 0 → can → sends (.slotBeacon p n) (fun m => m.rate = s.fld MAC_CTL 3 2 ∧
         m.pre = s.fld MAC_CTL 19 14 ∧ m.frame.dest = 0xFFFF ∧ m.frame.secured = true) (Within [6, 8] s)) ∧
       (span < 2 ∨ arg ≠ 0 → exec (.slotBeacon p n) s = .next skipped)) ∧
     (kind = 2 → v.getLsbD 17 = false → can →
       let at_ := (ch : Int) + (BitVec.ofNat 8 (s.node node 0x37 1)).toInt
       (s.pollable node start = true → 0 ≤ at_ → at_ ≤ 127 → sends (.slotPoll p n head) (fun m => m.uni = true ∧
         m.target = word node ∧ m.rate = s.node node 0x12 1 % 4 ∧ m.lateMax = 50)
         (fun t => (∀ a, a ≠ s.nodeBase node + 0x29 → t.byte a = s.byte a) ∧ ∀ k r, t.gpr k r = s.gpr k r)) ∧
       (s.pollable node start = false → exec (.slotPoll p n head) s = .next skipped)) ∧
     (kind = 2 → v.getLsbD 17 = true → can → (∀ f rate pre, head = some (f, rate, pre) → sends (.slotPoll p n head)
         (fun m => m.frame = f ∧ m.rate = rate.val ∧ m.pre = pre.val) (Within [6, 8] s)) ∧
       (head = none → exec (.slotPoll p n head) s = .next skipped)) ∧
     (kind = 3 → exec (.slotListen p n) s = .next (if bits v 16 0 ≤ 4095 ∧ v.getLsbD 17 = false then s else skipped)) ∧
     (kind = 4 → (3 ≤ span → bits v 15 0 ≠ 0 → bits v 17 16 = 0 → can → sends (.slotWake p n) (fun m => m.rate = 8 ∧
         bits m.target 15 0 = bits v 15 0 ∧ m.power = (BitVec.ofNat 12 (s.fld MAC_WAKEPWR 11 0)).toInt) (Within [6, 8] s)) ∧
       (span < 3 ∨ bits v 15 0 = 0 ∨ bits v 17 16 ≠ 0 → exec (.slotWake p n) s = .next skipped)) ∧
     (kind = 5 → exec (.slotAlarm p n) s = .next
       (if node ≠ 0 ∧ node ≤ 127 ∧ v.getLsbD 17 = false ∧ ch + node ≤ 128 then s else skipped)))

/-- R161, R163–R167, R170: the head of LOSTQ is read and removed. A deferred entry 2 s old, and seen-cache entries AGE seconds
old, go. An expected node whose brim is within BMAX gets its window; above it the node is LOST. A window that closes without a
contact counts a miss, and at MISSMAX the node is LOST. R149–R151, R159, R165, R177: a frame whose destination is not matched is
dropped and counted, as is one without security, one that is malformed, and one of no known node; one that passes waits with its
node for the decision. A frame with an error is decided BAD; one whose MIC fails 3 MIC; one with a counter above the node's is
NEW, delivered, and its counter kept. Where the rules are silent or can be read in two ways, the clauses follow the model's
choices of log entry 64. -/
def Obligations.ContactsAndMacDecisions : Prop :=
  (∀ (i : Fin 131072) (s : State), s.isOn 7 = true →
     (∀ j rest, s.mac.lost = j :: rest → ∃ t, exec .lostqPop s = .next t ∧ t.bus = word (2 ^ 31 + j) ∧ t.mac.lost = rest ∧
       t.regs = s.regs ∧ t.mem = s.mem) ∧
     (s.mac.lost = [] → exec .lostqPop s = .next { s with bus := 0 }) ∧
     (∀ d rest, s.mac.deferred = d :: rest → d.since + 2000000000 ≤ s.clock → ∃ t, exec .deferredAckExpiry s = .next t ∧
       t.mac.deferred = rest ∧ t.rd (MAC_CNTm 8) = word (min ((s.rd (MAC_CNTm 8)).toNat + 1) (2 ^ 32 - 1)) ∧
       (∀ a, a ≠ MAC_CNTm 8 → t.rd a = s.rd a) ∧ t.mem = s.mem) ∧
     (∃ t, exec .floodCacheExpiry s = .next t ∧ { t with mac := s.mac } = s ∧
       ∀ e, e ∈ t.mac.seen ↔ e ∈ s.mac.seen ∧ s.clock < e.2.2 + s.fld MAC_FLOODCFG 15 8 * 1000000000) ∧
     (∀ c, s.evalChain i = some c → s.expected i c = true → s.mustResync i = false → s.nodeState i = 2 → s.mode ≠ 7 → s.mode ≠ 9 →
       let bmax := s.fld MAC_BRIMCFG 31 22
       let e := s.expectAt i c
       let brim := brimUnits (s.fld MAC_BRIMCFG 21 12) (s.fld MAC_BRIMCFG 11 4 + s.node i 0x1C 2)
         (tdiff e (s.lastContact i)).toNat
       (brim ≤ bmax * 10 ^ 12 * 2 ^ 32 → ∃ t, exec (.expectationEvaluation i) s = .next t ∧
         (∃ w, t.mac.wins = s.mac.wins ++ [w] ∧ w.node = i.val ∧ w.e = e ∧ w.contact = false) ∧
         t.node i 0x1E 2 = min 65535 (ceilDiv brim (10 ^ 12 * 2 ^ 32)) ∧ t.regs = s.regs ∧
         ∀ a, a < s.nodeBase i + 0x1E ∨ s.nodeBase i + 0x20 ≤ a → t.byte a = s.byte a) ∧
       (bmax * 10 ^ 12 * 2 ^ 32 < brim → ∃ t, exec (.expectationEvaluation i) s = .next t ∧ t.nodeState i = 3 ∧
         t.mac.wins = s.mac.wins ∧ t.bit MAC_STAT 5 = true ∧ (s.mac.lost.length < 256 → t.mac.lost = s.mac.lost ++ [i.val]))) ∧
     (∀ w, s.mac.wins.find? (fun w => w.node == i.val) = some w →
       (w.contact = true → ∃ t, exec (.expectationWindowClose i) s = .next t ∧ t.mac.wins = s.mac.wins.erase w ∧
         { t with mac := s.mac } = s) ∧
       (w.contact = false → s.mode ≠ 9 → ∃ t, exec (.expectationWindowClose i) s = .next t ∧ t.mac.wins = s.mac.wins.erase w ∧
         let miss := min 255 (s.node i 0x3B 1 + 1)
         t.node i 0x3B 1 = miss ∧ (miss = s.fld MAC_BRIMCFG 3 0 → t.nodeState i = 3)))) ∧
  (∀ (q : Fin 65) (f : MlpFrame) (h : RxHead) (tr : Trailer) (mic ck : Bool) (s : State), s.isOn 7 = true →
     let wait (t : State) : Option RxHead := tabGet (fun _ => none) t.mac.head q.val
     let node := s.sourceNode f
     let counts (m : Nat) : Prop := ∃ t, exec (.macFilter q f) s = .next t ∧ wait t = none ∧
       t.rd (MAC_CNTm m) = word (min ((s.rd (MAC_CNTm m)).toNat + 1) (2 ^ 32 - 1)) ∧ Within [8] s t
     let decides (outcome : Nat) (given : Bool) (t : State) : Prop := exec (.receiveDecision q mic ck) s = .next t ∧
       t.mac.out = some ⟨q, outcome, given, false⟩ ∧ wait t = none ∧ t.slot q = none
     (s.addressed f = false → counts 0) ∧
     (s.addressed f = true → f.security = false ∨ f.secured = false → counts 2) ∧
     (s.addressed f = true → f.security = true → f.secured = true →
       (f.options = false ∨ mlpOk f (s.fld MAC_OUI 23 0) = false → counts 1) ∧
       (f.options = true → mlpOk f (s.fld MAC_OUI 23 0) = true →
         (node = none → f.typ ≠ 5 → counts 19) ∧
         (node ≠ none ∨ f.typ = 5 → (s.rxKey q f node).1 = true → ∃ t, exec (.macFilter q f) s = .next t ∧
           (wait t).map (fun h => (h.frame, h.node)) = some (f, node) ∧ t.mem = s.mem))) ∧
     (wait s = some h → s.trailer q = some tr → s.mode ≠ 9 →
       (tr.status ≠ 0 → ∃ t, decides 4 false t ∧ t.mem = s.mem) ∧
       (tr.status = 0 → h.key = true → mic = false → ∃ t, decides 3 false t ∧
         t.rd (MAC_CNTm 3) = word (min ((s.rd (MAC_CNTm 3)).toNat + 1) (2 ^ 32 - 1))) ∧
       (∀ i, tr.status = 0 → h.key = true → mic = true → h.frame.typ ≠ 5 → h.node = some i →
         let fresh := h.next = true ∨ s.node i 0x20 4 < h.frame.counter.toNat
         (fresh → h.frame.typ ≠ 8 → ck = false → ∃ t, decides 0 true t ∧ t.node i 0x20 4 = h.frame.counter.toNat) ∧
         (¬fresh → h.frame.counter.toNat < s.node i 0x20 4 → ∃ t, decides 2 false t ∧ t.bit MAC_STAT 6 = true))))

/-- R176, R177, R209: READ copies a context's hardware area to the window; WRITE stores its masked words, or answers RANGE and
stores nothing when a key belongs to another context; ALLOC takes the lowest free context, JOINING, or answers FULL; REMOVE puts a
context in QUARANTINE and removes its keys, and it is FREE 4 s later; STATE sets one of Table 06-11's values. A FREE context
answers NOTREADY. Where the rules are silent or can be read in two ways, the clauses follow the model's choices of log entry 64.
-/
def Obligations.NodeCommandsActOnTheContext : Prop :=
  ∀ (i : Fin 131072) (st : Fin 16) (s : State), s.isOn 7 = true → s.mode ≠ 9 →
    let done (t : State) (j status : Nat) : Prop := t.rd MAC_NODECMDSTAT = word (j * 256 + status)
    let used := s.nodeState i ≠ 0
    let plainMask := ∀ w, w < 3 → s.bit MAC_NODEWMASK w = false
    let stored (t : State) (j lo : Nat) : Prop := ∀ w, lo ≤ w → w < 32 →
      t.node j (4 * w) 4 = if s.bit MAC_NODEWMASK w then (s.rd (MAC_NODEWINw w)).toNat else s.node j (4 * w) 4
    (s.nodeState i = 0 → ∀ c ∈ [Instr.nodeRead i, .nodeWrite i, .nodeRemove i, .nodeState i st],
      exec c s = .next (s.nodeDone i stNOTREADY)) ∧
    (used → ∃ t, exec (.nodeRead i) s = .next t ∧ done t i stOK ∧ (∀ w, w < 32 → t.rd (MAC_NODEWINw w) = word (s.node i (4 * w) 4)) ∧
      Within [8] s t ∧ { t with regs := s.regs } = s) ∧
    (used → plainMask → (∀ k ∈ s.nodeKeys i, s.emFind k.1 k.2 = some i.val) → ∃ t, exec (.nodeWrite i) s = .next t ∧
      done t i stOK ∧ stored t i 0 ∧ t.fwd.em = s.fwd.em ∧
      ∀ a, a < s.nodeBase i ∨ s.nodeBase i + 128 ≤ a → t.byte a = s.byte a) ∧
    (∀ j, used → s.rd MAC_NODEWMASK = 3 → j ≠ i.val →
      let eui := (s.rd (MAC_NODEWINw 0)).toNat + 2 ^ 32 * (s.rd (MAC_NODEWINw 1)).toNat
      eui ≠ 0 → s.emFind false eui = some j → ∃ t, exec (.nodeWrite i) s = .next t ∧ done t i stRANGE ∧
        (∀ a, a ≠ MAC_NODECMDSTAT → t.rd a = s.rd a) ∧ { t with regs := s.regs } = s) ∧
    (s.freeNode = some i.val → plainMask → s.nodeKeys i = [] → ∃ t, exec .nodeAlloc s = .next t ∧ done t i stOK ∧
      t.nodeState i = 1 ∧ stored t i 3 ∧ ∀ a, a < s.nodeBase i ∨ s.nodeBase i + 128 ≤ a → t.byte a = s.byte a) ∧
    (s.freeNode = none → ∃ t, exec .nodeAlloc s = .next t ∧ done t 0 stFULL ∧ t.mem = s.mem) ∧
    (used → ∃ t, exec (.nodeRemove i) s = .next t ∧ done t i stOK ∧ t.nodeState i = 5 ∧
      (∀ short k, t.emFind short k ≠ some i.val) ∧ ∀ a, a ≠ s.nodeBase i + 0x0B → t.byte a = s.byte a) ∧
    (used → (st.val ≤ 5 → ∃ t, exec (.nodeState i st) s = .next t ∧ done t i stOK ∧ t.nodeState i = st ∧
        ∀ a, a ≠ s.nodeBase i + 0x0B → t.byte a = s.byte a) ∧
      (5 < st.val → exec (.nodeState i st) s = .next (s.nodeDone i stRANGE))) ∧
    (let q := tabGet (fun _ => 0) s.mac.quar i.val
     q ≠ 0 → q + 4000000000 ≤ s.clock + 1 → s.nodeState i = 5 → ∃ t, exec (.quarantineExpiry i) s = .next t ∧ t.nodeState i = 0 ∧
       tabGet (fun _ => 0) t.mac.quar i.val = 0 ∧ ∀ a, a ≠ s.nodeBase i + 0x0B → t.byte a = s.byte a)

/-- R184, R185, R187, R188, R190, R192, R193, R195: a producer's word with its parity goes into the port while it has a credit, or
room, and is held otherwise. A read of an empty port delivers nothing; of a good opening word that word with its tags, taking its
token; of a word with wrong parity the word as POISON, and the port discards on; a stray word nothing, a SOF inside a frame a
frame in error. A credit comes back; an audit of an idle port whose credits are not its depth sets back-pressure mode; a pending
return restores it. Where the rules are silent or can be read in two ways, the clauses follow the model's choices of log entries
12 and 47. -/
def Obligations.FramePortsKeepWordsAndCredits : Prop :=
  ∀ (q : Nat) (data : BitVec 64) (sof eof pa upset : Bool) (w : FWord) (rest : List FWord) (found : Option Nat) (s : State),
    q < 76 → s.isOn 7 = true →
    let p := s.port q
    let others (t : State) : Prop := ∀ r, r ≠ q → t.port r = s.port r
    let only (t : State) : Prop := others t ∧ { t with qfab := s.qfab } = s
    let word := mkFWord data sof eof pa
    let cnt (t : State) (hi lo : Nat) : Prop := t.fld (QFAB_Qq_CNT q) hi lo = min (s.fld (QFAB_Qq_CNT q) hi lo + 1) 255
    let reads := s.upd.pktPause = false ∨ enginePort q = false
    let out (t : State) (d : Delivered) : Prop := exec (.portRead q upset) s = .next t ∧ (t.port q).out = d ∧ others t ∧ Calm s t
    (p.wait = [] → (s.upd.pktPause = false ∨ 64 < q) →
      (p.room q = true → ∃ t, exec (.portWrite q data sof eof pa) s = .next t ∧ only t ∧ (t.port q).words = p.words ++ [word] ∧
        (t.port q).cred = (if p.bp then p.cred else p.cred - 1)) ∧
      (p.room q = false → ∃ t, exec (.portWrite q data sof eof pa) s = .next t ∧ only t ∧ (t.port q).words = p.words ∧
        (t.port q).wait = [word] ∧ (t.port q).cred = p.cred)) ∧
    (p.words = [] → reads → ∃ t, out t ⟨0, false, false, false, false, false⟩ ∧ (t.port q).words = [] ∧ t.regs = s.regs) ∧
    (p.words = w :: rest → p.wait = [] → p.disc = .none → reads →
      (w.ok ≠ upset → w.sof = true → p.rIn = false → chPort q = false ∨ s.qfab.ch < 16 → ∃ t,
        out t ⟨w.data, true, true, w.eof, w.pa, false⟩ ∧ (t.port q).words = rest ∧ (t.port q).rIn = !w.eof ∧
        (q < 64 → t.qfab.lane.getLsbD q = true) ∧ (chPort q = true → t.qfab.ch = s.qfab.ch + 1)) ∧
      (w.ok = upset → p.poison.length < s.fld QFAB_CTL 23 16 → ∃ t, out t ⟨w.data, true, !p.rIn, true, true, true⟩ ∧
        (t.port q).words = rest ∧ (t.port q).disc = .parity ∧ cnt t 31 24 ∧ t.bit QFAB_STAT 1 = true) ∧
      (w.ok ≠ upset → w.sof = false → p.rIn = false → ∃ t, out t ⟨0, false, false, false, false, false⟩ ∧ (t.port q).words = rest ∧
        cnt t 15 8) ∧
      (w.ok ≠ upset → w.sof = true → p.rIn = true → ∃ t, out t ⟨0, true, false, true, true, true⟩ ∧ (t.port q).words = rest ∧
        cnt t 15 8)) ∧
    (0 < p.transit → p.wait = [] → ∃ t, exec (.creditReturn q) s = .next t ∧ only t ∧ (t.port q).cred = p.cred + 1 ∧
      (t.port q).transit = p.transit - 1 ∧ (t.port q).words = p.words) ∧
    (s.bit QFAB_CTL 0 = true → p.bp = false → p.words = [] → p.transit = 0 →
      (found.getD p.cred = portDepth q → ∃ t, exec (.creditAudit false q found) s = .next t ∧ only t ∧ (t.port q).bp = false) ∧
      (found.getD p.cred ≠ portDepth q → ∃ t, exec (.creditAudit false q found) s = .next t ∧ others t ∧ Within [9] s t ∧
        (t.port q).bp = true ∧ t.bit (QFAB_Qq_CFG q) 31 = false ∧ t.bit QFAB_STAT 0 = true ∧ cnt t 7 0)) ∧
    (p.cpend = true → p.words = [] → ∃ t, exec (.creditModeRestore false q) s = .next t ∧ only t ∧ (t.port q).bp = false ∧
      (t.port q).cpend = false ∧ (t.port q).cred = portDepth q)

/-- R189, R191, R193, R197: a descriptor read takes the head of its queue and returns its credit, marked when the link memory read
with a parity error; PKTPUT appends while there is a credit and otherwise waits at itself. The host windows pop port 75, push port
74, and pop and push the selected queue; what finds no credit is ignored and counted. Where the rules are silent or can be read in
two ways, the clauses follow the model's choices of log entries 12 and 47. -/
def Obligations.DescriptorQueuesAndHostWindows : Prop :=
  ∀ (c : Fin 8) (gd ga : Fin 16) (imm : BitVec 18) (upset : Bool) (v : Word) (i : Nat) (e : Bool) (rest : List (Nat × Bool))
    (w : FWord) (ws : List FWord) (found : Option Nat) (s : State), s.isOn 7 = true →
    let queue := imm.toNat % 256
    let sel := s.fld QFAB_HDQSEL 7 0
    let room (d : Nat) : Prop := if (s.descq d).bp then (s.descq d).items.length < s.fld (QFAB_DQLIMd d) 14 0 else 0 < (s.descq d).cred
    let alone (d : Nat) : Prop := ∀ k g j, (s.core k).run ≠ .waiting (.pktput g d j)
    let holds (d : Nat) : Prop := (s.descq d).items = (i, e) :: rest ∧ alone d
    let took (t : State) (d : Nat) : Prop := (t.descq d).items = rest ∧ (∀ x, x ≠ d → t.descq x = s.descq x) ∧
      (t.descq d).cred = (if (s.descq d).bp then (s.descq d).cred else (s.descq d).cred + 1) ∧ t.mem = s.mem
    let put (t : State) (d j : Nat) : Prop := (t.descq d).items = (s.descq d).items ++ [(j, false)] ∧
      (∀ x, x ≠ d → t.descq x = s.descq x) ∧ t.regs = s.regs ∧ t.mem = s.mem
    let missed (t : State) : Prop := t.rd QFAB_HTXOVR = word (min ((s.rd QFAB_HTXOVR).toNat + 1) (2 ^ 32 - 1)) ∧
      (∀ a, a ≠ QFAB_HTXOVR → t.rd a = s.rd a) ∧ { t with regs := s.regs } = s
    (s.able c [7] = true → imm.toNat < 512 →
      (holds queue → ∃ t, exec (.pktget c gd 0 imm upset) s = .next t ∧ Returned s t c gd (pktWord i (e || upset)) ∧ took t queue)) ∧
    ((s.core c).run = .waiting (.pktget gd queue) → s.mode ≠ 9 → holds queue → ∃ t,
      exec (.pktgetWaitDone c upset) s = .next t ∧ (t.core c).run = .running ∧ Returned s t c gd (pktWord i (e || upset)) ∧
      took t queue) ∧
    (s.able c [7] = true → imm.toNat < 256 → let j := bits (s.gpr c ga) 23 0
      (room queue → ∃ t, exec (.pktput c gd ga imm) s = .next t ∧ Returned s t c gd (completion stOK) ∧ put t queue j) ∧
      (¬room queue → ∃ t, exec (.pktput c gd ga imm) s = .next t ∧ (t.core c).run = .waiting (.pktput gd queue j) ∧
        t.qfab = s.qfab ∧ Calm s t)) ∧
    ((s.port 75).words = w :: ws → w.ok ≠ upset → w.sof = true → (s.port 75).rIn = false → (s.port 75).disc = .none →
      (s.port 75).wait = [] → ∃ t, exec (.hrxPop upset) s = .next t ∧ t.rd QFAB_HRX_LO = w.data.setWidth 32 ∧
        t.rd QFAB_HRX_HI = (w.data >>> 32).setWidth 32 ∧ t.bus = word (8 + 4 + b2n w.eof * 2 + b2n w.pa) ∧ (t.port 75).words = ws ∧
        Within [9] s t) ∧
    ((s.port 74).room 74 = true → ∃ t, exec (.htxPush v) s = .next t ∧ (t.port 74).words = (s.port 74).words ++
      [mkFWord ((s.rd QFAB_HTX_HI) ++ (s.rd QFAB_HTX_LO)) (v.getLsbD 2) (v.getLsbD 1) (v.getLsbD 0)] ∧ { t with qfab := s.qfab } = s) ∧
    ((s.port 74).bp = false → (s.port 74).cred = 0 → ∃ t, exec (.htxPush v) s = .next t ∧ missed t) ∧
    (holds sel → ∃ t, exec (.hdqPop upset) s = .next t ∧ t.bus = word (b2n (e || upset) * 2 ^ 30 + i % 2 ^ 24) ∧ took t sel) ∧
    (let j := bits v 23 0
     (j ≤ 16383 → room sel → ∃ t, exec (.hdqPush v) s = .next t ∧ put t sel j) ∧
     (16383 < j ∨ ¬room sel → ∃ t, exec (.hdqPush v) s = .next t ∧ missed t)) ∧
    (s.bit QFAB_CTL 0 = true → (s.descq sel).bp = false →
      let lim := s.fld (QFAB_DQLIMd sel) 14 0
      let whole := found.getD (s.descq sel).cred + (s.descq sel).items.length = lim
      ∃ t, exec (.creditAudit true sel found) s = .next t ∧ (t.descq sel).items = (s.descq sel).items ∧ Within [9] s t ∧
        ((t.descq sel).bp = true ↔ ¬whole) ∧ (¬whole → t.bit (QFAB_DQLIMd sel) 31 = false ∧ t.bit QFAB_STAT 0 = true)) ∧
    ((s.descq sel).cpend = true → (s.descq sel).items = [] → ∃ t, exec (.creditModeRestore true sel) s = .next t ∧
      (t.descq sel).bp = false ∧ (t.descq sel).cred = s.fld (QFAB_DQLIMd sel) 14 0 ∧ { t with qfab := s.qfab } = s)

/-- R187: a read of an empty frame port returns all zero and changes nothing else; PKTGET of an empty queue returns gd[31] clear,
all bits zero, or with WAIT waits at itself; the host windows show an empty read as bit 31 of the status word, all else as it was.
-/
def Obligations.EmptyReadsChangeNothing : Prop :=
  ∀ (c : Fin 8) (gd : Fin 16) (imm : BitVec 18) (upset : Bool) (s : State), s.isOn 7 = true →
    (∀ q, q < 76 → (s.port q).words = [] → s.upd.pktPause = false →
      exec (.portRead q upset) s = .next (s.setPort q { s.port q with out := ⟨0, false, false, false, false, false⟩ })) ∧
    (s.able c [7] = true → imm.toNat < 512 → (s.descq (imm.toNat % 256)).items = [] →
      (imm.getLsbD 8 = false → ∃ t, exec (.pktget c gd 0 imm upset) s = .next t ∧ WroteOne s t c gd 0) ∧
      (imm.getLsbD 8 = true → ∃ t, exec (.pktget c gd 0 imm upset) s = .next t ∧
        (t.core c).run = .waiting (.pktget gd (imm.toNat % 256)) ∧ (t.core c).pc = (s.core c).pc ∧ Calm s t)) ∧
    ((s.port 75).words = [] → exec (.hrxPop upset) s = .next { s with bus := 0x80000000 }) ∧
    ((s.descq (s.fld QFAB_HDQSEL 7 0)).items = [] → exec (.hdqPop upset) s = .next { s with bus := 0x80000000 })

/-- R202–R208: the match of an address is the longest prefix of the table that covers it. ADD and DEL change one prefix, READ and
LOOKUP give their result, REBUILD takes the shadow; PFXSTAT shows BUSY until the command completes with its status, trie and
result. A length outside 12–128 is RANGE, a command while one runs sets CMDLOST. A write of FWD_DBASE empties the tables and
clears the journal. Where the rules are silent or can be read in two ways, the clauses follow the model's choices of log entry 65.
-/
def Obligations.PrefixCommandsKeepTheLongestMatch : Prop :=
  ∀ (len : Fin 256) (res : Fin 4096) (v : Word) (s : State), s.isOn 7 = true →
    let busy (i : Instr) (q : PfxCmd → Prop) : Prop := ∃ t k, exec i s = .next t ∧ t.fwd.cmd = some k ∧ q k ∧
      t.rd FWD_PFXSTAT = 0x80000000 ∧ Within [10] s t
    let p : Pfx := ⟨maskPfx s.pfxKey len, len, res⟩
    let same (q : Pfx) : Prop := q.addr = p.addr ∧ q.len = p.len
    let inLen := 12 ≤ len.val ∧ len.val ≤ 128
    (∀ (t : List Pfx) (a : BitVec 128), (∀ q, lpm t a = some q → q ∈ t ∧ q.covers a = true ∧ ∀ r ∈ t, r.covers a = true → r.len ≤ q.len) ∧
      (lpm t a = none → ∀ r ∈ t, r.covers a = false)) ∧
    (s.fwd.cmd = none → s.bit FWD_STAT 6 = false →
      (inLen → trieFull (withPfx s.fwd.trie p) = none → busy (.pfxAdd len res) fun k => k.status = pfxStat stOK ∧ p ∈ k.trie ∧
        p ∈ k.shadow ∧ ∀ q, ¬same q → (q ∈ k.trie ↔ q ∈ s.fwd.trie) ∧ (q ∈ k.shadow ↔ q ∈ s.fwd.shadow)) ∧
      (∀ d b, inLen → trieFull (withPfx s.fwd.trie p) = some (d, b) → busy (.pfxAdd len res) fun k =>
        k.status = pfxStat stFULL d b ∧ k.trie = s.fwd.trie ∧ k.shadow = s.fwd.shadow) ∧
      (inLen → (∃ q ∈ s.fwd.shadow, same q) → busy (.pfxDel len) fun k => k.status = pfxStat stOK ∧
        ∀ q, (q ∈ k.trie ↔ q ∈ s.fwd.trie ∧ ¬same q) ∧ (q ∈ k.shadow ↔ q ∈ s.fwd.shadow ∧ ¬same q)) ∧
      (inLen → (∀ q ∈ s.fwd.shadow, ¬same q) → busy (.pfxDel len) fun k => k.status = pfxStat stNOTREADY ∧ k.trie = s.fwd.trie) ∧
      (inLen → busy (.pfxRead len) fun k => k.status = pfxStat stOK ∧ k.trie = s.fwd.trie ∧
        (k.res = 0 ∧ (∀ q ∈ s.fwd.shadow, ¬same q) ∨
          ∃ q ∈ s.fwd.shadow, same q ∧ k.res = word (2 ^ 31 + len * 2 ^ 16 + q.res))) ∧
      (¬inLen → busy (.pfxAdd len res) fun k => k.status = pfxStat stRANGE ∧ k.trie = s.fwd.trie) ∧
      (busy .pfxLookup fun k => k.status = pfxStat stOK ∧ k.trie = s.fwd.trie ∧ k.res = match lpm s.fwd.trie s.pfxKey with
        | some q => word (2 ^ 31 + q.len * 2 ^ 16 + q.res)
        | none => if s.bit FWD_DEFAULT 31 then word (2 ^ 31 + 2 ^ 30 + s.fld FWD_DEFAULT 11 0) else 0) ∧
      (∃ t k, exec .rebuild s = .next t ∧ t.fwd.cmd = some k ∧ k.trie = s.fwd.shadow ∧ t.fwd.trie = [] ∧ Within [10] s t)) ∧
    (∀ k, s.fwd.cmd = some k → (∃ t, exec (.pfxAdd len res) s = .next t ∧ t.bit FWD_STAT 4 = true ∧ t.fwd = s.fwd) ∧
      (∃ t, exec .pfxCommandDone s = .next t ∧ t.rd FWD_PFXSTAT = k.status ∧ t.rd FWD_PFXRES = k.res ∧ t.fwd.trie = k.trie ∧
        t.fwd.shadow = k.shadow ∧ t.fwd.cmd = none ∧ Within [10] s t)) ∧
    (∃ t, exec (.regionInit v) s = .next t ∧ t.rd FWD_DBASE = v ∧ t.bit FWD_STAT 6 = true ∧ t.rd FWD_JWR = 0 ∧ t.rd FWD_JRD = 0 ∧
      t.fwd.shadow = [] ∧ t.fwd.br = [] ∧ t.fwd.em = Vector.replicate 2 [] ∧
      ∀ a, t.byte a = if v.toNat + 0x7C0000 ≤ a ∧ a < v.toNat + 0x800000 then memDefault a else s.byte a) ∧
    (∃ t, exec .regionInitDone s = .next t ∧ t.bit FWD_STAT 6 = false ∧ (∀ a, a ≠ FWD_STAT → t.rd a = s.rd a) ∧
      { t with regs := s.regs } = s)

/-- R173, R203, R206, R209, R210, R218: a frame goes where the KIND of its result says: dropped, to an Ethernet port, the host, a
node whose walk up the tree ends, a descriptor queue, or the miss queue; without a result to the miss queue. In STANDBY what is
bound for ETH0, ETH1 or MESH is dropped unless FWD_CTL[3] is set. An exact-match lookup shows the node of its key. R211–R215: a
bridged frame goes to the entry's port, to no port when that is its own, or to the flood set when its destination is multicast or
unknown; a good frame's source is learned on its port. The ager removes a dynamic entry of the age limit and leaves a younger one.
LOOKUP and READIDX show an entry, WRITE stores one, DELETE and FLUSH remove them. Where the rules are silent or can be read in two
ways, the clauses follow the model's choices of log entry 65. -/
def Obligations.FramesForwardAndTheBridgeLearns : Prop :=
  (∀ (dst : BitVec 128) (long : Bool) (s : State), s.isOn 7 = true →
     let goes (l : List Dest) (cnt : Nat) : Prop := ∃ t, exec (.routeLookup dst long) s = .next t ∧ t.fwd.dest = l ∧
       t.rd (FWD_CNTm cnt) = word (min ((s.rd (FWD_CNTm cnt)).toNat + 1) (2 ^ 32 - 1)) ∧ Within [8, 10] s t
     let misses := s.fld FWD_CTL 23 16
     let drops := s.mode = 5 ∧ s.bit FWD_CTL 3 = false
     let shows (t : State) (r : Option Nat) : Prop := t.bit FWD_EMSTAT 31 = r.isSome ∧ t.fld FWD_EMSTAT 16 0 = r.getD 0 % 2 ^ 17 ∧
       ∀ a, a ≠ FWD_EMSTAT → t.rd a = s.rd a
     (s.bit FWD_CTL 0 = true → s.mode ≠ 7 → s.mode ≠ 9 →
       (s.lookupRes dst = none → goes [.queue misses] 1) ∧
       (∀ r d n, s.lookupRes dst = some (r, d, n) →
         let kind := s.fld (FWD_RESr r) 31 28
         let arg := s.fld (FWD_RESr r) 16 0
         (kind = 0 → goes [] 3) ∧
         (kind = 1 → ¬drops → goes [.port 72] 0) ∧ (kind = 2 → ¬drops → goes [.port 73] 0) ∧
         (kind = 1 ∨ kind = 2 ∨ kind = 5 → drops → goes [] 11) ∧
         (kind = 3 → goes [.port 75] 0) ∧
         (∀ i, kind = 4 → s.iidNode (dst.setWidth 64) (arg % 4) = some i → s.nodeState i ≠ 0 → s.nodeState i ≠ 5 → ¬drops →
           long = false → (s.walkUp (s.fld MAC_RPLCFG 5 0) [] i).isSome = true → goes [.egress (s.node i 0x34 1 / 128) i] 0) ∧
         (kind = 4 → s.iidNode (dst.setWidth 64) (arg % 4) = none → goes [.queue misses] 2) ∧
         (kind = 5 → ¬drops → long = false → (s.walkUp (s.fld MAC_RPLCFG 5 0) [] arg).isSome = true →
           goes [.egress (s.node arg 0x34 1 / 128) arg] 0) ∧
         (kind = 5 → ¬drops → (long = true ∨ s.walkUp (s.fld MAC_RPLCFG 5 0) [] arg = none) →
           ∃ t, exec (.routeLookup dst long) s = .next t ∧ t.fwd.dest = [] ∧ Within [8, 10] s t) ∧
         (kind = 6 → goes [.queue (arg % 256)] 0) ∧
         (kind = 7 → ∃ t, exec (.routeLookup dst long) s = .next t ∧ t.fwd.dest = [.queue misses] ∧ t.regs = s.regs ∧ t.mem = s.mem))) ∧
     (s.bit FWD_STAT 6 = false →
       let key := (s.rd FWD_EMKEY_HI).toNat * 2 ^ 32 + (s.rd FWD_EMKEY_LO).toNat
       (∃ t, exec .emLookupEui s = .next t ∧ shows t (s.emFind false key) ∧ { t with regs := s.regs } = s) ∧
       (∃ t, exec .emLookupShort s = .next t ∧
         shows t (s.emFind true (s.fld FWD_EMKEY_HI 1 0 * 65536 + s.fld FWD_EMKEY_LO 15 0)) ∧ { t with regs := s.regs } = s) ∧
       (key / 2 ^ 16 ≠ 0xFFFE00 → ∃ t, exec .emLookupIid s = .next t ∧ shows t (s.emFind false (key ^^^ 2 ^ 57)) ∧ t.mem = s.mem))) ∧
  (∀ (p : Fin 4) (dst src : BitVec 48) (vid : Fin 4096) (b : Fin 4096) (noj : Bool) (n : Fin 16384) (i : Nat) (e : BrEnt) (s : State),
     s.isOn 7 = true → s.mode ≠ 9 →
     let flood := ((List.range 4).filter fun q => q != p.val && s.bit FWD_BRCFG q).map brDest
     let clk : BitVec 16 := BitVec.ofNat 16 (s.fld FWD_AGECLK 15 0)
     let shown (x : BrEnt) : Word := word (2 ^ 31 + b2n x.static * 2 ^ 30 + x.port * 2 ^ 16 + x.stamp.toNat)
     let key : BitVec 48 × Nat := (BitVec.ofNat 48 (s.fld FWD_BRKEY_HI 15 0 * 2 ^ 32 + (s.rd FWD_BRKEY_LO).toNat), s.fld FWD_BRKEY_HI 27 16)
     let data : BrEnt := ⟨key.1, key.2, s.fld FWD_BRDATA 17 16, s.bit FWD_BRDATA 30, BitVec.ofNat 16 (s.fld FWD_BRDATA 15 0)⟩
     let done (t : State) (status j : Nat) : Prop := t.rd FWD_BRSTAT = word (j * 2 ^ 16 + status)
     (s.bit FWD_CTL 1 = true → s.mode ≠ 7 → s.mode ≠ 5 →
       (dst.getLsbD 40 = true ∨ s.brFind dst vid = none → ∃ t, exec (.bridgeForward p dst src vid false) s = .next t ∧
         t.fwd.dest = flood ∧ { t with fwd := s.fwd } = s) ∧
       (dst.getLsbD 40 = false → s.brFind dst vid = some (i, e) → ∃ t, exec (.bridgeForward p dst src vid false) s = .next t ∧
         t.fwd.dest = (if e.port = p.val then [] else [brDest e.port]) ∧ Within [10] s t) ∧
       (s.bit (FWD_BRPORTp p) 31 = true → src.getLsbD 40 = false → s.brFind src vid = none →
         s.fld (FWD_BRPCNTp p) 14 0 < s.fld (FWD_BRPORTp p) 14 0 → (∃ w, w < 4 ∧ s.brEnt (4 * brBucket src vid + w) = none) →
         ∃ t, exec (.bridgeForward p dst src vid true) s = .next t ∧
           (t.brFind src vid).map (·.2) = some ⟨src, vid, p, false, clk⟩)) ∧
     (∃ t, exec (.agerVisit b) s = .next t ∧ ∀ w x, w < 4 → s.brEnt (4 * b.val + w) = some x →
       (x.static = true → t.brEnt (4 * b.val + w) = some x) ∧
       (x.static = false → 0 ≤ s.brAge x → s.brAge x < s.fld FWD_BRCFG 31 17 → t.brEnt (4 * b.val + w) = some x) ∧
       (x.static = false → 0 ≤ s.brAge x → (s.fld FWD_BRCFG 31 17 : Int) ≤ s.brAge x → t.brEnt (4 * b.val + w) = none) ∧
       (x.static = false → s.brAge x < 0 → t.brEnt (4 * b.val + w) = some { x with stamp := clk })) ∧
     (s.bit FWD_STAT 6 = false →
       (s.brFind key.1 key.2 = some (i, e) →
         (∃ t, exec .brLookup s = .next t ∧ done t stOK i ∧ t.rd FWD_BRDATA = shown e ∧ t.fwd = s.fwd ∧ Within [10] s t) ∧
         (∃ t, exec (.brWrite noj) s = .next t ∧ done t stOK i ∧ t.brEnt i = some data ∧ ∀ j, j ≠ i → t.brEnt j = s.brEnt j) ∧
         (∃ t, exec (.brDelete noj) s = .next t ∧ done t stOK i ∧ t.brEnt i = none ∧ ∀ j, j ≠ i → t.brEnt j = s.brEnt j)) ∧
       (s.brFind key.1 key.2 = none →
         (∃ t, exec .brLookup s = .next t ∧ done t stNOTREADY 0 ∧ t.rd FWD_BRDATA = 0 ∧ t.fwd = s.fwd ∧ Within [10] s t) ∧
         ((∃ w, w < 4 ∧ s.brEnt (4 * brBucket key.1 key.2 + w) = none) → ∃ t, exec (.brWrite noj) s = .next t ∧
           t.fld FWD_BRSTAT 15 0 = stOK ∧ (t.brFind key.1 key.2).map (·.2) = some data) ∧
         (exec (.brDelete noj) s = .next (s.brDone stNOTREADY 0))) ∧
       (tabRising s.fwd.br = true → ∃ t, exec (.brFlush noj p) s = .next t ∧ done t stOK 0 ∧
         ∀ j x, t.brEnt j = some x ↔ s.brEnt j = some x ∧ (x.static = true ∨ x.port ≠ p.val)) ∧
       (s.brEnt n = some e → ∃ t, exec (.readidx n) s = .next t ∧ done t stOK n ∧ t.rd FWD_BRDATA = shown e ∧ t.fwd = s.fwd ∧
         t.rd FWD_BRKEY_LO = word e.mac.toNat ∧ t.rd FWD_BRKEY_HI = word (e.vid * 2 ^ 16 + e.mac.toNat / 2 ^ 32) ∧ Within [10] s t)))

/-- R221–R226, R228: a frame with wrong scheduler words is dropped and counted; one with a bound flow joins it, unless the flow
holds its limit, and makes an IDLE flow ACTIVE; one without binds the lowest free flow. A selection moves the head of the chosen
flow to the output queue and sets its finish tag, and V to the start tag. A head that has waited AGEMAX is dropped at the sweep, a
younger one stays. Where the rules are silent or can be read in two ways, the clauses follow the model's choices of log entry 66.
-/
def Obligations.FlowsTakeSelectAndAgeFrames : Prop :=
  ∀ (e : Fin 4) (d : Fin 16384) (word0 word1 : Word) (f : Fin 4096) (h : SFrame) (rest : List SFrame) (s : State),
    s.isOn 7 = true → s.bit SCHED_CTL 0 = true → s.bit SCHED_STAT 5 = false → (∀ x ∈ s.sched.flow, x.1 < 4096) →
    let airb := bits word1 15 0
    let good := bits word0 31 30 = e ∧ airb ≠ 0 ∧ (if word0.getLsbD 29 then bits word0 16 0 ≤ 255 else bits word0 16 0 < 131072)
    let x := s.flow f
    let limit := s.fld (SCHED_FLOWf_STAT f) 26 20
    let ageMax := s.fld (SCHED_EGe_TIM e) 31 16
    let counts (t : State) (m : Nat) : Prop := t.rd (SCHED_CNTm m) = word (min ((s.rd (SCHED_CNTm m)).toNat + 1) (2 ^ 32 - 1))
    let out := s.fld (SCHED_EGe_CFG e) 7 0
    (¬good → s.mode ≠ 9 → ∃ t, exec (.schedEnqueue e (some d) word0 word1) s = .next t ∧ counts t 7 ∧ t.bit SCHED_STAT 4 = true ∧
      t.sched = s.sched ∧ Within [11] s t) ∧
    (good → s.flowOf word0 = some f.val → limit ≤ x.frames.length → ∃ t, exec (.schedEnqueue e (some d) word0 word1) s = .next t ∧
      t.flow f = { x with qfull := min (x.qfull + 1) 65535 } ∧ counts t 1 ∧ t.bit SCHED_STAT 1 = true) ∧
    (good → s.flowOf word0 = some f.val → x.frames.length < limit → ∃ t, exec (.schedEnqueue e (some d) word0 word1) s = .next t ∧
      (t.flow f).frames = x.frames ++ [⟨d, word0, airb, s.clock⟩] ∧ counts t 0 ∧
      t.flowState f = (if s.flowState f = 1 then 2 else s.flowState f) ∧ ∀ g, g ≠ f.val → t.flow g = s.flow g) ∧
    (good → s.flowOf word0 = none → s.bit SCHED_FLOWS 0 = false → s.lowFlow = some f.val → s.fld SCHED_CTL 7 1 ≠ 0 →
      ∃ t, exec (.schedEnqueue e (some d) word0 word1) s = .next t ∧ (t.flow f).bound = true ∧ (t.flow f).auto = true ∧
        (t.flow f).frames = [⟨d, word0, airb, s.clock⟩] ∧ t.flowEg f = e ∧ t.fld (SCHED_FLOWf_STAT f) 16 0 = bits word0 16 0 ∧
        t.fld (SCHED_FLOWf_CFG f) 31 16 = s.fld SCHED_CTL 31 16) ∧
    (s.bit (SCHED_EGe_CFG e) 31 = true → s.mode ≠ 7 → (s.descq out).items.length < s.fld (SCHED_EGe_CFG e) 27 24 →
      s.pickFlow e = some f.val → x.frames = h :: rest → ageMax = 0 → (f.val = 4095 → s.bit SCHED_FLOWS 0 = false) →
      ∃ t, exec (.selection e) s = .next t ∧ (t.descq out).items = (s.descq out).items ++ [(h.desc, false)] ∧
        (t.flow f).frames = rest ∧ (t.flow f).sent = min (x.sent + 1) 0xFFFFFFFF ∧
        (t.flow f).fl = x.start + word (ceilDiv (h.airb * 65536) (s.fld (SCHED_FLOWf_CFG f) 31 16)) ∧
        (rest ≠ [] → (t.flow f).start = (t.flow f).fl ∧ t.rd (SCHED_EGe_VT e) = x.start ∧ t.flowState f = 2) ∧
        (rest = [] → s.mode ≠ 9 → t.flowState f = if s.nodeFlow f then 3 else 1)) ∧
    (s.flowEg f = e → ∃ t, exec (.ageSweep e) s = .next t ∧
      (ageMax ≠ 0 → x.frames = [h] → ageMax * 1000000000 ≤ s.clock - h.since → (t.flow f).frames = []) ∧
      (x.frames = h :: rest → ageMax = 0 ∨ s.clock - h.since < ageMax * 1000000000 → (t.flow f).frames = x.frames))

/-- R222, R227, R229, R230, R235–R237: BIND, FREE, WAKE, SLEEP and READ act on a flow and answer in FLOWCMDSTAT; a flow of a node
sleeps again after WAKEHOLD, one bound by hardware is freed after FIDLE. A refill adds RATE × PERIOD × 8 µs up to BURST, a pending
change first. A policer is read into its window. The sweep clears every PEND.COUNT and keeps its FLAG. Where the rules are silent
or can be read in two ways, the clauses follow the model's choices of log entry 66. -/
def Obligations.FlowsShapersAndPolicersAnswerCommands : Prop :=
  ∀ (f : Fin 4096) (n : Fin 256) (i : Fin 1024) (clr : Bool) (v : Word) (s : State), s.isOn 7 = true →
    let done (t : State) (g status : Nat) : Prop := t.rd SCHED_FLOWCMDSTAT = word (g * 256 + status)
    let x := s.flow f
    let key := s.rd SCHED_FLOWKEY
    let wins (t : State) (l : List Word) : Prop := (List.range 4).map (fun w => t.rd (SCHED_FLOWWINw w)) = l
    let shared := f.val = 4095 ∧ s.bit SCHED_FLOWS 0 = true
    let inKey := key.getLsbD 29 = true → bits key 16 0 ≤ 255
    (¬inKey → ∃ t, exec .flowBind s = .next t ∧ done t 0 stRANGE ∧ t.sched = s.sched) ∧
    (inKey → s.flowOf key = some f.val → ∃ t, exec .flowBind s = .next t ∧ done t f stALREADY ∧ t.sched = s.sched) ∧
    (inKey → s.flowOf key = none → s.lowFlow = some f.val → ∃ t, exec .flowBind s = .next t ∧ done t f stOK ∧
      (t.flow f).bound = true ∧ (t.flow f).auto = false ∧ t.fld (SCHED_FLOWf_STAT f) 16 0 = bits key 16 0) ∧
    (inKey → s.flowOf key = none → s.lowFlow = none → ∃ t, exec .flowBind s = .next t ∧ done t 0 stFULL ∧ t.sched = s.sched) ∧
    (x.frames ≠ [] ∨ shared → ∃ t, exec (.flowFree f) s = .next t ∧ done t f stNOTREADY ∧ t.sched = s.sched) ∧
    (x.frames = [] → ¬shared → x.bound = true → ∃ t, exec (.flowFree f) s = .next t ∧ done t f stOK ∧ (t.flow f).bound = false ∧
      t.flowState f = 0) ∧
    (x.bound = true → x.frames = [] → s.flowState f = 3 → ∃ t, exec (.flowWake f) s = .next t ∧ done t f stOK ∧ t.flowState f = 1 ∧
      (t.flow f).woke = some s.clock ∧ Within [11] s t) ∧
    (x.bound = true → ¬shared → ∃ t, exec (.flowSleep f) s = .next t ∧ done t f stOK ∧ t.flowState f = 3 ∧ (t.flow f).woke = none ∧
      (t.flow f).frames = x.frames ∧ Within [11] s t) ∧
    (x.bound = false → ∀ c ∈ [Instr.flowWake f, .flowSleep f], ∃ t, exec c s = .next t ∧ done t f stNOTREADY ∧ t.sched = s.sched) ∧
    (x.frames = [] → ∃ t, exec (.flowRead f clr) s = .next t ∧ done t f stOK ∧
      wins t [0, x.fl, word x.sent, word (x.qfull * 65536 + x.aged)] ∧ (clr = false → t.sched = s.sched) ∧
      (clr = true → x.bound = true → t.flow f = { x with sent := 0, qfull := 0, aged := 0 })) ∧
    (x.woke.isSome = true → x.bound = true → s.nodeFlow f = true → ∃ t, exec (.wakeholdExpiry f) s = .next t ∧ t.flowState f = 3 ∧
      (t.flow f).woke = none ∧ Within [11] s t) ∧
    (x.auto = true → s.flowState f = 1 → s.fld SCHED_CTL 15 8 ≠ 0 → ∃ t, exec (.flowIdleExpiry f) s = .next t ∧
      (t.flow f).bound = false ∧ t.flowState f = 0 ∧ Within [11] s t) ∧
    (let y := s.shaper n
     let pend := s.bit (SCHED_SHPs_BURST n) 31
     ∃ t, exec (.shaperRefill n) s = .next t ∧ t.bit (SCHED_SHPs_BURST n) 31 = false ∧ Within [11] s t ∧
       (pend = true → (t.shaper n).cfg = s.rd (SCHED_SHPs_CFG n) ∧ (t.shaper n).burst = s.fld (SCHED_SHPs_BURST n) 15 0) ∧
       (pend = false → y.cfg.getLsbD 31 = true →
         let gain := roundDiv (bits y.cfg 23 0 * (bits y.cfg 30 24 * 8000) * 65536) 1000000000
         t.shaper n = { y with tok := min (y.tok + gain) (y.burst * 65536) }) ∧
       (pend = false → y.cfg.getLsbD 31 = false → t.shaper n = { y with tok := y.burst * 65536 })) ∧
    (let p := s.policer i
     ∃ t, exec (.policerRead i clr) s = .next t ∧ (List.range 5).map (fun w => t.rd (SCHED_POLWINw w)) =
       [word (p.tc / 65536), word (p.tp / 65536), word p.green, word p.yellow, word p.red] ∧
       t.policer i = (if clr then { p with green := 0, yellow := 0, red := 0 } else p) ∧ Within [11] s t) ∧
    (v.getLsbD 0 = true → s.sched.sweepDue = true → bits v 31 16 ≠ 0 → bits v 7 1 ≠ 0 → ∃ t, exec (.pendSweep v) s = .next t ∧
      t.rd SCHED_CTL = v ∧ t.bit SCHED_STAT 5 = true ∧ t.sched.sweepDue = false ∧ Within [11] s t) ∧
    (s.bit SCHED_STAT 5 = true → Memory.wf s.mem = true →
      let base := (s.rd MAC_NTBASE).toNat
      0x80000000 ≤ base → base + 0x2000000 ≤ 0x90000000 → ∃ t, exec .pendSweepDone s = .next t ∧ t.bit SCHED_STAT 5 = false ∧
        (∀ j, j < 131072 → t.node j 0x30 2 = s.node j 0x30 2 / 32768 * 32768) ∧
        ∀ a, a < base ∨ base + 0x2000000 ≤ a ∨ ((a - base) % 256 ≠ 0x30 ∧ (a - base) % 256 ≠ 0x31) → t.byte a = s.byte a)

/-- R243–R247: KEYLD of a VALID object in range whose MASK admits the engine loads its key: the core's slot for engines 0 and 1,
the WKR of engines 2 and 4, the group-key cache for 3; KDRV the key derived from a group object for engines 0–2. The first check
that fails gives the status: RANGE, HALTBLK, NOKEY, ORPHAN, MASK, and nothing is loaded. R257, R261, R262: a grant runs out. GO of
GCM-HOST starts a run, or sets ERR with an empty WKR or a bad address, and is ignored while BUSY; a sealing run writes its output
and tag, an opening run its output or TAGFAIL, and no other byte. Zeroization overwrites the salt once LOG is ON, then the objects
and counters, and the store mode is NONE. Where the rules are silent or can be read in two ways, the clauses follow the model's
choices of log entry 67. -/
def Obligations.KeyInstructionsGrantsAndZeroization : Prop :=
  (∀ (c : Fin 8) (gd ga gb : Fin 16) (imm : BitVec 18) (func : BitVec 14) (s : State), s.able c [8] = true → s.mode ≠ 11 →
     let o := (s.gpr c ga).toNat
     let k := s.obj o
     let e := imm.toNat
     let whole := s.bit KEYS_STAT 2 = false ∧ o < s.objRange ∧ k.state = 1 ∧ s.keys.sek = true
     let admitted (e : Nat) := k.typ = 1 ∧ k.mask / 2 ^ e % 2 = 1 ∧ ¬(s.fld KEYS_STAT 31 30 = 2 ∧ o = 0)
     let derivable (e : Nat) := k.typ = 1 ∧ k.mask / 8 % 2 = 1 ∧ k.dout / 2 ^ e % 2 = 1
     let d := corePhys c (s.gpr c gb).toNat
     let w2 := s.ldw (d + 8)
     let derived : KeyVal := ⟨o, true, linkKey (toBlock k.mat) (BitVec.ofNat 64 (beNat (s.octets d 8))) (w2.setWidth 16)⟩
     let wkr (t : State) (e : Nat) : Option KeyVal := vget t.keys.wkr e none
     let fails (i : Instr) (status detail : Nat) : Prop := ∃ t, exec i s = .next t ∧ Returned s t c gd (completion status detail) ∧
       t.keys = s.keys ∧ t.mem = s.mem
     (e < 5 → whole → admitted e → ∃ t, exec (.keyld c gd ga imm) s = .next t ∧ Returned s t c gd (completion stOK) ∧
       (e < 2 → t.slot (96 + c) = some ⟨o, false, toBlock k.mat⟩) ∧ (e = 2 ∨ e = 4 → wkr t e = some ⟨o, false, toBlock k.mat⟩) ∧
       (e = 3 → ∃ i u, vget t.keys.gcache i none = some (o, u)) ∧ t.keys.objs = s.keys.objs ∧ t.mem = s.mem) ∧
     (5 ≤ e → e < 8 → fails (.keyld c gd ga imm) stRANGE 0) ∧
     (e < 5 → s.objRange ≤ o → fails (.keyld c gd ga imm) stRANGE 0) ∧
     (e < 5 → o < s.objRange → s.bit KEYS_STAT 2 = true → fails (.keyld c gd ga imm) stHALTBLK 0) ∧
     (e < 5 → o < s.objRange → s.bit KEYS_STAT 2 = false →
       (k.state = 0 → fails (.keyld c gd ga imm) stNOKEY 0) ∧
       (k.state = 2 → s.keys.sek = true → fails (.keyld c gd ga imm) stNOKEY 1) ∧
       (k.state = 3 → s.keys.sek = true → fails (.keyld c gd ga imm) stORPHAN 0)) ∧
     (e < 5 → whole → ¬admitted e → fails (.keyld c gd ga imm) stMASK 0) ∧
     (func.toNat < 3 → bits w2 31 16 = 0 → s.ldw (d + 12) = 0 → whole → derivable func.toNat →
       ∃ t, exec (.kdrv c gd ga gb func) s = .next t ∧ Returned s t c gd (completion stOK) ∧
         (func.toNat < 2 → t.slot (96 + c) = some derived) ∧ (func.toNat = 2 → wkr t 2 = some derived) ∧ t.mem = s.mem) ∧
     (func.toNat < 8 → (3 ≤ func.toNat ∨ bits w2 31 16 ≠ 0 ∨ s.ldw (d + 12) ≠ 0) → fails (.kdrv c gd ga gb func) stRANGE 0) ∧
     (func.toNat < 3 → bits w2 31 16 = 0 → s.ldw (d + 12) = 0 → whole → ¬derivable func.toNat → fails (.kdrv c gd ga gb func) stMASK 0)) ∧
  (∀ (dir : Bool) (k : KeyVal) (p : List Byte) (s : State),
     let n := s.fld KEYS_GCM_LEN 15 0
     let an := s.fld KEYS_GCM_LEN 31 16
     let src := (s.rd KEYS_GCM_SRC).toNat
     let dst := (s.rd KEYS_GCM_DST).toNat
     let key := vget s.keys.wkr 2 none
     let fits := s.gcmRange src (an + n) = true ∧ s.gcmRange dst n = true
     let sealed := Config.gcmSeal k.key (s.keyBuf 0 12) (s.octets src an) (s.octets (src + an) n)
     let wrote (t : State) (l : List Byte) : Prop := t.octets dst n = fit n l ∧ ∀ a, a < dst ∨ dst + n ≤ a → t.byte a = s.byte a
     (s.fld KEYS_AUTHSTAT 3 0 ≠ 0 → ∃ t, exec .grantExpiry s = .next t ∧ t.rd KEYS_AUTHSTAT = 0 ∧
       (∀ a, a ≠ KEYS_AUTHSTAT → t.rd a = s.rd a) ∧ { t with regs := s.regs } = s) ∧
     (s.isOn 8 = true → s.bit KEYS_GCM_CTL 31 = true → exec (.gcmRun dir) s = .next s) ∧
     (s.isOn 8 = true → s.bit KEYS_GCM_CTL 31 = false → ∃ t, exec (.gcmRun dir) s = .next t ∧ t.bit KEYS_GCM_CTL 1 = dir ∧
       (t.bit KEYS_GCM_CTL 31 = true ↔ key ≠ none ∧ fits) ∧ (t.bit KEYS_GCM_CTL 30 = true ↔ key = none ∨ ¬fits) ∧
       (∀ a, a ≠ KEYS_GCM_CTL → t.rd a = s.rd a) ∧ { t with regs := s.regs } = s) ∧
     (s.isOn 8 = true → s.bit KEYS_GCM_CTL 31 = true → s.lockedRange dst n = false →
       (key = none → ∃ t, exec .gcmDone s = .next t ∧ t.bit KEYS_GCM_CTL 31 = false ∧ t.bit KEYS_GCM_CTL 30 = true ∧ Within [12] s t) ∧
       (key = some k → s.bit KEYS_GCM_CTL 1 = false → ∃ t, exec .gcmDone s = .next t ∧ t.bit KEYS_GCM_CTL 31 = false ∧ wrote t sealed ∧
         t.keyBuf 4 16 = fit 16 (sealed.drop n)) ∧
       (key = some k → s.bit KEYS_GCM_CTL 1 = true →
         let opened := Config.gcmOpen k.key (s.keyBuf 0 12) (s.octets src an) (s.octets (src + an) n ++ s.keyBuf 4 16)
         (opened = some p → ∃ t, exec .gcmDone s = .next t ∧ t.bit KEYS_GCM_CTL 31 = false ∧ wrote t p) ∧
         (opened = none → ∃ t, exec .gcmDone s = .next t ∧ t.bit KEYS_GCM_CTL 31 = false ∧ t.bit KEYS_GCM_CTL 29 = true ∧
           Within [12] s t))) ∧
     (s.keys.zero = 1 → s.isOn 14 = true → ∃ t, exec .zeroizeSalt s = .next t ∧ t.keys.zero = 2 ∧ t.bit KEYS_STAT 3 = true ∧
       (∀ a, a ≠ KEYS_STAT → t.rd a = s.rd a) ∧ t.mem = s.mem) ∧
     (s.keys.zero = 2 → s.isOn 14 = true → ∃ t, exec .zeroize s = .next t ∧ t.keys.zero = 0 ∧ t.keys.objs = [] ∧ t.keys.devCtr = [] ∧
       t.fld KEYS_STAT 31 30 = 0 ∧ t.bit KEYS_STAT 3 = false ∧ t.keys.nodeCkpt = s.keys.nodeCkpt ∧ Within [12] s t))

/-- R238, R240, R246, R255, R256, R258–R263: a store command permitted in the lifecycle state and mode acts on the store and is
BUSY until it completes with its status, detail and object: SETMODE on an empty store, CREATE and IMPORT at the lowest EMPTY
index, EXPORT, INVALIDATE with its descendants, DELETE, READATTR, VERIFY, AUTHORISE and NEWCHAL. One written while BUSY is lost.
Where the rules are silent or can be read in two ways, the clauses follow the model's choices of log entries 20 and 67. -/
def Obligations.StoreCommandsActOnTheStore : Prop :=
  ∀ (a : Agent) (arg : Fin 16) (key2 obj : Fin 4096) (o : Nat) (s : State), s.isOn 8 = true →
    let ready := s.bit KEYS_CMDSTAT 31 = false ∧ (s.dom 8).hold ≠ some .delay ∧ s.mode ≠ 9 ∧ s.mode ≠ 11
    let ends (i : Instr) (status detail j : Nat) (q : State → Prop) : Prop := ∃ t k, exec i s = .next t ∧
      t.bit KEYS_CMDSTAT 31 = true ∧ t.keys.cmd = some k ∧ k.status = status ∧ k.detail = detail ∧ k.obj = j ∧ q t ∧ Within [12] s t
    let life := s.lifecycle
    let tree := s.fld KEYS_STAT 31 30 = 2
    let kept (t : State) : Prop := t.keys.objs = s.keys.objs
    let entered (attr : Word) (mat : Option (List Byte)) (t : State) : Prop := (t.obj o).state = 1 ∧ (t.obj o).typ = bits attr 31 30 ∧
      (∀ m, mat = some m → (t.obj o).mat = m) ∧ (t.obj o).depth = (if tree then (s.obj key2).depth + 1 else 0) ∧
      (t.obj o).parent = (if tree then key2.val else 0) ∧ ∀ x, x ≠ o → t.obj x = s.obj x
    let under := tree → key2.val < s.objRange ∧ (s.obj key2).state = 1 ∧ s.keys.sek = true ∧ (s.obj key2).depth < 6
    let wraps := key2.val < s.objRange ∧ (s.obj key2).state = 1 ∧ s.keys.sek = true ∧ (s.obj key2).typ = 1 ∧
      (s.obj key2).mask / 16 % 2 = 1
    let kek := ofBlock (toBlock (s.obj key2).mat)
    let signs (auth : Bool) := (s.obj key2).state = 1 ∧ s.keys.sek = true ∧ (s.obj key2).typ = 2 ∧
      (if auth then (s.obj key2).auth else (s.obj key2).verify) = true
    let digest : BitVec 256 := BitVec.ofNat 256 (beNat (s.keyBuf 0 32))
    let purpose := bits (s.rd (KEYS_BUFk 16)) 27 24
    let granting := Config.sha256 ([BitVec.ofNat 8 purpose] ++ beOctets (s.rd SYS_ID).toNat 4 ++ s.challenge)
    (s.bit KEYS_CMDSTAT 31 = true → ∀ i ∈ [Instr.setmode a arg, .create a key2, .importWrapped a key2, .importPlain a key2,
        .exportObj a key2 obj, .invalidate a obj, .keysDelete a obj, .readattr a obj, .keysVerify a key2, .authorise a key2, .newchal a],
      exec i s = .next (s.setBit KEYS_FLAGS 7 true)) ∧
    (ready → life ≤ 1 → s.keys.objs = [] → s.fld KEYS_STAT 31 30 = 0 →
      (arg.val = 1 → ends (.setmode a arg) stOK 0 0 fun t => t.fld KEYS_STAT 31 30 = 1 ∧ kept t) ∧
      (arg.val = 2 → ends (.setmode a arg) stOK 0 0 fun t => t.fld KEYS_STAT 31 30 = 2 ∧ (t.obj 0).state = 1 ∧ (t.obj 0).typ = 1 ∧
        (t.obj 0).mask = 16 ∧ (t.obj 0).exportable = false)) ∧
    (ready → life ≤ 1 → s.keys.objs ≠ [] → ends (.setmode a arg) stLIFECYCLE 0 0 kept) ∧
    (ready → 2 ≤ life → ends (.setmode a arg) stLIFECYCLE 0 0 kept) ∧
    (ready → life ≤ 2 → s.freeObj = some o → s.fld KEYS_ATTR 31 30 = 1 → under →
      ends (.create a key2) stOK 0 o (entered (s.rd KEYS_ATTR) none)) ∧
    (ready → life ≤ 2 → s.fld KEYS_STAT 31 30 ≠ 0 → s.freeObj = none → ends (.create a key2) stFULL 1 0 kept) ∧
    (ready → life ≤ 1 → s.freeObj = some o → s.fld KEYS_ATTR 31 30 = 2 → under →
      ends (.importPlain a key2) stOK 0 o (entered (s.rd KEYS_ATTR) (some (s.keyBuf 0 64)))) ∧
    (ready → life ≤ 2 → s.freeObj = some o → under → wraps →
      (∀ b, Config.keyUnwrap kek (s.keyBuf 0 32) = some b →
        let attr := word (beNat ((fit 8 (b.drop 16)).take 4))
        bits attr 31 30 = 1 → bits attr 13 12 = 0 → beNat ((fit 8 (b.drop 16)).drop 4) = 0 →
        ends (.importWrapped a key2) stOK 0 o (entered attr (some (fit 16 b)))) ∧
      (Config.keyUnwrap kek (s.keyBuf 0 32) = none → Config.keyUnwrap kek (s.keyBuf 0 80) = none →
        ends (.importWrapped a key2) stAUTH 0 0 kept)) ∧
    (ready → life ≤ 2 → obj.val < s.objRange → (s.obj obj).state = 1 → wraps → ¬(tree ∧ obj.val = 0) →
      (life ≠ 2 ∨ (s.obj obj).exportable = true → ends (.exportObj a key2 obj) stOK 0 obj fun t => kept t ∧
        let n := if (s.obj obj).typ = 1 then 32 else 80
        t.keyBuf 0 n = fit n (Config.keyWrap kek ((s.obj obj).mat ++ beOctets ((s.obj obj).attr &&& 0xCE3FC000).toNat 4 ++ beOctets 0 4))) ∧
      (life = 2 → (s.obj obj).exportable = false → ends (.exportObj a key2 obj) stLIFECYCLE 0 obj kept)) ∧
    (ready → life ≤ 3 → obj.val < s.objRange → ¬(tree ∧ obj.val = 0) → (s.obj obj).state ≠ 0 →
      (ends (.invalidate a obj) stOK 0 obj fun t => (t.obj obj).state = 2 ∧ (∀ q k, t.slot q = some k → k.src ≠ obj) ∧
        ∀ x, x ≠ obj.val → (t.obj x).state = if x ∈ s.descendants obj ∧ (s.obj x).state = 1 then 3 else (s.obj x).state) ∧
      (ends (.keysDelete a obj) stOK 0 obj fun t => ∀ x,
        t.obj x = if x = obj.val ∨ x ∈ s.descendants obj then emptyObj x else s.obj x)) ∧
    (ready → life ≤ 3 → tree → obj.val = 0 → ends (.invalidate a obj) stDENIED 0 0 kept ∧ ends (.keysDelete a obj) stDENIED 0 0 kept) ∧
    (ready → life ≤ 3 → obj.val < s.objRange → ends (.readattr a obj) stOK 0 obj fun t => t.rd KEYS_ATTR = (s.obj obj).attr ∧ kept t) ∧
    (ready → life ≤ 3 → signs false →
      (Config.ecdsaVerify (s.obj key2).mat digest (s.keyBuf 8 64) = true → ends (.keysVerify a key2) stOK 0 key2 kept) ∧
      (Config.ecdsaVerify (s.obj key2).mat digest (s.keyBuf 8 64) = false → ends (.keysVerify a key2) stAUTH 1 key2 kept)) ∧
    (ready → life ≤ 3 → signs true →
      (Config.ecdsaVerify (s.obj key2).mat granting (s.keyBuf 0 64) = true → ends (.authorise a key2) stOK 0 key2 fun t =>
        t.rd KEYS_AUTHSTAT = word (60 * 65536 + purpose) ∧ kept t) ∧
      (Config.ecdsaVerify (s.obj key2).mat granting (s.keyBuf 0 64) = false → ends (.authorise a key2) stAUTH 1 key2 fun t =>
        t.rd KEYS_AUTHSTAT = s.rd KEYS_AUTHSTAT ∧ kept t)) ∧
    (ready → life ≤ 3 → ends (.newchal a) stOK 0 0 fun t => kept t ∧ ∀ x, x ≠ KEYS_CHAL_LO → x ≠ KEYS_CHAL_HI → x ≠ KEYS_CMDSTAT →
      t.rd x = s.rd x) ∧
    (∀ k, s.keys.cmd = some k → ∃ t, exec .keysCommandDone s = .next t ∧ t.keys.cmd = none ∧
      t.rd KEYS_CMDSTAT = word (k.obj * 65536 + k.detail * 256 + k.status) ∧ kept t ∧ Within [12] s t)

/-- R268–R272: the antenna supply is switched by EN and moves between ON, OPEN and SHORT. ASSIGN queues a search for a free
channel, or hands it over from the L1-band signal; RELEASE makes it IDLE, REACQ queues it again; refusals are BUSY, ALREADY,
RANGE, FULL and NOTREADY. The engine takes the queue's head; a search ends in PULLIN or LOST, PULLIN in TRACK or LOST, a loss of
lock in LOST and an aided search. A slip, bit synchronisation and a time of week are noted. Where the rules are silent or can be
read in two ways, the clauses follow the model's choices of log entry 68. -/
def Obligations.AntennaSupplyAndChannelStates : Prop :=
  ∀ (n m : Fin 72) (v : BitVec 28) (a : Word) (ma : Fin 4096) (ok : Bool) (dop : Int) (rest : List Nat) (s : State), s.isOn 6 = true →
    let w : Word := v.zeroExtend 32
    let sig := bits w 27 25
    let prn := bits w 24 19
    let stat := GNSS_CHn_STAT n
    let ends (i : Instr) (q : State → Prop) : Prop := ∃ t, exec i s = .next t ∧ q t ∧ Within [13] s t
    let answers (i : Instr) (status : Nat) (q : State → Prop) : Prop := ends i fun t => t.fld stat 15 8 = status ∧ q t
    let same (t : State) : Prop := t.gst n = s.gst n ∧ t.gnss = s.gnss
    let taken := (List.range 72).any fun k => k != n && s.gst k != 0 && s.gsig k == sig && s.gprn k == prn
    let exists_ := sig ≤ 5 ∧ prn ≠ 0 ∧ prn ≤ prnMax sig
    let runs := s.bit GNSS_CTL 0 = true
    (ends (.antEnable a) fun t => t.fld GNSS_ANT 4 0 = bits a 4 0 ∧ t.fld GNSS_ANT 15 8 = (if bits a 15 8 = 0 then 1 else bits a 15 8) ∧
      t.antSt = if a.getLsbD 0 then (if s.bit GNSS_ANT 0 then s.antSt else 1) else 0) ∧
    (s.antSt = 1 → ends (.antOpen ma) fun t => t.antSt = 2 ∧ t.fld GNSS_ANT 31 20 = ma ∧ t.bit GNSS_STAT 4 = true) ∧
    (s.antSt = 2 → ends (.antRecover ma) fun t => t.antSt = 1 ∧ t.fld GNSS_ANT 31 20 = ma) ∧
    (s.antSt = 1 ∨ s.antSt = 2 → ends (.antShort ma) fun t => t.antSt = 3 ∧ t.bit GNSS_STAT 4 = true) ∧
    (s.antSt = 3 → ends .antRetry fun t => t.antSt = 1) ∧
    (s.gst n ≠ 0 → answers (.assign n v) stBUSY same) ∧
    (s.gst n = 0 → taken = true → answers (.assign n v) stALREADY same) ∧
    (s.gst n = 0 → taken = false → ¬exists_ → answers (.assign n v) stRANGE same) ∧
    (s.gst n = 0 → taken = false → exists_ →
      (s.handover sig prn = none → s.gnss.queue.length < 16 → answers (.assign n v) stOK fun t => t.gst n = 1 ∧ t.gsig n = sig ∧
        t.gprn n = prn ∧ t.gnss.queue = s.gnss.queue ++ [n.val] ∧ (t.gch n).aided = false) ∧
      (s.handover sig prn = none → 16 ≤ s.gnss.queue.length → answers (.assign n v) stFULL fun t => same t ∧ t.bit GNSS_STAT 3 = true) ∧
      (s.handover sig prn = some m.val → answers (.assign n v) stOK fun t => t.gst n = 3 ∧ t.gsig n = sig ∧ t.gprn n = prn ∧
        (t.gch n).dop = roundDiv ((s.gch m).dop * 115) 154 ∧ t.gnss.queue = s.gnss.queue)) ∧
    (answers (.release n v) stOK fun t => t.gst n = 0 ∧ (∀ k ∈ t.gnss.queue, k ≠ n.val) ∧ t.gnss.search ≠ some n.val) ∧
    (s.gst n < 3 → answers (.reacq n v) stNOTREADY same) ∧
    (3 ≤ s.gst n → s.gnss.queue.length < 16 → answers (.reacq n v) stOK fun t => t.gst n = 1 ∧ (t.gch n).aided = true ∧
      t.gnss.queue = s.gnss.queue ++ [n.val]) ∧
    (3 ≤ s.gst n → 16 ≤ s.gnss.queue.length → answers (.reacq n v) stFULL same) ∧
    (runs → s.gnss.search = none → s.gnss.queue = n.val :: rest → ends .searchStart fun t => t.gst n = 2 ∧
      t.gnss.search = some n.val ∧ t.gnss.queue = rest) ∧
    (runs → s.gnss.search = some n.val → ends (.searchDone ok dop) fun t => t.gnss.search = none ∧
      t.gst n = (if ok then 3 else 5) ∧ (ok = true → (t.gch n).dop = dop)) ∧
    (runs → s.gst n = 3 → (ends (.trackEntry n) fun t => t.gst n = 4 ∧ t.bit stat 19 = true ∧ t.bit stat 17 = (s.gsig n == 0) ∧
        (t.gch n).lockAt = s.clock) ∧ (ends (.pullinTimeout n) fun t => t.gst n = 5 ∧ t.bit stat 18 = false)) ∧
    (runs → s.gst n = 4 → (ends (.lossOfLock n) fun t => t.bit stat 19 = false ∧ if s.gnss.queue.length < 16 then
        t.gst n = 1 ∧ t.gnss.queue = s.gnss.queue ++ [n.val] ∧ (t.gch n).aided = true else t.gst n = 5) ∧
      (ends (.cycleSlip n) fun t => t.gst n = 4 ∧ t.fld stat 7 0 = min (s.fld stat 7 0 + 1) 255 ∧ (t.gch n).slip = true ∧
        (s.gsig n = 0 → t.bit stat 17 = true))) ∧
    (runs → s.gst n = 3 ∨ s.gst n = 4 → s.gsig n = 0 → ends (.bitSynchronisation n) fun t => (t.gch n).coh20 = true ∧ t.regs = s.regs) ∧
    (ends (.txtWrite n a) fun t => t.rd (GNSS_CHn_TXT n) = word (bits a 29 0) ∧ t.bit stat 18 = true)

/-- R272–R278: an epoch advances GNSS_EPOCH and, with MREN and room in the ring, writes its header and the records of the channels
in TRACK into the next slot and nothing outside it; without room it is lost and counted. A message of a channel in TRACK is
written to its ring in the same way, one whose parity fails is counted. SPOOF set is told of as the fault GNSS_SPOOF and cleared
by the base image alone. FIXED copies the coordinate in SURVEY, PROVISION and MAINT. Where the rules are silent or can be read in
two ways, the clauses follow the model's choices of log entry 68. -/
def Obligations.EpochsMessagesIntegrityAndReference : Prop :=
  ∀ (ms : List GnssMeas) (m : NavMsg) (a : Agent) (v median agreed cond : Word) (c : Fin 8) (s : State), s.isOn 6 = true →
    let w := s.fld GNSS_MRPTR 5 0
    let slot := (s.rd GNSS_MRBASE).toNat + 4096 * w
    let nw := s.fld GNSS_NRPTR 9 0
    let nslot := (s.rd GNSS_NRBASE).toNat + 96 * nw
    let outside (t : State) (lo n : Nat) : Prop := ∀ x, x < lo ∨ lo + n ≤ x → t.byte x = s.byte x
    let n := m.ch
    (s.bit GNSS_CTL 0 = true → s.isOn 12 = true → s.time.running = true →
      (s.bit GNSS_CTL 1 = true → (w + 1) % 64 ≠ s.fld GNSS_MRPTR 21 16 → ∃ t, exec (.measurementEpoch ms) s = .next t ∧
        t.rd GNSS_EPOCH = s.rd GNSS_EPOCH + 1 ∧ t.fld GNSS_MRPTR 5 0 = (w + 1) % 64 ∧ bits (t.ldw slot) 31 16 = 0x4D45 ∧
        bits (t.ldw slot) 15 8 = ((List.range 72).filter fun k => s.gst k == 4 && ms.any fun x => x.ch == k).length ∧
        outside t slot 4096) ∧
      (s.bit GNSS_CTL 1 = true → (w + 1) % 64 = s.fld GNSS_MRPTR 21 16 → ∃ t, exec (.measurementEpoch ms) s = .next t ∧
        t.rd GNSS_EPOCH = s.rd GNSS_EPOCH + 1 ∧ t.fld GNSS_CNT 31 24 = min (s.fld GNSS_CNT 31 24 + 1) 255 ∧
        t.bit GNSS_STAT 0 = true ∧ Within [13] s t) ∧
      (s.bit GNSS_CTL 1 = false → ∃ t, exec (.measurementEpoch ms) s = .next t ∧ t.rd GNSS_EPOCH = s.rd GNSS_EPOCH + 1 ∧
        Within [13] s t)) ∧
    (s.bit GNSS_CTL 0 = true → s.gst n = 4 → s.gsig n ≠ 3 →
      (s.bit GNSS_CTL 2 = true → (nw + 1) % 1024 ≠ s.fld GNSS_NRPTR 25 16 → ∃ t, exec (.navMessage m) s = .next t ∧
        t.fld GNSS_NRPTR 9 0 = (nw + 1) % 1024 ∧ bits (t.ldw nslot) 31 29 = s.gsig n ∧ bits (t.ldw nslot) 22 16 = n ∧
        t.ldw (nslot + 8) = m.sec ∧ t.ldw (nslot + 12) = m.grn ∧ outside t nslot 96) ∧
      (s.bit GNSS_CTL 2 = true → (nw + 1) % 1024 = s.fld GNSS_NRPTR 25 16 → ∃ t, exec (.navMessage m) s = .next t ∧
        t.bit GNSS_STAT 1 = true ∧ t.fld GNSS_CNT 23 16 = min (s.fld GNSS_CNT 23 16 + 1) 255 ∧ Within [13] s t) ∧
      (m.parok = false → ∃ t, exec (.navMessage m) s = .next t ∧ t.bit GNSS_STAT 2 = true ∧
        t.fld GNSS_CNT 15 8 = min (s.fld GNSS_CNT 15 8 + 1) 255 ∧ (t.gch n).navok = false) ∧
      (m.parok = true → ∃ t, exec (.navMessage m) s = .next t ∧ (t.gch n).navok = true ∧
        (m.tow = true → t.bit (GNSS_CHn_STAT n) 18 = true) ∧ (s.gsig n = 0 → t.bit (GNSS_CHn_STAT n) 17 = false))) ∧
    (v.getLsbD 31 = true → s.bit GNSS_INTEG 31 = false → ∃ u,
      exec (.spoofWrite a v median agreed cond) s = .next ((u.fault 17 0x63 0 0).record 0x63 recSPOOF_SUSPECT median agreed cond) ∧
      u.bit GNSS_INTEG 31 = true ∧ u.bit GNSS_STAT 5 = true ∧ u.bit GNSS_INTEG 30 = v.getLsbD 30 ∧ Within [13] s u) ∧
    (v.getLsbD 31 = false → s.bit GNSS_INTEG 31 = true →
      (∃ t, exec (.spoofWrite (.core c) v median agreed cond) s = .next t ∧ t.bit GNSS_INTEG 31 = false ∧ Within [13] s t) ∧
      (∃ t, exec (.spoofWrite .host v median agreed cond) s = .next t ∧ t.bit GNSS_INTEG 31 = true ∧ Within [13] s t)) ∧
    (s.mode = 1 ∨ s.mode = 6 ∨ s.mode = 10 → ∃ t, exec (.refFix v) s = .next t ∧ t.rd GNSS_REFSTAT = v &&& 0xE000FFFF ∧
      (v.getLsbD 31 = true → t.gnss.ref = [s.rd GNSS_REFX_LO, s.rd GNSS_REFX_HI, s.rd GNSS_REFY_LO, s.rd GNSS_REFY_HI,
        s.rd GNSS_REFZ_LO, s.rd GNSS_REFZ_HI, v &&& 0xE000FFFF]) ∧ Within [13] s t) ∧
    (s.mode ≠ 1 → s.mode ≠ 6 → s.mode ≠ 10 → exec (.refFix v) s = .next s)

/-- R297–R302: a setting of the latch counts the episode, keeps cause and time, withdraws GO and is told of; a setting while it is
set changes nothing of it. RESUME checks the mode, the latch, the 500 ms and the token in that order, and the latch clears on the
next AON edge, unless a low sample has come. One or two low samples are a glitch. The generator sends stop frames on its grid from
the setting; one that cannot be sent counts as missed. The CAUSE that an input gives is a free value (log entry 18). Where the
rules are silent or can be read in two ways, the clauses follow the model's choices of log entries 29, 30 and 69. -/
def Obligations.TheStopLatchSetsAndReleases : Prop :=
  ∀ (c : Fin 8) (gd ga : Fin 16) (sub : BitVec 20) (imm : BitVec 18) (b : Bool) (n : Nat) (v : Word) (r : ClearReq) (s : State),
    let latches (t : State) (cause : Nat) : Prop := t.latched = true ∧ t.fld FLEET_STOP_STAT 23 16 = cause ∧
      t.episode = (s.episode + 1) % 65536 ∧ t.rd FLEET_STOP_LSEC = s.stamp.1 ∧ t.rd FLEET_STOP_LGRN = s.stamp.2.1 ∧
      t.bit FLEET_STOP_STAT 25 = s.stamp.2.2 ∧ t.fleet.goRuns = [] ∧ Within [6, 7, 14] s t
    let fleets := s.mode = 3 ∨ s.mode = 4
    let tok := s.octets (corePhys c (s.gpr c ga).toNat) 72
    let key := leNat (tok.take 2)
    let signed := Config.sha256 ([(0x03 : Byte)] ++ beOctets (s.rd SYS_ID).toNat 4 ++ s.challenge ++ beOctets s.episode 2)
    let verifies := imm = 72 ∧ key = s.fld FLEET_STOP_CFG 27 16 ∧ leNat ((tok.drop 2).take 2) = s.episode ∧
      (∀ x ∈ (tok.drop 4).take 4, x = 0) ∧ s.sigDetail key true signed ((tok.drop 8).take 64) = 0
    let a := s.bit FLEET_STOP_STAT 30
    let d := s.bit FLEET_STOP_STAT 29
    let on2 := s.chainTakes 2 (s.fld FLEET_ISM 9 0) = true
    let due := if s.bit FLEET_STOP_STAT 25 then s.now else
      after (tval (s.rd FLEET_STOP_LSEC) (s.rd FLEET_STOP_LGRN)) (if n < 1000 then n * 10000000 else 10000000000 + (n - 1000) * 100000000)
    (s.runs c = true → s.mode ≠ 9 → sub.toNat < 256 →
      (s.latched = false → ∃ u, exec (.stop c gd sub 0) s = .next (u.complete c gd stOK) ∧ latches u (max sub.toNat 0x10)) ∧
      (s.latched = true → s.fleet.clear = none → ∃ u, exec (.stop c gd sub 0) s = .next (u.complete c gd stALREADY) ∧
        u.fleet = s.fleet ∧ Within [] s u)) ∧
    (s.runs c = true → s.mode ≠ 9 → s.isOn 8 = true → imm.toNat < 65536 →
      (¬fleets → ∃ t, exec (.resume c gd ga imm) s = .next t ∧ Returned s t c gd (completion stDENIED 2)) ∧
      (fleets → s.latched = false → ∃ t, exec (.resume c gd ga imm) s = .next t ∧ Returned s t c gd (completion stDENIED 4)) ∧
      (fleets → s.latched = true → s.fleet.high < 16384 → ∃ t, exec (.resume c gd ga imm) s = .next t ∧
        Returned s t c gd (completion stDENIED 1)) ∧
      (fleets → s.latched = true → 16384 ≤ s.fleet.high → ¬verifies → ∃ t, exec (.resume c gd ga imm) s = .next t ∧
        Returned s t c gd (completion stAUTH) ∧ t.bit KEYS_FLAGS 6 = true) ∧
      (fleets → s.latched = true → 16384 ≤ s.fleet.high → verifies → ∃ t, exec (.resume c gd ga imm) s = .next t ∧
        t.fleet.clear = some ⟨c, gd, none, key⟩ ∧ (t.core c).run = .waiting (.resume gd) ∧ (t.core c).pc = (s.core c).pc + 4 ∧
        t.latched = true)) ∧
    (s.mode ≠ 9 → s.fleet.clear = some r → r.svc = none → (s.core r.core).run = .waiting (.resume r.gd) →
      ∃ t, exec .latchClear s = .next t ∧ t.fleet.clear = none ∧ (t.core r.core).run = .running ∧
        let ok := s.latched && decide (16384 ≤ s.fleet.high)
        t.gpr r.core r.gd = (if r.gd = 0 then 0 else if ok then completion stOK else completion stDENIED 1) ∧
        t.latched = (s.latched && !ok) ∧ t.episode = s.episode) ∧
    (3 ≤ n → s.latched = false → ∃ t cause, exec (.stopInputAssert b n) s = .next t ∧ latches t cause ∧
      t.bit FLEET_STOP_STAT (if b then 29 else 30) = true ∧ t.fleet.high = 0) ∧
    (n = 1 ∨ n = 2 → ∃ t, exec (.stopInputAssert b n) s = .next t ∧ t.latched = s.latched ∧ t.fleet.high = 0 ∧ Within [14] s t ∧
      (b = true → t.fld FLEET_STOP_CNT 15 0 = min (s.fld FLEET_STOP_CNT 15 0 + 1) 65535) ∧
      (b = false → t.fld FLEET_STOP_CNT 31 16 = min (s.fld FLEET_STOP_CNT 31 16 + 1) 65535)) ∧
    (∃ t, exec (.stopInputRelease b) s = .next t ∧ t.bit FLEET_STOP_STAT (if b then 29 else 30) = false ∧
      t.bit FLEET_STOP_STAT (if b then 26 else 27) = false ∧ t.latched = s.latched ∧ t.episode = s.episode ∧ Within [14] s t) ∧
    (s.bit FLEET_STOP_STAT (if b then 29 else 30) = true → ∃ t, exec (.inputStuck b) s = .next t ∧
      t.bit FLEET_STOP_STAT (if b then 26 else 27) = true ∧ Within [14] s t) ∧
    (a ≠ d → s.bit FLEET_STOP_STAT 28 = false → ∃ u, exec .stopDisc s =
        .next ((u.fault 16 0x03 0 0).record 0x03 recSTOP_DISC (word (b2n a * 2 + b2n d)) (word s.episode) 0) ∧
      u.bit FLEET_STOP_STAT 28 = true ∧ Within [14] s u) ∧
    (bits v 31 16 = 0x5354 → s.latched = false → ∃ t, exec (.stopSw v) s = .next t ∧ latches t 0x03) ∧
    (bits v 31 16 ≠ 0x5354 → exec (.stopSw v) s = .next s) ∧
    (s.isOn 13 = true → s.latched = true → fleets →
      (on2 → (∀ m ∈ (s.chain 2).queue, m.src.isStop = false) →
        (n = 0 ∨ s.bit FLEET_STOP_STAT 25 = true ∨ tdiff s.now due ≤ 17) → ∃ t, exec (.stopFrame n) s = .next t ∧
          t.fleet.built = some (.stop (s.fld FLEET_STOP_STAT 23 16) s.episode (s.rd FLEET_STOP_LSEC) (s.rd FLEET_STOP_LGRN) n
            (s.bit FLEET_STOP_STAT 25) (s.fld FLEET_PAN 15 0)) ∧
          ∃ m ∈ (t.chain 2).queue, m.src = .stop n ∧ m.stop = true ∧ tval m.sec m.grn = due ∧ m.frame.dest = 0xFFFF) ∧
      (¬on2 → s.bit FLEET_SUBCH 31 = false → ∃ t, exec (.stopFrame n) s = .next t ∧ t.tx = s.tx ∧ Within [14] s t ∧
        t.rd (FLEET_CNTm 3) = word (min ((s.rd (FLEET_CNTm 3)).toNat + 1) (2 ^ 32 - 1)) ∧ t.bit FLEET_STAT 4 = true))

/-- R288–R290, R296: a frame of a slot is accepted when its counter rises and its MIC is right, and returns a LOST slot to ACTIVE;
a join takes the lowest FREE slot. A slot not heard of is LOST; one freed gives up its reservations and fails its tasks. GO frames
go out on their grid with the next SEQ. Where the rules are silent or can be read in two ways, the clauses follow the model's
choices of log entries 31 and 69. -/
def Obligations.MachineSlotsJoinAreLostAndFreed : Prop :=
  ∀ (f : FleetFrame) (desc : Fin 16384) (n : Fin 64) (short : BitVec 16) (e : BitVec 64) (base : Nat) (s : State), s.isOn 13 = true →
    let here := (f.pan.toNat = s.fld FLEET_PAN 31 16 ∨ f.pan = 0xFFFF) ∧ (f.dest.toNat = s.fld FLEET_PAN 15 0 ∨ f.dest = 0xFFFF)
    let q := s.fld FLEET_CTL 15 8
    let delivered (t : State) : Prop := s.isOn 7 = true → s.dqRoom q = true → ((t.descq q).items = (s.descq q).items ++ [(desc.val, false)])
    let counted (i : Instr) (m : Nat) : Prop := ∃ t, exec i s = .next t ∧ Within [14] s t ∧
      t.rd (FLEET_CNTm m) = word (min ((s.rd (FLEET_CNTm m)).toNat + 1) (2 ^ 32 - 1))
    let gone := s.fleet.held.filter fun x => x.2.slot == n.val
    let at_ := s.goInstant base
    let seq := s.fld FLEET_GOSEQ 15 0
    (s.bit FLEET_CTL 0 = true → here → s.slotOf f.src = some n.val →
      ((s.rd (FLEET_SLOTn_FCIN n)).toNat < f.counter.toNat → f.micOk = true → ∃ t, exec (.fleetRx f desc) s = .next t ∧
        t.rd (FLEET_SLOTn_FCIN n) = f.counter ∧ t.fld (FLEET_SLOTn_STAT n) 28 20 = 0 ∧
        t.slotState n = (if s.slotState n = 3 then 2 else s.slotState n) ∧ delivered t ∧ Within [9, 14] s t) ∧
      (f.counter.toNat ≤ (s.rd (FLEET_SLOTn_FCIN n)).toNat → counted (.fleetRx f desc) 4) ∧
      ((s.rd (FLEET_SLOTn_FCIN n)).toNat < f.counter.toNat → f.micOk = false → exec (.fleetRx f desc) s = .next s)) ∧
    (s.bit FLEET_CTL 0 = true → here → s.slotOf f.src = none → f.typ ≠ 0x23 → (∃ x, f.src = .short x) →
      counted (.fleetRx f desc) 5) ∧
    (s.bit FLEET_CTL 0 = true → here → s.slotOf f.src = none → f.typ = 0x23 → f.src = .ext e → f.micOk = true →
      (s.bit FLEET_CTL 2 = false → exec (.fleetRx f desc) s = .next s) ∧
      (s.bit FLEET_CTL 2 = true → s.slotState n = 0 → (∀ k, k < n.val → s.slotState k ≠ 0) → ∃ t, exec (.fleetRx f desc) s = .next t ∧
        t.slotState n = 1 ∧ t.slotEui n = e.toNat ∧ t.rd (FLEET_SLOTn_FCIN n) = f.counter ∧ delivered t) ∧
      (s.bit FLEET_CTL 2 = true → (∀ k, k < 64 → s.slotState k ≠ 0) → ∃ t, exec (.fleetRx f desc) s = .next t ∧
        t.bit FLEET_STAT 1 = true ∧ delivered t ∧ (∀ k, k < 64 → t.slotState k = s.slotState k ∧ t.slotEui k = s.slotEui k) ∧
        t.rd (FLEET_CNTm 6) = word (min ((s.rd (FLEET_CNTm 6)).toNat + 1) (2 ^ 32 - 1)))) ∧
    (s.slotState n = 1 ∨ s.slotState n = 2 → ∃ t, exec (.slotLost n) s = .next t ∧ t.slotState n = 3 ∧ t.bit FLEET_STAT 0 = true ∧
      t.fleet = s.fleet ∧ Within [14] s t) ∧
    (∃ t, exec (.slotFree n short) s = .next t ∧ t.slotState n = 0 ∧ t.fld (FLEET_SLOTn_STAT n) 15 0 = short.toNat ∧
      (∀ x ∈ t.fleet.held, x.2.slot ≠ n.val) ∧ (∀ x ∈ s.fleet.held, x.2.slot ≠ n.val → x ∈ t.fleet.held) ∧
      (s.fleet.results.length + gone.length ≤ 256 →
        t.fleet.results = s.fleet.results ++ gone.map fun x => ⟨3, n.val, 0, x.2.reqid, x.1⟩) ∧
      (∀ i k, s.taskAt i = some k → k.state = 2 → k.slot = n.val → t.taskAt i = some { k with state := 4 }) ∧ Within [14] s t) ∧
    (s.goOn = true → s.fleet.goBase = some base → s.fleet.goLast ≠ some at_ → ∃ t, exec .go s = .next t ∧ t.fleet.goLast = some at_ ∧
      t.fld FLEET_GOSEQ 15 0 = (seq + 1) % 65536 ∧ t.fleet.built = some (.go seq (s.fld FLEET_CTL 23 16) s.episode s.corrAge
        (s.rd FLEET_HOLD_HI ++ s.rd FLEET_HOLD_LO)) ∧ Within [6, 7, 14] s t ∧
      (s.chainTakes 2 (s.fld FLEET_ISM 9 0) = true → s.txDepth 2 < 16 → ∃ m, (t.chain 2).queue = (s.chain 2).queue ++ [m] ∧
        m.src = .go seq ∧ tval m.sec m.grn = at_ ∧ m.lateMax = 5000 ∧ m.stop = false ∧ m.frame.dest = 0xFFFF)) ∧
    (s.goOn = false → exec .go s = .next s)

/-- R291–R295, R306: SUBMIT enters a request that stands in its limits, FULL at 256 and RANGE otherwise; CANCEL and CANCELSLOT
free reservations, READ shows one. A tick removes what has ended and decides the pending requests; one that conflicts with a held
reservation is denied, one that conflicts with none is granted the lowest free index. Results pop in order. Task commands enter,
hand out, free and show tasks. Where the rules are silent or can be read in two ways, the clauses follow the model's choices of
log entry 69. -/
def Obligations.ReservationsAndTasksAreDecidedInOrder : Prop :=
  ∀ (i : Fin 16384) (k : Fin 1024) (n : Fin 64) (r : Resv) (x : ResResult) (rest : List ResResult) (task : Task) (s : State),
    s.isOn 13 = true →
    let q := s.resRequest
    let fits := 2 ≤ s.slotState q.slot ∧ s.bit (FLEET_SEGg q.seg) 31 = true ∧ s.bit (FLEET_SEGg q.seg) 30 = false ∧
      0 < tdiff q.stop q.start ∧ tdiff q.stop q.start ≤ (s.fld FLEET_RESCFG 23 0 * 2 ^ 32 : Int) ∧ tdiff s.now q.stop ≤ 0
    let ends (i : Instr) (p : State → Prop) : Prop := ∃ t, exec i s = .next t ∧ p t ∧ Within [14] s t
    let res (t : State) (status detail : Nat) : Prop := t.fld FLEET_RESSTAT 7 0 = status ∧ t.fld FLEET_RESSTAT 15 8 = detail
    let tsk (t : State) (status k state : Nat) : Prop :=
      t.fld FLEET_TASKSTAT 7 0 = status ∧ t.fld FLEET_TASKSTAT 25 16 = k ∧ t.fld FLEET_TASKSTAT 15 12 = state
    let kept := s.fleet.held.filter fun e => decide (0 < tdiff e.2.stop s.tickAt)
    let ticks := s.bit FLEET_CTL 3 = true ∧ s.isOn 12 = true ∧ s.time.running = true
    let wanted (e : Nat × Task) : Prop := e.2.state = 1 ∧ (e.2.target = n.val ∨ e.2.target = 0xFF)
    (s.fleet.pend.length < 256 → fits → ends .submit fun t => t.fleet.pend = s.fleet.pend ++ [q] ∧ res t stOK 0) ∧
    (s.fleet.pend.length < 256 → ¬fits → ends .submit fun t => t.fleet = s.fleet ∧ res t stRANGE 0) ∧
    (256 ≤ s.fleet.pend.length → ends .submit fun t => t.fleet = s.fleet ∧ res t stFULL 2) ∧
    ((∃ e ∈ s.fleet.held, e.1 = i.val) → ends (.cancel i) fun t => res t stOK 0 ∧ t.fleet.held = s.fleet.held.filter fun e => e.1 != i.val) ∧
    ((∀ e ∈ s.fleet.held, e.1 ≠ i.val) → ends (.cancel i) fun t => res t stNOTREADY 0 ∧ t.fleet = s.fleet) ∧
    (ends .cancelslot fun t => res t stOK 0 ∧ t.fleet.held = s.fleet.held.filter fun e => e.2.slot != s.fld FLEET_RESREQ 19 14) ∧
    ((s.fleet.held.find? fun e => e.1 == i.val) = some (i.val, r) → r.seg < 4096 → r.slot < 64 → r.prio < 16 → r.reqid < 256 →
      r.start < 2 ^ 64 → r.stop < 2 ^ 64 → ends (.resRead i) fun t => t.resRequest = r ∧ res t stOK 0 ∧ t.fleet = s.fleet) ∧
    (ticks → s.fleet.pend = [] → ends .reservationTick fun t => t.fleet.held = kept ∧ t.fleet.results = s.fleet.results) ∧
    (ticks → s.fleet.pend ≠ [] → 256 < s.fleet.results.length + s.fleet.pend.length → ends .reservationTick fun t =>
      t.fleet.held = kept ∧ t.fleet.pend = s.fleet.pend ∧
      t.rd (FLEET_CNTm 3) = word (min ((s.rd (FLEET_CNTm 3)).toNat + 1) (2 ^ 32 - 1))) ∧
    (ticks → s.fleet.pend = [r] → s.fleet.results.length < 256 →
      ((∃ h ∈ kept, s.conflict r h.2 = true) → ends .reservationTick fun t => t.fleet.pend = [] ∧ t.fleet.held = kept ∧
        ∃ h ∈ kept, s.conflict r h.2 = true ∧ t.fleet.results = s.fleet.results ++ [⟨1, r.slot, h.2.slot, r.reqid, 0⟩]) ∧
      ((∀ h ∈ kept, s.conflict r h.2 = false) → kept.length < 16384 → (∀ h ∈ kept, h.1 ≠ i.val) →
        (∀ j, j < i.val → ∃ h ∈ kept, h.1 = j) → ends .reservationTick fun t => t.fleet.pend = [] ∧ (i.val, r) ∈ t.fleet.held ∧
          (∀ h ∈ kept, h ∈ t.fleet.held) ∧ t.fleet.results = s.fleet.results ++ [⟨0, r.slot, 0, r.reqid, i.val⟩])) ∧
    (s.fleet.results = x :: rest → ends .resultPop fun t => t.fleet.results = rest ∧ t.rd FLEET_RESRES1 = word x.index ∧
      t.bus = word (x.result * 2 ^ 28 + x.slot * 2 ^ 22 + x.winner * 2 ^ 16 + x.reqid * 2 ^ 8)) ∧
    (s.fleet.results = [] → exec .resultPop s = .next { s with bus := 0x80000000 }) ∧
    (s.taskAt k = none → (∀ j, j < k.val → s.taskAt j ≠ none) → ends .taskAdd fun t => tsk t stOK k 1 ∧
      t.taskAt k = some ⟨1, s.fld FLEET_TASKARG 31 24, s.fld FLEET_TASKARG 23 20, s.rd FLEET_TASKBODY, s.fleet.taskOrder, 0⟩) ∧
    ((∀ j, j < 1024 → s.taskAt j ≠ none) → ends .taskAdd fun t => tsk t stFULL 0 0 ∧ t.fleet = s.fleet ∧ t.bit FLEET_STAT 2 = true) ∧
    (s.taskAt k = some task → wanted (k.val, task) →
      (∀ e ∈ s.fleet.tasks, wanted e → e = (k.val, task) ∨ task.prio < e.2.prio ∨ (task.prio = e.2.prio ∧ task.order < e.2.order)) →
      ends (.next n) fun t => tsk t stOK k 2 ∧ t.taskAt k = some { task with state := 2, slot := n.val }) ∧
    ((∀ e ∈ s.fleet.tasks, ¬wanted e) → ends (.next n) fun t => tsk t stNOTREADY 0 0 ∧ t.fleet = s.fleet) ∧
    (s.taskAt k = some task → (ends (.taskDone k) fun t => tsk t stOK k 3 ∧ t.taskAt k = none) ∧
      (ends (.taskFail k) fun t => tsk t stOK k 4 ∧ t.taskAt k = none) ∧
      (ends (.taskCancel k) fun t => tsk t stOK k 5 ∧ t.taskAt k = none) ∧
      (task.state < 16 → ends (.taskRead k) fun t => tsk t stOK k task.state ∧ t.fleet = s.fleet))

/-- R10, R311–R314, R327, R329: PDREQ is checked in the order RANGE, BUSY, ALREADY; ON waits for nobody but its dependencies; RET
and OFF are refused where the mode or a dependent needs the domain, or an agent refuses, waits where one answers DELAY, and begin
where all grant. After a DELAY a second refusal aborts. PDSTAT returns the state. A transition ends in its target. Where the rules
are silent or can be read in two ways, the clauses follow the model's choices of log entries 35, 39 and 70. -/
def Obligations.PowerRequestsAreCheckedAndEntered : Prop :=
  ∀ (c : Fin 8) (gd ga : Fin 16) (off : Bool) (d : Fin 15) (s : State),
    let n := (s.gpr c ga).toNat
    let returns (i : Instr) (v : Word) (q : State → Prop) : Prop := ∃ t, exec i s = .next t ∧ Returned s t c gd v ∧ q t
    let down : Instr := if off then .pdreqOff c gd ga false 0 none else .pdreqRet c gd ga 0 none
    let want : PdState := if off then .off else .ret
    let reqs : List (Instr × PdState) := [(.pdreqOn c gd ga 0, .on), (down, want)]
    let k := s.dom n
    let noted (t : State) (d block reason kind : Nat) : Prop := t.fld (PWR_DOMd_LAST d) 31 24 = block % 256 ∧
      t.fld (PWR_DOMd_LAST d) 23 16 = reason % 256 ∧ t.fld (PWR_DOMd_LAST d) 15 14 = kind
    let still (t : State) : Prop := (t.dom n).state = k.state ∧ (t.dom n).busy = false
    let l := s.asked n off (some c)
    let l2 := s.asked d ((s.dom d).target == .off) (some (Fin.ofNat 8 (s.dom d).req.val))
    (s.runs c = true → s.mode ≠ 9 →
      (∀ e ∈ reqs, (n = 0 ∨ 14 < n → returns e.1 (completion stRANGE) fun t => t.power = s.power) ∧
        (0 < n → n ≤ 14 → k.busy = true → returns e.1 (completion stBUSY) fun t => t.power = s.power) ∧
        (0 < n → n ≤ 14 → k.busy = false → k.state = e.2 → returns e.1 (completion stALREADY) fun t => t.power = s.power)) ∧
      (returns (.pdreqOff c gd ga true 0 none) (completion stRANGE) fun t => t.power = s.power) ∧
      (0 < n → n ≤ 14 → k.busy = false → k.hold = none → k.state ≠ .on →
        (s.zeroBarred [n] = true → returns (.pdreqOn c gd ga 0) (completion stREFUSED 0x01) fun t => still t ∧ noted t n 0x01 14 1) ∧
        (s.zeroBarred [n] = false →
          (∀ e ∈ domDeps n, s.isOn e = false → returns (.pdreqOn c gd ga 0) (completion stREFUSED (16 * e)) fun t =>
            still t ∧ noted t n (16 * e) 8 1) ∧
          ((∀ e ∈ domDeps n, s.isOn e = true) →
            (s.overBudget [n] = true → returns (.pdreqOn c gd ga 0) (completion stREFUSED 0x01) fun t => still t ∧ noted t n 0x01 15 1) ∧
            (s.overBudget [n] = false → returns (.pdreqOn c gd ga 0) (completion stOK) fun t => (t.dom n).target = .on ∧
              (t.dom n).busy = true ∧ t.fld PWR_WAKESRC 19 16 = 1 ∧ t.fld PWR_WAKESRC 7 0 = c.val ∧ t.fld PWR_WAKESRC 27 24 = n)))) ∧
      (0 < n → n ≤ 14 → k.busy = false → k.state ≠ want → (off = true ∨ k.state ≠ .off) →
        ((s.modeDomains s.mode).contains n = true → returns down (completion stREFUSED 0x00) fun t => still t ∧ noted t n 0x00 1 1) ∧
        ((s.modeDomains s.mode).contains n = false →
          (∀ e, k.state = .on → (dependents n).find? s.onOrComing = some e →
            returns down (completion stREFUSED (16 * e)) fun t => still t ∧ noted t n (16 * e) 8 1) ∧
          ((k.state = .on → ∀ e ∈ dependents n, s.onOrComing e = false) →
            (∀ b r, firstRefusal false l = some (b, r) → returns down (completion stREFUSED b) fun t => still t ∧ noted t n b r 1) ∧
            ((∀ e ∈ l, e.2 = .grant) → returns down (completion stOK) fun t => (t.dom n).target = want ∧ (t.dom n).busy = true ∧
              (t.dom n).hold = if !off && coreDom c == n then some (.wfe c) else none) ∧
            (firstRefusal false l = none → (∃ e ∈ l, e.2 ≠ .grant) → returns down (completion stDELAYED) fun t =>
              (t.dom n).target = want ∧ (t.dom n).busy = true ∧ (t.dom n).hold = some .delay ∧ (t.dom n).lastOut = 14))))) ∧
    (s.runs c = true → s.mode ≠ 9 → (n ≤ 14 → exec (.pdstat c gd ga 0) s =
        .next ((s.begun c).result c gd (completion stOK 0 (s.domCode n)))) ∧
      (14 < n → exec (.pdstat c gd ga 0) s = .next ((s.begun c).result c gd (completion stRANGE)))) ∧
    (d ≠ 0 → (s.dom d).busy = true → (s.dom d).hold = some .delay → (s.dom d).state = .on →
      (firstRefusal true l2 = none → ∃ t, exec (.delayExpiry d none) s = .next t ∧ (t.dom d).busy = true ∧ (t.dom d).hold ≠ some .delay ∧
        (t.dom d).lastOut = 0 ∧ t.regs = s.regs) ∧
      (∀ b r, firstRefusal true l2 = some (b, r) → ∃ t, exec (.delayExpiry d none) s = .next t ∧ (t.dom d).busy = false ∧
        (t.dom d).hold = none ∧ (t.dom d).state = .on ∧ noted t d b r 2 ∧ (t.dom d).lastOut = 13)) ∧
    (d ≠ 0 → (s.dom d).busy = true → (s.dom d).hold = none → (s.dom d).target ≠ .on → ∃ t, exec (.domainEntryComplete d) s = .next t ∧
      (t.dom d).state = (s.dom d).target) ∧
    (d ≠ 0 → (s.dom d).busy = true → (s.dom d).hold = none → (s.dom d).target = .on → (∀ e ∈ domDeps d, s.isOn e = true) →
      ∃ t, exec (.domainOn d true) s = .next t ∧ (t.dom d).state = .on ∧ (t.dom d).busy = false)

/-- R307, R308, R322–R326, R331–R333: a frame of the wake receiver wakes and counts as MATCH, HELD, OTHER or CRCERR; a jam stops
the decoder. A dip of VIN counts; a warning comes once; its loss forces BACKUP, keeping PWR_BAKSET ON and sending the others to
RET or OFF, and its return brings back what was ON. BACKUP ends in the mode of RETURN. The cell is told of as it runs low, and cut
off. Where the rules are silent or can be read in two ways, the clauses follow the model's choices of log entry 70. -/
def Obligations.SuppliesBackupAndTheWakeReceiver : Prop :=
  ∀ (addr mv : BitVec 16) (crcOk : Bool) (vin : BitVec 10) (s : State),
    let ends (i : Instr) (q : State → Prop) : Prop := ∃ t, exec i s = .next t ∧ q t ∧ Within [] s t
    let counts (t : State) (hi lo : Nat) : Prop := t.fld PWR_WKRX_CNT hi lo = min (s.fld PWR_WKRX_CNT hi lo + 1) 255
    let ours := (addr.toNat = s.fld PWR_WKRX_ADDR 15 0 ∧ addr ≠ 0) ∨ (s.bit PWR_WKRX_CTL 29 = true ∧ addr.toNat = s.fld PWR_WKRX_ADDR 31 16) ∨
      (s.bit PWR_WKRX_CTL 30 = true ∧ addr = 0xFFFF)
    let held := ∃ t0, s.power.wkrxLast = some t0 ∧ s.elapsed < t0 + s.fld PWR_WKRX_CTL 15 8 * 65536
    let good := s.bit PWR_SUPPLY 1 = true
    let thr := s.fld PWR_VINWARN 9 0
    let ret := s.fld SYS_MODE 11 8
    let case := if s.power.cutoff then 2 else 1
    (s.bit PWR_WKRX_CTL 31 = true → s.power.wkrxJam = false →
      (crcOk = false → ends (.wkrxFrame crcOk addr) fun t => counts t 15 8) ∧
      (crcOk = true → ¬ours → ends (.wkrxFrame crcOk addr) fun t => counts t 23 16) ∧
      (crcOk = true → ours → held → ends (.wkrxFrame crcOk addr) fun t => counts t 7 0) ∧
      (crcOk = true → ours → ¬held → ends (.wkrxFrame crcOk addr) fun t => counts t 31 24 ∧ t.power.wkrxLast = some s.elapsed) ∧
      (ends .wkrxJam fun t => t.power.wkrxJam = true ∧ t.bit PWR_FLAGS 9 = true)) ∧
    (ends .wkrxRearm fun t => t.power.wkrxJam = false ∧ t.regs = s.regs) ∧
    (good → ends .vinGlitch fun t => t.fld PWR_BAKSTAT 7 0 = min (s.fld PWR_BAKSTAT 7 0 + 1) 255 ∧ t.bit PWR_FLAGS 6 = true) ∧
    (s.bit PWR_VINWARN 31 = true → vin.toNat < thr → s.power.warnHeld = false → ends (.vinWarn vin) fun t =>
      t.power.warnHeld = true ∧ t.bit PWR_FLAGS 5 = true ∧ t.fld PWR_SUPPLY 31 22 = vin.toNat) ∧
    (thr + 10 ≤ vin.toNat → ends (.vinWarn vin) fun t => t.power.warnHeld = false ∧ t.fld PWR_SUPPLY 31 22 = vin.toNat) ∧
    (ends (.vbakPresentChange mv) fun t => t.bit PWR_SUPPLY 0 = decide (2500 ≤ mv.toNat) ∧
      t.fld PWR_SUPPLY 21 12 = min (mv.toNat / 10) 1023 ∧ (good → mv.toNat < 2500 → t.bit PWR_FLAGS 4 = true)) ∧
    (good → ends .vbakReconnect fun t => t.power.cellOff = false ∧ t.regs = s.regs) ∧
    (s.power.backup = true → ¬good → s.power.bakLowSeen = false → s.power.cutoff = false → ∃ t, exec (.bakLow mv) s = .next t ∧
      t.power.bakLowSeen = true ∧ t.bit PWR_FLAGS 3 = true) ∧
    (good → ends (.bakLow mv) fun t => t.bit PWR_FLAGS 3 = true) ∧
    (s.power.backup = true → ¬good → s.power.cutoff = false → s.power.restoring = false → ∃ t, exec (.vbakCutoff mv) s = .next t ∧
      t.power.cutoff = true ∧ t.power.cellOff = true ∧ (∀ d, 0 < d → d ≤ 14 → (s.dom d).state = .on →
        (t.dom d).target = .off ∧ (t.dom d).busy = true) ∧
      (∀ d, 0 < d → d ≤ 14 → (s.dom d).state = .ret → (s.dom d).busy = false → t.dom d = s.dom d)) ∧
    (good → s.power.backup = false → s.mode ≠ 7 → s.mode ≠ 8 → s.mode ≠ 11 → ∃ t, exec (.vinLoss vin) s = .next t ∧ t.mode = 7 ∧
      t.fld SYS_MODE 11 8 = s.mode ∧ t.rd PWR_LOSTSTATE = s.lostState ∧ t.power.backup = true ∧ t.bit PWR_SUPPLY 1 = false ∧
      (∀ d, 0 < d → d ≤ 14 → s.bit PWR_BAKSET d = false → (s.dom d).state = .on → (t.dom d).busy = true ∧
        (t.dom d).target = if s.bit PWR_BAKRET d then .ret else .off)) ∧
    (¬good → s.power.backup = false → s.host.resetLow = false → s.dbg.tap ≠ .extest → ∃ t, exec (.vinGood vin) s = .next t ∧
      t.bit PWR_SUPPLY 1 = true ∧ ∀ d ∈ [1, 8, 11, 14], (s.dom d).state = .off → (s.dom d).busy = false → (s.dom d).hold = none →
        (t.dom d).target = .on ∧ (t.dom d).busy = true) ∧
    (¬good → s.power.backup = true → s.mode ≠ 11 → ∃ t, exec (.vinGood vin) s = .next t ∧ t.power.restoring = true ∧
      t.fld PWR_WAKESRC 19 16 = 3 ∧ t.fld PWR_WAKESRC 7 0 = case ∧ (s.power.cutoff = true → t.bit PWR_FLAGS 2 = true) ∧
      ∀ d, 0 < d → d ≤ 14 → s.fld PWR_LOSTSTATE (2 * d + 1) (2 * d) = 2 → (s.dom d).busy = false → (s.dom d).hold = none →
        (s.dom d).state ≠ .on → (t.dom d).target = .on ∧ (t.dom d).busy = true) ∧
    (s.power.backup = true → s.power.restoring = true → s.mode ≠ 11 → (s.modeDomains ret).all s.isOn = true → s.host.resetLow = false →
      (ret ≠ 0 → ∃ t, exec .backupReturn s = .next t ∧ t.mode = ret ∧ t.power.backup = false ∧ t.fld PWR_BAKSTAT 15 14 = case ∧
        t.rd PWR_BAKTIME = word ((s.elapsed - s.power.lossRtc) / 65536)) ∧
      (ret = 0 → ∃ t, exec .backupReturn s = .next t ∧ t.rep.reset = some ⟨11⟩ ∧ t.power.backup = false))

/-- R309, R319, R409, R421–R423: an AON power-on reset leaves what eMRAM and flash hold, everything else as after reset, the stop
latch set with cause 6. A decided reset leaves BOOT, every domain outside the reset set in RET or OFF, TIME's registers at their
reset values, and RSTOUT_N low. RESET_N low on three samples decides one, on fewer it is a glitch. Where the rules are silent or
can be read in two ways, the clauses follow the model's choices of log entry 56. -/
def Obligations.ResetsLeaveWhatTheyKeep : Prop :=
  ∀ (b n : Fin 4) (r : ResetReq) (s : State),
    (∃ t, exec .aonPowerOnReset s = .next t ∧ t.mode = 0 ∧ t.latched = true ∧ t.fld FLEET_STOP_STAT 23 16 = 6 ∧ t.episode = 0 ∧
      (∀ d, 0 < d → d ≤ 14 → (t.dom d).state = .off) ∧ (∀ a, t.byte a = if keptMem a then s.byte a else memDefault a) ∧
      (∀ a, a / 0x10000 = 0x400A → regKept a = false → t.rd a = regReset a) ∧ t.keys.objs = s.keys.objs) ∧
    (s.rep.reset = some r → ∃ t, exec (.resetApply b) s = .next t ∧ t.mode = 0 ∧ t.rep.reset = none ∧ t.host.rstout = true ∧
      (∀ d, 0 < d → d ≤ 14 → bootDoms.contains d = false → (t.dom d).busy = false ∧
        (t.dom d).state = if (s.dom d).state = .off then .off else .ret) ∧
      (∀ a, a / 0x10000 = 0x4003 → regKept a = false → t.rd a = regReset a) ∧
      (s.host.resetLow = false → t.fld GPIO_SYSPIN 31 30 = b.val)) ∧
    (s.host.resetLow = false →
      (n = 3 → s.mode ≠ 7 → ∃ t, exec (.resetNAssert n) s = .next t ∧ t.host.resetLow = true ∧ t.rep.reset ≠ none ∧
        (s.rep.reset = none → t.rep.reset = some ⟨4⟩) ∧ t.regs = s.regs ∧ t.mem = s.mem) ∧
      (n = 1 ∨ n = 2 → ∃ t, exec (.resetNAssert n) s = .next t ∧ t.rep.reset = s.rep.reset ∧ t.mem = s.mem ∧
        t.fld GPIO_SYSPIN 7 0 = min (s.fld GPIO_SYSPIN 7 0 + 1) 255 ∧ ∀ a, a ≠ GPIO_SYSPIN → t.rd a = s.rd a)) ∧
    (s.host.resetLow = true → ∃ t, exec (.resetNRelease b) s = .next t ∧ t.host.resetLow = false ∧ t.mem = s.mem ∧
      (s.mode = 0 → s.rep.reset = none → s.bit PWR_SUPPLY 1 = true → t.fld GPIO_SYSPIN 31 30 = b.val ∧ (s.dbg.tap ≠ .extest →
        ∀ d ∈ [1, 8, 11, 14], (s.dom d).state = .off → (s.dom d).busy = false → (s.dom d).hold = none → (t.dom d).target = .on ∧
          (t.dom d).busy = true))) ∧
    (s.host.resetLow = false → s.rep.reset = none → ∃ t, exec .rstoutRelease s = .next t ∧ t.host.rstout = false ∧
      { t with host := s.host } = s)

/-- R348–R352, R257: a lifecycle command with its KEY is checked (BUSY, LIFECYCLE, NOTREADY with its detail, AUTH) and programs
its fuses; when they are done a reset is decided after which the new state holds, while OWNERKEY and the ZEROIZED group of a
tamper hold at once. TO_RMA zeroizes first. A tamper source that asserts long enough latches, zeroizes, closes sessions and takes
the device to ZEROIZED; a shorter event counts, and one while LATCH is set counts as REPEAT. Where the rules are silent or can be
read in two ways, the clauses follow the model's choices of log entries 55 and 58. -/
def Obligations.LifecycleCommandsAndTamper : Prop :=
  ∀ (key : BitVec 16) (src : Fin 7) (n : Fin 4) (cmd : Nat) (s : State),
    let lc := s.lifecycle
    let k : BitVec 16 := 0x4C43
    let free := s.bit DBG_LCSTAT 31 = false ∧ s.dbg.lcCmd = none
    let ends (i : Instr) (q : State → Prop) : Prop := ∃ t, exec i s = .next t ∧ q t
    let accepted (t : State) (cmd : Nat) : Prop := t.dbg.lcCmd = some cmd ∧ t.bit DBG_LCSTAT 31 = true ∧ t.bit DBG_LC 31 = true ∧
      t.lifecycle = lc
    let refused (i : Instr) (status detail : Nat) : Prop := ends i fun t => t.dbg = s.dbg ∧ t.fld DBG_LCSTAT 7 0 = status ∧
      t.fld DBG_LCSTAT 15 8 = detail ∧ Within [22] s t
    let fresh := ∃ t0, s.dbg.rmaAt = some t0 ∧ s.elapsed / 65536 ≤ t0 + 60
    let i := src.val
    let enabled := i < 6 ∧ s.bit DBG_TAMPCFG i = true ∧ s.bit DBG_TAMPSTAT i = false
    let valid := (i < 2 → n = 3) ∧ (i = 2 → 2 ≤ n.val) ∧ 1 ≤ n.val
    (key ≠ 0x4C43 → ∀ x ∈ [Instr.toProvision key, .fuseOwner key, .toField key, .toRma key], exec x s = .next s) ∧
    (s.bit DBG_LCSTAT 31 = true → ∀ x ∈ [Instr.toProvision k, .fuseOwner k, .toField k, .toRma k],
      exec x s = .next (s.setFld DBG_LCSTAT 7 0 stBUSY)) ∧
    (free →
      (lc = 0 → ends (.toProvision k) fun t => accepted t 1 ∧ Within [22] s t) ∧
      (lc ≠ 0 → refused (.toProvision k) stLIFECYCLE 0) ∧
      (lc = 1 → s.bit DBG_LC 8 = false → ends (.fuseOwner k) fun t => accepted t 2 ∧
        t.dbg.owner = Config.sha256 (s.respOctets 0 16) ∧ Within [22] s t) ∧
      (lc ≠ 1 ∨ s.bit DBG_LC 8 = true → refused (.fuseOwner k) stLIFECYCLE 0) ∧
      (lc ≠ 1 → refused (.toField k) stLIFECYCLE 0) ∧
      (lc = 1 → s.bit SUBTX_GRDSTAT 31 = false → refused (.toField k) stNOTREADY 1) ∧
      (lc = 1 → s.bit SUBTX_GRDSTAT 31 = true → s.fld KEYS_STAT 31 30 = 0 → refused (.toField k) stNOTREADY 2) ∧
      (lc = 1 → s.bit SUBTX_GRDSTAT 31 = true → s.fld KEYS_STAT 31 30 ≠ 0 → s.bit DBG_LC 8 = false → refused (.toField k) stNOTREADY 3) ∧
      (lc = 1 → s.bit SUBTX_GRDSTAT 31 = true → s.fld KEYS_STAT 31 30 ≠ 0 → s.bit DBG_LC 8 = true →
        ends (.toField k) fun t => accepted t 3 ∧ Within [22] s t) ∧
      (lc = 3 → refused (.toRma k) stLIFECYCLE 0) ∧
      (lc ≠ 3 → ¬fresh → refused (.toRma k) stAUTH 0) ∧
      (lc ≠ 3 → fresh → ends (.toRma k) fun t => accepted t 4 ∧ t.keys.zero = 1 ∧ t.keys.sek = false)) ∧
    (s.dbg.lcCmd = some cmd →
      (cmd = 1 ∨ cmd = 3 ∨ cmd = 4 → ends .lcFusesDone fun t => t.dbg.lcCmd = none ∧ t.rep.reset ≠ none ∧ t.bit DBG_LC 31 = false ∧
        t.dbg.lcNew = some (if cmd = 1 then 1 else if cmd = 3 then 2 else 3) ∧ t.lifecycle = lc ∧ (cmd = 3 → t.bit DBG_LC 9 = true) ∧
        Within [22] s t) ∧
      (cmd = 2 → ends .lcFusesDone fun t => t.dbg.lcCmd = none ∧ t.bit DBG_LC 8 = true ∧ t.rep.reset = s.rep.reset ∧
        t.lifecycle = lc ∧ Within [22] s t) ∧
      (cmd = 0 → ends .lcFusesDone fun t => t.dbg.lcCmd = none ∧ t.lifecycle = 4 ∧ t.rep.reset = s.rep.reset ∧ Within [22] s t)) ∧
    (i < 6 → s.bit DBG_TAMPCFG i = false → exec (.tamperAssert src n) s = .next s) ∧
    (enabled → i < 2 → n = 1 ∨ n = 2 → ends (.tamperAssert src n) fun t => Within [22] s t ∧ t.dbg = s.dbg ∧
      t.fld DBG_TAMPCNT (31 - 8 * i) (24 - 8 * i) = min (s.fld DBG_TAMPCNT (31 - 8 * i) (24 - 8 * i) + 1) 255) ∧
    (enabled → i = 2 → n = 1 → ends (.tamperAssert src n) fun t => Within [22] s t ∧ t.dbg = s.dbg ∧
      t.fld DBG_TAMPCNT 15 8 = min (s.fld DBG_TAMPCNT 15 8 + 1) 255) ∧
    (enabled → valid → s.bit DBG_TAMPSTAT 31 = true → ends (.tamperAssert src n) fun t => Within [22] s t ∧ t.dbg = s.dbg ∧
      t.bit DBG_TAMPSTAT i = true ∧ t.fld DBG_TAMPCNT 7 0 = min (s.fld DBG_TAMPCNT 7 0 + 1) 255) ∧
    (enabled → valid → s.bit DBG_TAMPSTAT 31 = false → s.mode ≠ 0 → s.mode ≠ 11 → ends (.tamperAssert src n) fun t => t.mode = 11 ∧
      t.latched = true ∧ t.session = false ∧ t.bit DBG_TAMPSTAT 31 = true ∧ t.fld DBG_TAMPSTAT 30 28 = i ∧ t.bit DBG_TAMPSTAT i = true ∧
      t.keys.zero = 1 ∧ t.keys.sek = false ∧ (lc = 2 → t.dbg.lcCmd = some 0) ∧ (lc ≠ 2 → t.dbg.lcCmd = none)) ∧
    (∀ j : Fin 6, ends (.tamperInputRelease j) fun t => t.bit DBG_TAMPSTAT j = false ∧
      (∀ b, b ≠ j.val → t.bit DBG_TAMPSTAT b = s.bit DBG_TAMPSTAT b) ∧ (∀ a, a ≠ DBG_TAMPSTAT → t.rd a = s.rd a) ∧ t.mem = s.mem)

/-- R353–R360, R438: a write of DBG_OPEN begins an opening, which completes with the first check that fails or opens the session
at its level with its domains attached; eight failures start a lockout, and LEVEL 0xF authorises RMA only. A close ends halts and
freezes. Halt, step and freeze reach attached domains at level HALT or FULL, but not CRYP in FIELD. The TAP selects BYPASS,
IDCODE, SAMPLE and EXTEST without a session; DBGACC reaches what the level admits. Where the rules are silent or can be read in
two ways, the clauses follow the model's choices of log entries 41, 54 and 71. -/
def Obligations.DebugSessionsAndTheTap : Prop :=
  ∀ (v a w : Word) (mask8 : BitVec 8) (mask14 : BitVec 14) (code : BitVec 4) (level : Nat) (owner write : Bool) (mask : Word)
    (c : Fin 8) (s : State),
    let ends (i : Instr) (q : State → Prop) : Prop := ∃ t, exec i s = .next t ∧ q t
    let out := (maskDoms mask).filter fun d => !s.isOn d
    let st := if s.fld DBG_STAT 23 8 ≠ 0 ∨ s.mode = 7 then stDENIED else if s.fld DBG_SESS 31 30 ≠ 0 then stBUSY
      else if levelOk s.debugRow level = false then stLIFECYCLE else if s.openAuth level owner mask = false then stAUTH
      else if out ≠ [] ∧ (s.bit DBG_SESS 25 = false ∨ s.zeroBarred out = true) then stNOTREADY else stOK
    let halts := 2 ≤ s.fld DBG_SESS 31 30
    let addr := a.toNat
    let dram := areaOf addr = .dram ∧ addr % 4 = 0 ∧ s.attached 9 = true ∧ s.isOn 9 = true
    let outside := s.dbg.tap ≠ .extest
    (s.dbg.opening = none → ends (.debugOpen v) fun t => t.dbg.opening = some (bits v 31 28, v.getLsbD 24, v &&& 0x7FFE) ∧
      t.bit DBG_SESS 28 = true ∧ Within [22] s t) ∧
    (s.dbg.opening ≠ none → exec (.debugOpen v) s = .next s) ∧
    (s.dbg.opening = some (level, owner, mask) →
      (st ≠ stOK → ends .openingDone fun t => t.dbg.opening = none ∧ t.bit DBG_SESS 28 = false ∧ t.fld DBG_STAT 7 0 = st ∧
        t.fld DBG_STAT 31 24 = min (s.fld DBG_STAT 31 24 + 1) 255 ∧ t.fld DBG_SESS 31 30 = s.fld DBG_SESS 31 30 ∧
        t.fld DBG_SESS 14 1 = s.fld DBG_SESS 14 1 ∧ Within [22] s t ∧
        (8 ≤ s.fld DBG_STAT 31 24 + 1 → s.fld DBG_STAT 23 8 = 0 → t.fld DBG_STAT 23 8 = 600 ∧ t.bit DBG_FLAGS 4 = true)) ∧
      (st = stOK → level ≠ 0xF → ends .openingDone fun t => t.dbg.opening = none ∧ t.fld DBG_SESS 31 30 = level ∧
        t.fld DBG_SESS 14 1 = bits mask 14 1 ∧ t.fld DBG_STAT 31 24 = 0 ∧ t.fld DBG_STAT 7 0 = stOK ∧ t.bit DBG_FLAGS 0 = true ∧
        (level = 2 → s.lifecycle = 2 → t.bit KEYS_STAT 2 = true)) ∧
      (st = stOK → level = 0xF → ends .openingDone fun t => t.dbg.opening = none ∧ t.dbg.rmaAt = some (s.elapsed / 65536) ∧
        t.fld DBG_SESS 31 30 = s.fld DBG_SESS 31 30 ∧ Within [22] s t)) ∧
    (s.fld DBG_SESS 31 30 ≠ 0 → ends .debugClose fun t => t.fld DBG_SESS 31 30 = 0 ∧ t.fld DBG_SESS 14 1 = 0 ∧ t.rd DBG_HALT = 0 ∧
      (∀ k, (t.core k).dbgHalt = false ∧ (t.core k).dbgStep = false) ∧ Within [12, 22] s t) ∧
    (s.fld DBG_SESS 31 30 = 0 → exec .debugClose s = .next s) ∧
    (ends .lockoutExpiry fun t => t.fld DBG_STAT 23 8 = 0 ∧ (∀ x, x ≠ DBG_STAT → t.rd x = s.rd x) ∧ t.mem = s.mem) ∧
    (halts → ends (.coreHalt mask8) fun t => Within [22] s t ∧ ∀ k : Fin 8, (t.core k).dbgHalt =
      (mask8.getLsbD k && s.attached (coreDom k))) ∧
    (halts → ends (.coreStep mask8) fun t => Within [22] s t ∧ ∀ k : Fin 8, (t.core k).dbgStep =
      (mask8.getLsbD k && s.bit DBG_HALT k && s.attached (coreDom k) && (s.core k).dbgHalt)) ∧
    (halts → ends (.domainFreeze mask14) fun t => Within [22] s t ∧ (mask14.getLsbD 7 = true → s.lifecycle = 2 → t.bit DBG_FLAGS 1 = true) ∧
      ∀ d, 0 < d → d ≤ 14 → t.frozen d = (mask14.getLsbD (d - 1) && s.attached d && !(d == 8 && s.lifecycle == 2))) ∧
    (¬halts → ∀ i ∈ [Instr.coreHalt mask8, .coreStep mask8, .domainFreeze mask14], exec i s = .next s) ∧
    (outside → (ends .extest fun t => t.dbg.tap = .extest ∧ t.rep.reset ≠ none ∧ t.regs = s.regs ∧ t.mem = s.mem) ∧
      (ends .samplePreload fun t => t.dbg.tap = .sample ∧ t.regs = s.regs ∧ t.mem = s.mem ∧ t.rep = s.rep) ∧
      (ends .idcode fun t => t.dbg.tap = .idcode ∧ t.bus = 0xB720055B ∧ t.regs = s.regs ∧ t.mem = s.mem ∧ t.rep = s.rep) ∧
      (code.toNat ∉ [0x0, 0x1, 0x2, 0x8] → ends (.bypass code) fun t => t.dbg.tap = .bypass ∧ t.regs = s.regs ∧ t.mem = s.mem ∧
        t.rep = s.rep)) ∧
    (s.dbg.tap = .extest → s.rep.reset = none → s.mode = 0 → s.bit PWR_SUPPLY 1 = true → s.onOrComing 1 = false →
      s.host.resetLow = false → (s.dom 1).hold = none → (s.dom 1).busy = false →
        ends .samplePreload fun t => t.dbg.tap = .sample ∧ (t.dom 1).target = .on ∧ (t.dom 1).busy = true) ∧
    (outside → dram → s.debugRow ≠ 4 →
      (1 ≤ s.fld DBG_SESS 31 30 → ends (.dbgacc false a w) fun t => t.dbg.acc = .ok ∧ t.bus = s.ldw addr ∧ t.mem = s.mem ∧ t.regs = s.regs) ∧
      (halts → s.lockedRange addr 4 = false → ends (.dbgacc true a w) fun t => t.dbg.acc = .ok ∧ t.ldw addr = w ∧ t.regs = s.regs ∧
        ∀ x, x < addr ∨ addr + 4 ≤ x → t.byte x = s.byte x) ∧
      (s.fld DBG_SESS 31 30 = 1 → ends (.dbgacc true a w) fun t => t.dbg.acc = .denied ∧ t.mem = s.mem ∧ t.regs = s.regs)) ∧
    (outside → s.debugRow ≠ 4 → s.fld DBG_SESS 31 30 = 0 → addr / 0x10000 ≠ 0x4016 → ends (.dbgacc write a w) fun t =>
      t.dbg.acc = .denied ∧ t.bus = 0 ∧ t.mem = s.mem ∧ t.regs = s.regs) ∧
    (outside → scratchCore addr = some c → addr % 4 = 0 → s.debugRow ≠ 4 → s.attached (coreDom c) = true → s.isOn (coreDom c) = true →
      halts → (s.core c).dbgHalt = true → ends (.dbgacc true a w) fun t => t.dbg.acc = .ok ∧ t.ldw addr = w ∧ t.regs = s.regs ∧
        ∀ x, x < addr ∨ addr + 4 ≤ x → t.byte x = s.byte x)

/-- R363–R368, R382–R384: a UPD command that finds the unit free acts and is BUSY until it completes with its status, detail and
result; one written while BUSY is lost. PIECE writes a head, list or image piece that passes its checks; ERASE empties a target;
VERIFY, LOADSLOT and RELEASE take and free a verified entry; PGRET remaps a page. What a completed piece stands for is then set,
and list and image hashes decide LIST, COMPLETE or BAD. Where the rules are silent or can be read in two ways, the clauses follow
the model's choices of log entry 72. -/
def Obligations.UpdCommandsReceiveAndVerifyImages : Prop :=
  ∀ (t5 : Fin 16) (v : Fin 8) (k : Fin 64) (t : Fin 6) (u : UpdCmd) (i : Nat) (s : State), s.isOn 14 = true →
    let ready := s.bit UPD_CMDSTAT 31 = false ∧ s.mode ≠ 9
    let acts (c : Instr) (status detail result : Nat) (fin : UpdFin) (q : State → Prop) : Prop := ∃ t, exec c s = .next t ∧
      t.rd UPD_CMDSTAT = 0x80000000 ∧ t.upd.cmd = some ⟨status, detail, result, fin, none⟩ ∧ q t
    let kept (t : State) : Prop := t.mem = s.mem ∧ Within [12, 20] s t
    let tn := t5.val
    let a := (s.rd UPD_ARG0).toNat
    let stream := s.fld UPD_ARG1 31 30
    let count := if stream = 0 then 1 else if stream = 1 then s.nlist tn else s.npiece tn
    let ranged := tn ≤ 5 ∧ stream ≠ 3 ∧ i < count ∧ s.updRange a 512 = true
    let data := s.octets a 512
    let hashed := beOctets (Config.sha256 data).toNat 32 = s.octets (s.manifestBase tn + 512 + 32 * i) 32
    let slot := s.fld UPD_ARG1 0 0
    let n := fieldAt (s.octets (s.manifestBase slot) 512) 0x008 4
    let u2 := s.dmaWrite a (s.octets (s.imageBase slot) n)
    let page := a / 4096 % 65536
    let list := Config.sha256 (s.octets (s.manifestBase t + 512) (32 * s.npiece t))
    let image := Config.sha256 (s.octets (s.imageBase t) (fieldAt (s.octets (s.manifestBase t) 512) 0x008 4))
    (s.bit UPD_CMDSTAT 31 = true → ∀ c ∈ [Instr.piece t5, .erase t5, .updVerify, .updRelease t5, .loadslot, .updCommit, .updRevert, .setw,
        .setfind, .setdel, .pgret], exec c s = .next (s.setBit UPD_STAT 4 true)) ∧
    (ready → s.fld UPD_ARG1 29 0 = i →
      (5 < tn ∨ stream = 3 ∨ s.updRange a 512 = false → acts (.piece t5) stRANGE 0 0 .none kept) ∧
      (ranged → s.slotInUse tn = true → acts (.piece t5) stDENIED 1 0 .none kept) ∧
      (ranged → s.slotInUse tn = false → stream = 0 → s.tgt tn = 0 → s.headFits tn data = true →
        (s.headSig data = 0 → acts (.piece t5) stOK 0 0 (.piece tn 0 0) fun t => t.octets (s.manifestBase tn) 512 = data ∧
          t.npiece tn = fieldAt data 0x00C 4) ∧
        (s.headSig data ≠ 0 → acts (.piece t5) stAUTH (s.headSig data) 0 .none kept)) ∧
      (ranged → s.slotInUse tn = false → stream ≠ 0 →
        (s.tgt tn = 0 ∨ (stream = 2 ∧ s.tgt tn = 1) → acts (.piece t5) stNOTREADY 0 0 .none kept) ∧
        (s.tgt tn ≠ 0 → (stream = 2 → s.tgt tn ≠ 1) → s.pieceBit tn stream i = true → acts (.piece t5) stALREADY 0 0 .none kept) ∧
        (s.tgt tn ≠ 0 → (stream = 2 → s.tgt tn ≠ 1) → s.pieceBit tn stream i = false →
          (stream = 2 → ¬hashed → acts (.piece t5) stAUTH 0 0 .none kept) ∧
          ((stream = 2 → hashed) → acts (.piece t5) stOK 0 0 (.piece tn stream i) fun t =>
            t.octets (if stream = 1 then s.manifestBase tn + 512 + 512 * i else s.imageBase tn + 512 * i) 512 = data)))) ∧
    (ready → tn ≤ 5 → s.slotInUse tn = false → acts (.erase t5) stOK 0 0 .none fun t => t.tgt tn = 0 ∧ t.npiece tn = 0 ∧
      (∀ st j, t.pieceBit tn st j = false) ∧ kept t) ∧
    (ready → tn ≤ 5 → s.slotInUse tn = true → acts (.erase t5) stDENIED 1 0 .none kept) ∧
    (ready → 5 < tn → acts (.erase t5) stRANGE 0 0 .none kept) ∧
    (ready →
      ((s.checkLup a).1 ≠ stOK → acts .updVerify (s.checkLup a).1 (s.checkLup a).2.1 0 .none kept) ∧
      ((s.checkLup a).1 = stOK → (∀ j, j < 8 → s.bit (UPD_VERv j) 31 = true) → acts .updVerify stFULL 0 0 .none kept) ∧
      ((s.checkLup a).1 = stOK → s.bit (UPD_VERv v) 31 = false → (∀ j, j < v.val → s.bit (UPD_VERv j) 31 = true) →
        acts .updVerify stOK 0 v .none fun t => t.bit (UPD_VERv v) 31 = true ∧ t.entryAddr v = a ∧
          vget t.upd.verLen v 0 = (s.lup a).len ∧ kept t)) ∧
    (ready → tn < 8 → s.bit (UPD_VERv tn) 31 = true → acts (.updRelease t5) stOK 0 0 .none fun t => t.rd (UPD_VERv tn) = 0 ∧ kept t) ∧
    (ready → 8 ≤ tn ∨ s.bit (UPD_VERv tn) 31 = false → acts (.updRelease t5) stRANGE 0 0 .none kept) ∧
    (ready → s.tgt slot ≠ 3 → acts .loadslot stNOTREADY 0 0 .none kept) ∧
    (ready → s.tgt slot = 3 → ¬(0x80000000 ≤ a ∧ a + n ≤ 0x8FFC0000 ∧ s.isOn 9 = true) → acts .loadslot stRANGE 0 0 .none kept) ∧
    (ready → s.tgt slot = 3 → 0x80000000 ≤ a → a + n ≤ 0x8FFC0000 → s.isOn 9 = true → s.lockedRange a n = false →
      (u2.checkLup a).1 = stOK → s.bit (UPD_VERv v) 31 = false → (∀ j, j < v.val → s.bit (UPD_VERv j) 31 = true) →
      acts .loadslot stOK 0 v .none fun t => t.octets a n = s.octets (s.imageBase slot) n ∧ t.entryAddr v = a ∧
        t.fld (UPD_VERv v) 30 29 = slot + 1) ∧
    (ready → s.updRange a 4096 = true →
      ((∃ j, j < 64 ∧ s.rd (UPD_PGRETk j) = word (2 ^ 31 + page)) → acts .pgret stALREADY 0 0 .none kept) ∧
      ((∀ j, j < 64 → s.rd (UPD_PGRETk j) ≠ word (2 ^ 31 + page)) → s.bit (UPD_PGRETk k) 31 = false →
        (∀ j, j < k.val → s.bit (UPD_PGRETk j) 31 = true) → acts .pgret stOK 0 0 .none fun t =>
          t.rd (UPD_PGRETk k) = word (2 ^ 31 + page) ∧ kept t)) ∧
    (ready → s.updRange a 4096 = false → acts .pgret stRANGE 0 0 .none kept) ∧
    (s.upd.cmd = some u → u.svc = none → ∃ t, exec .updCommandDone s = .next t ∧ t.upd.cmd = none ∧ t.mem = s.mem ∧
      t.rd UPD_CMDSTAT = word (u.result * 65536 + u.detail * 256 + u.status) ∧ ∀ j st x, u.fin = .piece j st x → j ≤ 5 →
        (st = 0 → t.tgt j = 1) ∧ (st = 1 ∨ st = 2 → t.pieceBit j st x = true)) ∧
    (s.tgt t = 1 → (s.listBits t).length = s.nlist t →
      (beOctets list.toNat 32 = s.octets (s.manifestBase t + 0x40) 32 → ∃ u, exec (.listHashDone t) s = .next u ∧ u.tgt t = 2 ∧ kept u) ∧
      (beOctets list.toNat 32 ≠ s.octets (s.manifestBase t + 0x40) 32 → ∃ u, exec (.listHashDone t) s = .next u ∧ u.tgt t = 1 ∧
        u.listBits t = [] ∧ u.bit UPD_STAT 1 = true ∧ kept u)) ∧
    (s.tgt t = 2 → (s.imgBits t).length = s.npiece t →
      (beOctets image.toNat 32 = s.octets (s.manifestBase t + 0x20) 32 → ∃ u, exec (.imageHashDone t) s = .next u ∧ u.tgt t = 3 ∧
        u.bit UPD_STAT 0 = true ∧ kept u) ∧
      (beOctets image.toNat 32 ≠ s.octets (s.manifestBase t + 0x20) 32 → ∃ u, exec (.imageHashDone t) s = .next u ∧ u.tgt t = 4 ∧
        u.bit UPD_STAT 2 = true ∧ kept u))

/-- R373, R374: COMMIT ends a trial, whose settings become the committed ones; REVERT, the trial watchdog, and the time after it
go back to the other slot. SETW writes a settings block stamped with the current generation, SETFIND finds the newest copy, and
SETDEL removes the current ones. That REVERT without a trial answers NOTREADY, and where SETFIND shows its offset, are the model's
choices (log entry 21). -/
def Obligations.TrialsAndSettingsCommitOrRevert : Prop :=
  ∀ (off : Nat) (b : SetBlk) (s : State), s.isOn 14 = true →
    let ready := s.bit UPD_CMDSTAT 31 = false ∧ s.mode ≠ 9
    let acts (c : Instr) (status : Nat) (q : State → Prop) : Prop := ∃ t, exec c s = .next t ∧
      t.rd UPD_CMDSTAT = 0x80000000 ∧ t.upd.cmd = some ⟨status, 0, 0, .none, none⟩ ∧ q t
    let kept (t : State) : Prop := t.mem = s.mem ∧ Within [20] s t
    let trial := s.fld UPD_BOOT 0 0
    let reverted (t : State) : Prop := t.fld UPD_BOOT 0 0 = 1 - trial ∧ t.bit UPD_BOOT 31 = false ∧ t.bit UPD_BOOT 30 = true ∧
      t.tgt trial = 4 ∧ t.upd.revertDue = true ∧ t.bit UPD_STAT 3 = true ∧ (∀ c r, t.gpr c r = s.gpr c r)
    let a := (s.rd UPD_ARG0).toNat
    let id := s.loadN a 2
    let len := s.loadN (a + 6) 2
    let same (b : SetBlk) : Bool := b.id == id && b.gen == s.curGen
    let found := s.upd.settings.filter fun b => b.id == s.fld UPD_ARG1 15 0 && genLe b.gen s.curGen
    (ready → s.bit UPD_BOOT 31 = true → acts .updCommit stOK fun t => t.bit UPD_BOOT 31 = false ∧ t.fld UPD_TRIAL 31 16 = 0 ∧
      t.fld UPD_SETGEN 15 0 = s.fld UPD_SETGEN 31 16 ∧ t.fld UPD_BOOT 0 0 = trial) ∧
    (ready → s.bit UPD_BOOT 31 = false → acts .updCommit stALREADY kept) ∧
    (ready → s.bit UPD_BOOT 31 = true → acts .updRevert stOK reverted) ∧
    (ready → s.bit UPD_BOOT 31 = false → acts .updRevert stNOTREADY kept) ∧
    (s.bit UPD_BOOT 31 = true → ∃ t, exec .trialExpiry s = .next t ∧ reverted t) ∧
    (s.bit UPD_BOOT 31 = false → exec .trialExpiry s = .next s) ∧
    (s.bit UPD_BOOT 30 = true → s.upd.revertDue = true → s.mode ≠ 7 → ∃ t, exec .revertTimeout s = .next t ∧ t.upd.revertDue = false ∧
      t.rep.reset ≠ none ∧ (s.rep.reset = none → t.rep.reset = some ⟨8⟩) ∧ t.regs = s.regs ∧ t.mem = s.mem) ∧
    (ready → 4096 < len ∨ s.updRange a (12 + len) = false → acts .setw stRANGE kept) ∧
    (ready → len ≤ 4096 → s.updRange a (12 + len) = true →
      (findRoom (12 + len) 0 (s.upd.settings.filter fun b => !same b) = none → acts .setw stFULL kept) ∧
      (findRoom (12 + len) 0 (s.upd.settings.filter fun b => !same b) = some off → acts .setw stOK fun t =>
        ⟨off, id, s.loadN (a + 2) 2, s.curGen, len⟩ ∈ t.upd.settings ∧ t.octets (setBase + off + 12) len = s.octets (a + 12) len ∧
        t.loadN (setBase + off) 2 = id ∧ t.loadN (setBase + off + 4) 2 = s.curGen)) ∧
    (ready → b ∈ found → (∀ x ∈ found, genLe x.gen b.gen = true ∧ (x ≠ b → genLe b.gen x.gen = false)) → acts .setfind stOK fun t =>
      t.rd UPD_ARG0 = word (0x600000 + b.off) ∧ kept t) ∧
    (ready → found = [] → acts .setfind stNOTREADY kept) ∧
    (ready → acts .setdel stOK fun t => t.upd.settings =
      s.upd.settings.filter fun b => !(b.id == s.fld UPD_ARG1 15 0 && b.gen == s.curGen))

/-- R50, R370–R372: ACT of a verified image whose type fits its scope and whose key still holds begins what the scope names: a
program swap of another core, the pause of the packet engine or of GNSS, or the staging of a bundle; otherwise it answers RANGE,
NOTREADY, AUTH or BUSY. A swap ends with the core at its entry point, a pause ends, and a device activation ends in the mode of
RETURN on the new bundle or on the one that ran. Where the rules are silent or can be read in two ways, the clauses follow the
model's choices of log entries 52 and 70. -/
def Obligations.ActivationsStageSwapAndEnd : Prop :=
  ∀ (c k : Fin 8) (gd ga : Fin 16) (v : Fin 8) (h : Nat) (step status who : Fin 256) (pause : Word) (s : State),
    let a := (s.gpr c ga).toNat
    let inDram := 0x80000000 ≤ a ∧ a + 0x100 ≤ 0x8FFC0000
    let swap : Instr := .act c gd ga (BitVec.ofNat 16 (4 * k.val))
    let forms : List (Instr × Nat) := [(swap, 0), (.actPktMicrocode c gd ga 0, 1),
      (.actGnssMicrocode c gd ga 0, 2), (.actBundle c gd ga 0, 3)]
    let returns (i : Instr) (w : Word) (q : State → Prop) : Prop := ∃ t, exec i s = .next t ∧ Returned s t c gd w ∧ q t
    let typ := (s.lup a).typ
    let target := k ≠ c ∧ (s.core k).run ≠ .retired ∧ (s.lup a).cores.testBit k = true
    let mine (i : Nat) : Prop := typ = i ∧ (i = 0 → target) ∧ (i = 3 → s.onlyRetired a = false)
    let upds (t : State) : Prop := t.upd = s.upd
    let slot := s.fld (UPD_VERv v) 30 29 - 1
    (s.able c [9, 14] = true →
      (∀ e ∈ forms, inDram → typ ≠ e.2 → returns e.1 (completion stRANGE) upds) ∧
      (inDram → typ = 0 → ¬target → returns swap (completion stRANGE) upds) ∧
      (inDram → typ = 3 → s.onlyRetired a = true → returns (.actBundle c gd ga 0) (completion stRANGE 4) upds) ∧
      (∀ e ∈ forms, inDram → mine e.2 → s.entryAt a = none → returns e.1 (completion stNOTREADY) upds) ∧
      (∀ e ∈ forms, inDram → mine e.2 → s.entryAt a = some v.val → (e.2 = 3 → s.bundleReady v = true) →
        (s.keyLost a = true → returns e.1 (completion stAUTH) upds) ∧
        (s.keyLost a = false → s.mode = 8 → returns e.1 (completion stBUSY) upds)) ∧
      (inDram → s.entryAt a = some v.val → s.keyLost a = false → s.mode ≠ 8 →
        (mine 0 → vget s.upd.swap k none = none → returns swap (completion stOK) fun t =>
          (t.core k).run = .loading ∧ vget t.upd.swap k none = some a) ∧
        (mine 0 → vget s.upd.swap k none ≠ none → returns swap (completion stBUSY) upds) ∧
        (mine 1 → s.upd.pktPause = false → returns (.actPktMicrocode c gd ga 0) (completion stOK) fun t => t.upd.pktPause = true) ∧
        (mine 2 → s.upd.gnssPause = false → returns (.actGnssMicrocode c gd ga 0) (completion stOK) fun t => t.upd.gnssPause = true) ∧
        (mine 3 → s.bundleReady v = true → returns (.actBundle c gd ga 0) (completion stOK) fun t => t.upd.bundle = some v.val) ∧
        (mine 3 → s.bundleReady v = false → returns (.actBundle c gd ga 0) (completion stNOTREADY) upds))) ∧
    (s.upd.gnssPause = true → ∃ t, exec (.actPauseEnd true) s = .next t ∧ t.upd.gnssPause = false ∧ Within [21] s t) ∧
    (s.upd.pktPause = true → ∃ t, exec (.actPauseEnd false) s = .next t ∧ t.upd.pktPause = false ∧ t.qfab.hold = [] ∧
      Within [21] s t) ∧
    (s.upd.bundle = some v.val → s.mode = 8 →
      (∃ t, exec (.activationEnd true step status who pause) s = .next t ∧ t.mode = s.fld SYS_MODE 11 8 ∧ t.upd.bundle = s.upd.bundle) ∧
      (∃ t, exec (.activationEnd false step status who pause) s = .next t ∧ t.mode = s.fld SYS_MODE 11 8 ∧ t.upd.bundle = none ∧
        t.rd UPD_BOOT = word (2 ^ 31 + slot * 256 + slot) ∧ t.fld UPD_RUNENT 3 0 = v.val)) ∧
    ((s.core k).run = .loading →
      ((vget s.upd.swap k none).or (s.runComponent k) = some h → ∃ t, exec (.programSwapEnd k) s = .next t ∧ (t.core k).run = .running ∧
        (t.core k).pc = (s.lup h).entry ∧ (t.core k).evmask = 0 ∧ (t.core k).level = 0 ∧ vget t.upd.swap k none = none ∧
        (s.lupFits h false = true → (s.lup h).typ = 0 →
          t.octets (iscrBase k) (s.lup h).iLen = s.octets (h + (s.lup h).iOff) (s.lup h).iLen)) ∧
      ((vget s.upd.swap k none).or (s.runComponent k) = none → ∃ t, exec (.programSwapEnd k) s = .next t ∧ (t.core k).run = .halted ∧
        t.mem = s.mem ∧ t.regs = s.regs))

/-- R377–R381, R383, R384: STG appends an entry with STGMASK, or answers RANGE or FULL; CHK makes the bank CHECKED or answers RULE
with the rule and the entry; BLK of a CHECKED bank waits for its edge or arms the bank, and answers NOTREADY otherwise and LATE
for a time past. The host's commands do the same and answer in PLANK_HSTAT. On its edge a bank applies all of its entries, or is
ABORTED by rule 2, 20 or 21. CLEAR empties a bank, DISARM takes ARMED to CHECKED. Where the rules are silent or can be read in two
ways, the clauses follow the model's choices of log entry 73. -/
def Obligations.ThePlankStagesChecksAndApplies : Prop :=
  ∀ (c : Fin 8) (gd ga gb : Fin 16) (b : Fin 2) (func : BitVec 14) (sub : BitVec 20) (r i : Nat) (val mask : Word) (s : State),
    s.isOn 14 = true → s.mode ≠ 9 →
    let st := s.bankState b
    let count := s.bankCount b
    let stat := PLANK_BANKb_STAT b
    let core := s.runs c = true ∧ func.toNat = b.val ∧ sub.toNat = b.val
    let returns (i : Instr) (w : Word) (q : State → Prop) : Prop := ∃ t, exec i s = .next t ∧ Returned s t c gd w ∧ q t
    let answers (i : Instr) (status detail : Nat) (q : State → Prop) : Prop := ∃ t, exec i s = .next t ∧
      t.rd PLANK_HSTAT = word (detail * 256 + status) ∧ q t ∧ Within [19] s t
    let same (t : State) : Prop := t.bankState b = st ∧ t.bankCount b = count ∧ t.bankEntries b = s.bankEntries b
    let fits (a mask : Word) := a.toNat % 4 = 0 ∧ 0x40000000 ≤ a.toNat ∧ a.toNat ≤ 0x4017FFFC ∧ mask ≠ 0
    let room := st ≠ 3 ∧ (st < 4 → count < 1024)
    let staged (a v m : Word) (src : Nat) (t : State) : Prop := let n := if st < 4 then count else 0
      t.bankState b = 1 ∧ t.bankCount b = n + 1 ∧ t.rd (PLANK_Eb_i_ADDR b n) = a ∧ t.rd (PLANK_Eb_i_VAL b n) = v ∧
      t.rd (PLANK_Eb_i_MASK b n) = m ∧ t.rd (PLANK_Eb_i_SRC b n) = word src ∧
      ∀ j, j < n → t.rd (PLANK_Eb_i_ADDR b j) = s.rd (PLANK_Eb_i_ADDR b j)
    let a := s.gpr c ga
    let v := s.gpr c gb
    let m := (s.core c).stgmask
    let ha := s.rd PLANK_HADDR
    let hm := s.rd PLANK_HMASK
    let failed (t : State) : Prop := t.bankState b = 1 ∧ t.fld stat 15 11 = r ∧ t.fld stat 9 0 = i ∧ t.bit PLANK_STAT 1 = true
    let armed (t : State) (kind : Nat) (t0 t1 : Word) : Prop := t.bankState b = 3 ∧ t.fld stat 28 27 = kind ∧
      t.rd (PLANK_BANKb_TSEC b) = t0 ∧ t.rd (PLANK_BANKb_TGRN b) = t1
    let past (t0 t1 : Word) := 0 < tdiff (s.trdNow % 2 ^ 64) (tval t0 t1)
    let gone := (!s.mainsLost || s.bit TIME_MAINS_CTL 2) && s.mainsPast a (bits v 15 0)
    (core → (fits a m → room → returns (.stg c gd ga gb func) (completion stOK) (staged a v m c)) ∧
      (¬fits a m → returns (.stg c gd ga gb func) (completion stRANGE) same) ∧
      (fits a m → st = 3 → returns (.stg c gd ga gb func) (completion stFULL 2) same) ∧
      (fits a m → st < 3 → 1024 ≤ count → returns (.stg c gd ga gb func) (completion stFULL 1) same) ∧
      (s.bankFault b chkRules = none → returns (.chk c gd sub 0) (completion stOK) fun t => t.bankState b = 2 ∧ t.bankCount b = count) ∧
      (s.bankFault b chkRules = some (r, i) → count ≤ 1024 → returns (.chk c gd sub 0) (completion stRULE r) failed)) ∧
    (s.runs c = true →
      (st = 3 → ∀ x ∈ [Instr.blk c gd ga gb (BitVec.ofNat 14 b.val), .blkNetworkTime c gd ga gb b 0, .blkMains c gd ga gb b 0],
        returns x (completion stNOTREADY 2) same) ∧
      (st ≠ 2 → st ≠ 3 → ∀ x ∈ [Instr.blk c gd ga gb (BitVec.ofNat 14 b.val), .blkNetworkTime c gd ga gb b 0,
        .blkMains c gd ga gb b 0], returns x (completion stNOTREADY 1) same) ∧
      (st = 2 →
        (∃ t, exec (.blk c gd ga gb (BitVec.ofNat 14 b.val)) s = .next t ∧ (t.core c).run = .waiting (.blk gd b) ∧
          (t.core c).pc = (s.core c).pc + 4 ∧ vget t.plank.imm b false = true ∧ t.bankState b = 2) ∧
        (past a v → returns (.blkNetworkTime c gd ga gb b 0) (completion stLATE) same) ∧
        (¬past a v → returns (.blkNetworkTime c gd ga gb b 0) (completion stARMED) fun t => armed t 1 a v) ∧
        (gone = true → returns (.blkMains c gd ga gb b 0) (completion stLATE) same) ∧
        (gone = false → returns (.blkMains c gd ga gb b 0) (completion stARMED) fun t => armed t 2 a (word (bits v 15 0))))) ∧
    (fits ha hm → room → answers (.hostStg b) stOK 0 (staged ha (s.rd PLANK_HVAL) hm 15)) ∧
    (¬fits ha hm → answers (.hostStg b) stRANGE 0 same) ∧
    (s.bankFault b chkRules = none → answers (.hostChk b) stOK 0 fun t => t.bankState b = 2) ∧
    (s.bankFault b chkRules = some (r, i) → count ≤ 1024 → answers (.hostChk b) stRULE r failed) ∧
    (st = 2 → (∃ t, exec (.hostBlk b 0) s = .next t ∧ t.rd PLANK_HSTAT = 0x80000000 ∧ vget t.plank.imm b false = true ∧
        vget t.plank.host b false = true ∧ Within [19] s t) ∧
      (¬past (s.rd PLANK_HT0) (s.rd PLANK_HT1) → answers (.hostBlk b 1) stARMED 0 fun t =>
        armed t 1 (s.rd PLANK_HT0) (s.rd PLANK_HT1))) ∧
    (st ≠ 2 → st ≠ 3 → answers (.hostBlk b 0) stNOTREADY 1 same) ∧
    (s.isOn 12 = true → s.mode ≠ 11 → s.bankEntries b = [⟨FLEET_HOLD_LO, val, mask, 3⟩] →
      (st = 3 → s.fld stat 28 27 = 1 → vget s.plank.imm b false = false → s.time.running = true →
        0 ≤ tdiff s.now (tval (s.rd (PLANK_BANKb_TSEC b)) (s.rd (PLANK_BANKb_TGRN b))) →
        (s.isOn 13 = true → ∃ t, exec (.bankApply b) s = .next t ∧ t.bankState b = 4 ∧ t.mem = s.mem ∧ t.bit PLANK_STAT 0 = true ∧
          t.rd FLEET_HOLD_LO = (s.rd FLEET_HOLD_LO &&& ~~~mask) ||| (val &&& mask) ∧ t.rd (PLANK_BANKb_AGRN b) = s.time.grn) ∧
        (s.isOn 13 = false → ∃ t, exec (.bankApply b) s = .next t ∧ t.bankState b = 5 ∧ t.fld stat 15 11 = 2 ∧ t.fld stat 9 0 = 0 ∧
          t.bit PLANK_STAT 3 = true ∧ Within [19] s t)) ∧
      (st = 2 → vget s.plank.imm b false = true → (s.core c).run = .waiting (.blk gd b) → s.isOn 13 = true →
        ∃ t, exec (.bankApply b) s = .next t ∧ t.bankState b = 4 ∧ (t.core c).run = .running ∧
          t.gpr c gd = (if gd = 0 then 0 else completion stOK))) ∧
    (∃ t, exec (.bankClear b) s = .next t ∧ t.bankState b = 0 ∧ t.bankCount b = 0 ∧ Within [19] s t) ∧
    (st = 3 → ∃ t, exec (.bankDisarm b) s = .next t ∧ t.bankState b = 2 ∧ t.bankCount b = count ∧ Within [19] s t) ∧
    (st ≠ 3 → exec (.bankDisarm b) s = .next s)

/-- R387–R391, R394, R395, R410, R451–R453: a fault detected or injected counts in its class, stands in FAULT_LAST and opens a
recovery window where its class has one. An action that is complete is done, a RETRY that fails again is raised one rank, a window
closes, the throttle ends. The DRAM corrects, and the 16th corrected word of a page in an hour is a fault. The outage counters are
copied to eMRAM and cleared by a KEY. Where the rules are silent or can be read in two ways, the clauses follow the model's
choices of log entry 74. -/
def Obligations.FaultsCountAndAreActedOn : Prop :=
  ∀ (cls : Fin 32) (block detail : Byte) (value v addr seq : Word) (ok : Bool) (w : Fin 8) (a : FaultAct) (s : State),
    let n := cls.val
    let named := if n = 10 then 0x43 else if n = 11 then 0x00 else block.toNat
    let told (t : State) (n b : Nat) : Prop := t.rd (FAULT_CLSc_CNT n) = word (min ((s.rd (FAULT_CLSc_CNT n)).toNat + 1) (2 ^ 32 - 1)) ∧
      t.bit FAULT_STAT 0 = true ∧ t.fld FAULT_LAST 28 24 = n ∧ t.fld FAULT_LAST 23 16 = b
    let window (t : State) (n b : Nat) : Prop := classWindow n ≠ 0 → s.bit (FAULT_OPENw w) 31 = false →
      (∀ j, j < w.val → s.bit (FAULT_OPENw j) 31 = true) →
      t.rd (FAULT_OPENw w) = word (2 ^ 31 + n * 2 ^ 24 + b * 2 ^ 16 + classWindow n)
    let injects := bits v 31 16 = 0x464C ∧ s.mode = 10 ∧ 1 ≤ bits v 12 8 ∧ bits v 12 8 ≤ 19
    let page := addr.toNat / 4096
    let recent := s.rep.ecc.filter fun e => decide (s.elapsed / 65536 < e.2 + 3600)
    let onPage := (recent.filter fun e => e.1 == page).length
    let found := s.rep.acts.find? fun x => x.seq == seq
    (s.isOn 14 = true → 1 ≤ n → n ≤ 19 → ∃ t, exec (.faultDetected cls block detail value) s = .next t ∧ told t n named ∧
      window t n named) ∧
    (s.isOn 14 = true → injects → ∃ t, exec (.faultInject v) s = .next t ∧ told t (bits v 12 8) (bits v 7 0) ∧
      window t (bits v 12 8) (bits v 7 0)) ∧
    (¬injects → exec (.faultInject v) s = .next s) ∧
    (found = some a → s.atWork a = false → (ok = true ∨ a.action ≠ 1) → ∃ t, exec (.recoveryComplete seq ok) s = .next t ∧
      (∀ x ∈ t.rep.acts, x.seq ≠ seq) ∧ (∀ x ∈ s.rep.acts, x.seq ≠ seq → x ∈ t.rep.acts) ∧ Within [] s t) ∧
    (found = some a → a.action = 1 → ∃ t, exec (.recoveryComplete seq false) s = .next t ∧
      ∃ x ∈ t.rep.acts, x.seq = seq ∧ x.raised = true ∧ (x.action = 7 ∨ x.action = 8)) ∧
    (found = some a → s.atWork a = true → exec (.recoveryComplete seq ok) s = .next s) ∧
    (s.bit (FAULT_OPENw w) 31 = true → ∃ t, exec (.faultWindowExpiry w) s = .next t ∧ t.rd (FAULT_OPENw w) = 0 ∧
      (∀ e ∈ t.rep.wins, e.1 ≠ w.val) ∧ (∀ x, x ≠ FAULT_OPENw w → t.rd x = s.rd x) ∧ t.mem = s.mem) ∧
    (s.rep.throttle = true → ∃ t, exec .throttleEnd s = .next t ∧ t.rep.throttle = false ∧ (∀ x ∈ t.rep.acts, x.action ≠ 6) ∧
      Within [] s t) ∧
    (s.isOn 9 = true → onPage < 15 → ∃ t, exec (.eccCorrected addr false) s = .next t ∧ t.mem = s.mem ∧ Within [21] s t ∧
      t.rep.ecc = recent ++ [(page, s.elapsed / 65536)] ∧
      (s.isOn 14 = true → t.rd FAULT_ECCCNT = word (min ((s.rd FAULT_ECCCNT).toNat + 1) (2 ^ 32 - 1)))) ∧
    (s.isOn 9 = true → 15 ≤ onPage → ∃ u, exec (.eccCorrected addr false) s = .next (u.fault 4 0x90 0 addr) ∧
      u.rep.ecc = recent.filter (fun e => e.1 != page) ∧ Within [21] s u) ∧
    (s.isOn 9 = true → exec (.eccCorrected addr true) s = .next (s.fault 4 0x90 0 addr)) ∧
    (s.isOn 14 = true → ∃ t, exec .availCheckpoint s = .next t ∧ t.rep.avCopy = availRegs.map s.rd ∧ t.rep.avAt = s.elapsed ∧
      t.regs = s.regs ∧ t.mem = s.mem) ∧
    (s.isOn 14 = true → bits v 31 16 = 0x4156 → ∃ t, exec (.availClear v) s = .next t ∧ (∀ x ∈ availRegs, t.rd x = 0) ∧
      t.rd FAULT_AVSTART = s.rd RTC_SEC_LO ∧ Within [21] s t) ∧
    (bits v 31 16 ≠ 0x4156 → exec (.availClear v) s = .next s)

/-- R37, R396–R401, R405, R453: the record at the head of the queue is written to its place in eMRAM, and at the last place
recording stops with LOG_FULL. LOGW gives its record the next number and waits until it is written; it answers RANGE for a
reserved code and FULL once recording has stopped; its codes 0xFFFE and 0xFFFF freeze the journal and clear the recorder. An
interval of a rate limit ends, and the window of the recorder is read at a cursor. Where the rules are silent or can be read in
two ways, the clauses follow the model's choices of log entries 7 and 74. -/
def Obligations.RecordsAreQueuedWrittenAndRead : Prop :=
  ∀ (c k : Fin 8) (gd ga gq : Fin 16) (imm : BitVec 18) (r q : LogRec) (rest : List LogRec) (code : BitVec 16) (key : Nat) (l : RateLim)
    (a : Agent) (s : State), s.isOn 14 = true →
    let i := s.fld LOG_STAT 17 0
    let n := imm.toNat
    let software := 0x8000 ≤ n ∧ n ≤ 0xFFEF
    let returns (x : Instr) (w : Word) (p : State → Prop) : Prop := ∃ t, exec x s = .next t ∧ Returned s t c gd w ∧ p t
    let d := s.desc c (s.gpr c ga) 3
    let mine (x : LogRec) : Prop := x.code = imm.setWidth 16 ∧ x.src = BitVec.ofNat 8 (coreBlock c) ∧ [x.a0, x.a1, x.a2] = d ∧
      x.sw = true ∧ x.seq = s.rd LOG_SEQ
    let waits (t : State) (queued : Bool) (x : LogRec) : Prop := (t.core c).run = .waiting (.logw gd x queued) ∧
      (t.core c).pc = (s.core c).pc + 4 ∧ t.mem = s.mem
    let clears := s.mode ≠ 11 ∧ (s.lifecycle = 0 ∨ s.lifecycle = 1 ∨ s.lifecycle = 3 ∨ (s.lifecycle = 2 ∧ s.granted 4 = true))
    let found := s.rep.rates.find? fun x => x.code == code && x.key == key
    let cur := vget s.rep.cursor (agentIdx a) (0, false)
    (s.rep.queue = r :: rest → i < 131071 → ∃ t, exec .recordWrite s = .next t ∧ t.fld LOG_STAT 17 0 = i + 1 ∧
      t.words (recAddr i) 8 = r.words ∧ (∀ x, x < recAddr i ∨ recAddr i + 32 ≤ x → t.byte x = s.byte x) ∧
      (r.sw = true → q.seq = r.seq → (s.core k).run = .waiting (.logw gq q true) → s.mode ≠ 9 → (t.core k).run = .running ∧
        t.gpr k gq = (if gq = 0 then 0 else word (r.seq.toNat % 2 ^ 24 * 256)))) ∧
    (s.rep.queue = r :: rest → i = 131071 → ∃ t, exec .recordWrite s = .next t ∧ t.bit LOG_STAT 31 = true ∧
      t.fld LOG_STAT 17 0 = 131072 ∧ t.rep.queue = []) ∧
    (s.rep.queue = [] → exec .recordWrite s = .next s) ∧
    (s.runs c = true → n < 65536 → s.mode ≠ 9 →
      (n < 0x8000 ∨ (0xFFEF < n ∧ n < 0xFFFE) → returns (.logw c gd ga imm) (completion stRANGE) fun t => t.rep = s.rep) ∧
      (software → s.bit LOG_STAT 31 = true → returns (.logw c gd ga imm) (completion stFULL) fun t => t.rep = s.rep) ∧
      (software → s.bit LOG_STAT 31 = false → s.rep.reset = none → s.rep.queue.length < 64 →
        ∃ t x, exec (.logw c gd ga imm) s = .next t ∧ waits t true x ∧ mine x ∧ t.rep.queue = s.rep.queue ++ [x] ∧
          t.rd LOG_SEQ = s.rd LOG_SEQ + 1) ∧
      (software → s.bit LOG_STAT 31 = false → s.rep.reset = none → 64 ≤ s.rep.queue.length →
        ∃ t x, exec (.logw c gd ga imm) s = .next t ∧ waits t false x ∧ t.rep = s.rep)) ∧
    (s.runs c = true → s.mode ≠ 9 →
      (s.bit REPLAY_STAT 31 = false → returns (.logwFreeze c gd ga 0)
        (completion stOK (s.fld LOG_SEQ 7 0) (s.fld LOG_SEQ 23 8)) fun t => t.bit REPLAY_STAT 31 = true ∧ t.fld REPLAY_STAT 3 0 = 2 ∧
          t.rd REPLAY_TRIG = s.rd REPLAY_JSEQ) ∧
      (clears → ∃ t, exec (.logwClear c gd ga 0) s = .next t ∧
        Returned s t c gd (completion stOK (t.fld LOG_BASESEQ 7 0) (t.fld LOG_BASESEQ 23 8)) ∧ t.rd LOG_STAT = 1 ∧
        ∀ j, j < 9 → t.rd (LOG_LOSTk j) = 0) ∧
      (¬clears → returns (.logwClear c gd ga 0) (completion stDENIED) fun t => t.rep = s.rep)) ∧
    (found = some l → l.count = 0 ∨ l.last.count = false → ∃ t, exec (.rateLimitIntervalEnd code key) s = .next t ∧
      (∀ x ∈ t.rep.rates, x.code ≠ code ∨ x.key ≠ key) ∧ t.regs = s.regs ∧ t.mem = s.mem) ∧
    (found = some l → l.count ≠ 0 → l.last.count = true → ∃ u : State, exec (.rateLimitIntervalEnd code key) s =
        .next (u.log { l.last with a0 := word l.count }) ∧ { l with count := 0 } ∈ u.rep.rates ∧ u.regs = s.regs ∧ u.mem = s.mem) ∧
    (found = none → exec (.rateLimitIntervalEnd code key) s = .next s) ∧
    (∃ t, exec (.evrWindowRead a) s = .next t ∧ t.bus = s.ldw (recAddr cur.1 + 28) ∧ t.regs = s.regs ∧ t.mem = s.mem ∧
      vget t.rep.cursor (agentIdx a) (0, false) = if cur.1 = 131071 then (cur.1, true) else (cur.1 + 1, cur.2))

/-- R402–R407: an entry is appended to the journal with the next number, or lost and counted while the writer's buffer is full. A
checkpoint takes a set; a freeze sets FROZEN with its cause, an unfreeze clears it, the rings stop after POST. A replay starts
from its start point with the cores as they were, gives each core its next input, tells of the first divergence, and ends with
REPLAY_DONE. Where the rules are silent or can be read in two ways, the clauses follow the model's choices of log entry 75. -/
def Obligations.TheJournalFreezesAndReplays : Prop :=
  ∀ (kind core : Fin 16) (c : Fin 8) (cyc arg w : Word) (data : List Word) (idx0 idx1 : BitVec 21) (e : JEnt) (p : Ckpt) (saved : Core)
    (ask : Fin 16 × Word) (s : State), s.isOn 14 = true →
    let k : BitVec 16 := 0x5250
    let ready := s.journalOn = true ∧ s.journalled kind core = true
    let units := (data.length + 3) / 4
    let cores := s.setCores.filter fun c => s.isOn (coreDom c) && (s.core c).run != .loading
    let next := s.nextOf c
    let first := s.rep.replay.todo = [] ∧ s.rd REPLAY_PROG = 0
    (ready → s.rep.replay.lost = 0 → data.length ≤ 65536 → ∃ t, exec (.journalAppend kind core cyc arg data false) s = .next t ∧
      t.rd REPLAY_JSEQ = s.rd REPLAY_JSEQ + 1 ∧ t.fld REPLAY_JWR 25 0 = (s.fld REPLAY_JWR 25 0 + 16 * (units + 1)) % 2 ^ 26 ∧
      t.rep.replay.entries.getLast? = some ⟨s.fld REPLAY_JWR 25 0, units, s.rd REPLAY_JSEQ, kind, core, cyc, arg, data⟩) ∧
    (ready → ∃ t, exec (.journalAppend kind core cyc arg data true) s = .next t ∧ t.bit REPLAY_STAT 30 = true ∧
      t.rep.replay.lost = s.rep.replay.lost + 1 ∧ t.rep.replay.entries = s.rep.replay.entries ∧ t.mem = s.mem) ∧
    (s.journalOn = true → ∃ t, exec .checkpoint s = .next t ∧ t.rep.replay.ckNum = s.rep.replay.ckNum + 1 ∧
      t.rd REPLAY_JSEQ = s.rd REPLAY_JSEQ + word (cores.length + s.setBanks.length)) ∧
    (s.journalOn = false → exec .checkpoint s = .next s) ∧
    (s.bit REPLAY_STAT 31 = false → ∃ t, exec (.freeze k) s = .next t ∧ t.bit REPLAY_STAT 31 = true ∧ t.fld REPLAY_STAT 3 0 = 3 ∧
      t.rd REPLAY_TRIG = s.rd REPLAY_JSEQ ∧ t.rep.replay.frozenAt = s.clock) ∧
    (s.bit REPLAY_STAT 31 = true → exec (.freeze k) s = .next s) ∧
    (s.bit REPLAY_STAT 31 = true → s.mode ≠ 9 → s.isOn 9 = true → ∃ t, exec (.unfreeze k) s = .next t ∧ t.bit REPLAY_STAT 31 = false ∧
      t.rep.replay.lost = 0) ∧
    (∀ x : BitVec 16, x ≠ k → exec (.freeze x) s = .next s ∧ exec (.unfreeze x) s = .next s) ∧
    (s.bit REPLAY_STAT 31 = true → ∃ t, exec (.iqStop idx0 idx1) s = .next t ∧ t.rd REPLAY_IQTGRN = word s.netGrains ∧
      t.rd REPLAY_IQTSEC = word (s.netGrains / 2 ^ 32) ∧ (s.bit REPLAY_IQCTL 16 = true → t.rd (REPLAY_IQp_IDX 0) = idx0.setWidth 32) ∧
      (s.bit REPLAY_IQCTL 17 = true → t.rd (REPLAY_IQp_IDX 1) = idx1.setWidth 32) ∧ Within [18] s t) ∧
    (s.replaying = true → first → s.startPoint = some p → p.cores = [(c, saved)] → (s.core c).run ≠ .retired →
      ∃ t, exec .replayStart s = .next t ∧ t.rd REPLAY_PROG = p.jseq ∧ (∀ r, t.gpr c r = if r = 0 then 0 else saved.gpr.get r) ∧
        (t.core c).pc = saved.pc ∧ (t.core c).run = (if saved.run = .halted then .running else saved.run) ∧
        t.rep.replay.todo = s.fromPoint p ∧ (tabRising p.cells = true → ∀ x ∈ p.cells, t.byte x.1 = x.2)) ∧
    (s.replaying = true → ¬first → exec .replayStart s = .next s) ∧
    (s.replaying = true → next = some e → e.core = c.val →
      (e.kind = 4 → ∃ t, exec (.replayInput (c.castLE (by decide)) [] none) s = .next t ∧ t.rep.replay.todo = s.rep.replay.todo.erase e ∧
        t.rd REPLAY_PROG = e.jseq ∧ tabGet (fun _ => none) t.rep.replay.input c = some e ∧ t.mem = s.mem) ∧
      (e.kind = 3 → ∃ t, exec (.replayInput (c.castLE (by decide)) [] none) s = .next t ∧ t.rd REPLAY_PROG = e.jseq ∧
        (t.core c).evpend = (s.core c).evpend ||| word (2 ^ bits e.arg 4 0) ∧ t.mem = s.mem) ∧
      (e.kind = 7 → s.bit REPLAY_STAT 27 = false → e.arg ≠ w → s.bit REPLAY_CTL 30 = true →
        ∃ t, exec (.replayInput (c.castLE (by decide)) [w] none) s = .next t ∧ t.bit REPLAY_STAT 27 = true ∧ t.rd REPLAY_DIVIDX = e.jseq ∧
          t.rd REPLAY_DIVREC = e.arg ∧ t.rd REPLAY_DIVREP = w ∧ t.replaying = false) ∧
      (e.kind ≠ 7 → ask.1.val ≠ e.kind → s.bit REPLAY_STAT 27 = false → s.bit REPLAY_CTL 30 = true →
        ∃ t, exec (.replayInput (c.castLE (by decide)) [] (some ask)) s = .next t ∧ t.bit REPLAY_STAT 27 = true ∧
          t.rd REPLAY_DIVIDX = e.jseq ∧ t.rep.replay.todo = s.rep.replay.todo)) ∧
    (s.mode = 9 → s.bit REPLAY_STAT 29 = true → s.rep.replay.todo = [] → ∃ t, exec .replayEnd s = .next t ∧
      t.bit REPLAY_STAT 29 = false ∧ t.bit REPLAY_STAT 28 = true ∧ t.mem = s.mem ∧
      ∀ x, s.inSet x = true → (s.core x).run ≠ .retired → (t.core x).run = .halted)

/-- R432–R434: PERST_N resets the endpoint, the rings and HOST_IRQSTAT, and never the device; a change of the link shows in
HOST_LINK. A TAIL within the free entries posts buffers, and one beyond HEAD − 1 sets OVR. A ring that runs, with an entry posted,
moves the head descriptor of DQ, or of FREEQ, completes the entry at HEAD, advances HEAD and sets its bit in HOST_IRQSTAT; without
an entry posted nothing is done. Where the rules are silent or can be read in two ways, the clauses follow the model's choices of
log entry 76. -/
def Obligations.RingsMoveDescriptorsUnderTheLink : Prop :=
  ∀ (link speed : Fin 4) (msi : Fin 33) (k8 : Fin 8) (v : Word) (k : Fin 4) (size len : Fin 65536) (err upset : Bool) (i : Nat) (e : Bool)
    (rest : List (Nat × Bool)) (s : State), s.isOn 11 = true →
    let up := link = 1 ∨ link = 2
    let only (l : List Nat) (t : State) : Prop := (∀ a, a ∉ l → t.rd a = s.rd a) ∧ { t with regs := s.regs, host := s.host } = s
    let n := 2 ^ s.fld (HOST_RINGk_CTL k8) 27 24
    let tail : Int := (s.fld (HOST_RINGk_TAIL k8) 11 0 : Int)
    let head : Int := (s.fld (HOST_RINGk_HEAD k8) 11 0 : Int)
    let new := bits v 11 0
    let beyond : Prop := n ≤ new ∨ (head - 1 - tail) % n < ((new : Int) - tail) % n
    let runs (r : Nat) : Prop := s.isOn 7 = true ∧ s.bit HOST_LINK 31 = true ∧ s.bit (HOST_RINGk_CTL r) 31 = true ∧
      s.bit (HOST_RINGk_STAT r) 31 = false
    let posted (r : Nat) : Prop := s.fld (HOST_RINGk_TAIL r) 11 0 % s.ringSize r ≠ s.fld (HOST_RINGk_HEAD r) 11 0 % s.ringSize r
    let dq (r : Nat) := s.fld (HOST_RINGk_CTL r) 7 0
    let fq (r : Nat) := s.fld (HOST_RINGk_CTL r) 15 8
    let alone (d : Nat) : Prop := ∀ c g j, (s.core c).run ≠ .waiting (.pktput g d j)
    let done (t : State) (r : Nat) (trunc : Bool) (l : Nat) : Prop := let h := s.fld (HOST_RINGk_HEAD r) 11 0
      t.host.entry = some ⟨r, h, trunc, err, l, i⟩ ∧ t.rd (HOST_RINGk_HEAD r) = word ((h + 1) % s.ringSize r) ∧
      t.bit HOST_IRQSTAT (8 + r) = true ∧ t.fld (HOST_RINGk_STAT r) 15 0 = min (s.fld (HOST_RINGk_STAT r) 15 0 + 1) 65535 ∧
      (err = true → t.bit (HOST_RINGk_STAT r) 30 = true) ∧ Within [9, 16] s t
    (∃ t, exec .perst s = .next t ∧ t.rd HOST_LINK = 0 ∧ t.host.link = 0 ∧ t.rd HOST_IRQSTAT = 0 ∧ (∀ r, r < 8 →
      t.rd (HOST_RINGk_HEAD r) = 0 ∧ t.rd (HOST_RINGk_TAIL r) = 0 ∧ t.bit (HOST_RINGk_CTL r) 31 = false) ∧ Within [16] s t ∧
      { t with regs := s.regs, host := s.host } = s) ∧
    (∃ t, exec (.pcieLinkChange link speed msi) s = .next t ∧ only [HOST_LINK] t ∧ t.host.link = link.val ∧
      (t.bit HOST_LINK 31 = true ↔ up) ∧ (up → t.fld HOST_LINK 30 29 = speed.val) ∧ (t.bit HOST_LINK 28 = true ↔ link = 2) ∧
      t.fld HOST_LINK 5 0 = msi.val) ∧
    (∃ t, exec (.ringTailWrite k8 v) s = .next t ∧ only [HOST_RINGk_TAIL k8, HOST_RINGk_STAT k8] t ∧ t.rd (HOST_RINGk_TAIL k8) = word new ∧
      (beyond → t.bit (HOST_RINGk_STAT k8) 31 = true) ∧ (¬beyond → t.rd (HOST_RINGk_STAT k8) = s.rd (HOST_RINGk_STAT k8))) ∧
    (runs k → posted k → dq k ≠ fq k → s.dqRoom (fq k) = true → alone (dq k) → (s.descq (dq k)).items = (i, e) :: rest → ∃ t,
      exec (.ringDeviceToHost k size len err upset) s = .next t ∧ (t.descq (dq k)).items = rest ∧
      (t.descq (fq k)).items = (s.descq (fq k)).items ++ [(i, false)] ∧ done t k (decide (size < len)) (min size.val len.val)) ∧
    (runs k → (¬posted k ∨ (s.descq (dq k)).items = []) → exec (.ringDeviceToHost k size len err upset) s = .next s) ∧
    (let r := 4 + k.val
     runs r → posted r → dq r ≠ fq r → alone (fq r) → (s.descq (fq r)).items = (i, e) :: rest → (err = true ∨ s.dqRoom (dq r) = true) →
      ∃ t, exec (.ringHostToDevice k len err upset) s = .next t ∧ done t r false len ∧
        (err = false → (t.descq (fq r)).items = rest ∧ (t.descq (dq r)).items = (s.descq (dq r)).items ++ [(i, false)]) ∧
        (err = true → (t.descq (fq r)).items = rest ++ [(i, false)] ∧ (t.descq (dq r)).items = (s.descq (dq r)).items)) ∧
    (let r := 4 + k.val
     runs r → (¬posted r ∨ (s.descq (fq r)).items = []) → exec (.ringHostToDevice k len err upset) s = .next s)

/-- R433, R435, R5, R448, R368: a QSPI write of one word stores it in the shared scratch or in DRAM, or writes the register; a
read answers with it. A data phase of another length counts, interrupts the host and writes nothing; data that is late reads zero.
A write of a register takes the RW bits, clears the W1C bits written 1 and leaves the others, and is discarded while the domain is
not ON or where no register is. Where the rules are silent or can be read in two ways, the clauses follow the model's choices of
log entries 48 and 76. -/
def Obligations.TheHostReadsAndWritesTheAddressMap : Prop :=
  ∀ (a v : Word) (octets : Nat) (late upset : Bool) (ag : Agent) (r : RegSpec) (s : State),
    let at_ := a.toNat
    let ready : Prop := match areaOf at_ with
      | .shared => s.isOn 1 = true ∧ s.fld SEQ_BANKRES (4 * sharedBank at_ + 3) (4 * sharedBank at_) < 8
      | .dram => s.isOn 9 = true ∧ s.lockedRange at_ 4 = false
      | .emram => keyArea at_ = false
      | _ => False
    let counted (t : State) : Prop := t.fld HOST_QSTSTAT 15 0 = min (s.fld HOST_QSTSTAT 15 0 + 1) 65535 ∧ t.bit HOST_IRQSTAT 16 = true
    (s.isOn 11 = true → at_ % 4 = 0 →
      (areaOf at_ = .reg → exec (.qstWrite a v 4) s = exec (.registerWrite .qspi a v) s) ∧
      (ready → areaOf at_ ≠ .emram → ∃ t, exec (.qstWrite a v 4) s = .next t ∧ t.ldw at_ = v ∧
        (∀ b, b < at_ ∨ at_ + 4 ≤ b → t.byte b = s.byte b) ∧ { t with mem := s.mem } = s) ∧
      (areaOf at_ = .emram → exec (.qstWrite a v 4) s = .next s) ∧
      (octets ≠ 4 → ∃ t, exec (.qstWrite a v octets) s = .next t ∧ counted t ∧ Within [16] s t) ∧
      (ready → exec (.qstRead a 4 false upset) s = .next { s with bus := s.ldw at_ }) ∧
      (ready → octets ≠ 4 → ∃ t, exec (.qstRead a octets false upset) s = .next t ∧ counted t ∧ t.bus = s.ldw at_ ∧ Within [16] s t) ∧
      (areaOf at_ = .dram ∨ areaOf at_ = .emram → ∃ t, exec (.qstRead a 4 true upset) s = .next t ∧ t.bus = 0 ∧
        t.bit HOST_QSTSTAT 31 = true ∧ Within [16] s t) ∧
      (areaOf at_ = .reg → ∃ t, exec (.qstRead a 4 late upset) s = .next t ∧ t.bus = (s.readReg .qspi at_ upset).1 ∧
        t = { (s.readReg .qspi at_ upset).2 with bus := t.bus })) ∧
    (s.isOn (regDom at_) = false ∨ regAt at_ = none → exec (.registerWrite ag a v) s = .next s) ∧
    (at_ = SYS_MODE ∨ at_ = GPIO_DIR ∨ at_ = GPIO_OD ∨ at_ = GPIO_OUT ∨ at_ = GPIO_STAT ∨ at_ = GPIO_EDGE ∨ at_ = HOST_IRQSTAT ∨
        at_ = HOST_IRQEN → s.isOn (regDom at_) = true → regAt at_ = some r →
      ∃ t, exec (.registerWrite ag a v) s = .next t ∧ (∀ b, b ≠ at_ → t.rd b = s.rd b) ∧ { t with regs := s.regs } = s ∧
        ∀ i, i < 32 → t.bit at_ i = (if r.rw.testBit i then v.getLsbD i
          else if r.w1c.testBit i then s.bit at_ i && !v.getLsbD i else s.bit at_ i))

/-- R437, R422, R440, R441: a byte received on the UART joins the FIFO, or is lost with OVR; one written is queued for the line,
ignored when the FIFO is full; a read takes the oldest. In UART recovery a frame in order is acknowledged and joins the bundle,
and one of no octets ends it. A level of a GPIO pin that holds is its new level, and where its edge is chosen sets its bit and
raises its event; a shorter one counts as a glitch; RELEASE ends the hold. Where the rules are silent or can be read in two ways,
the clauses follow the model's choices of log entries 72 and 76. -/
def Obligations.UartAndGpioFollowTheirPins : Prop :=
  ∀ (b : Byte) (payload : List Byte) (n : Fin 16) (level upset : Bool) (s : State), s.isOn 11 = true →
    let only (l : List Nat) (t : State) : Prop := (∀ a, a ∉ l → t.rd a = s.rd a) ∧ { t with regs := s.regs } = s
    let kind := s.fld GPIO_EDGE (2 * n + 1) (2 * n)
    let chosen : Prop := kind = 3 ∨ kind = (if level then 1 else 2)
    let quiet (t : State) : Prop := t.regs = s.regs ∧ { t with host := s.host } = s
    (s.bit HOST_UART_CTL 31 = true →
      (s.host.uartRx.length < 16 → ∃ t, exec (.uartRxByte b) s = .next t ∧ t.host.uartRx = s.host.uartRx ++ [b] ∧ quiet t) ∧
      (s.host.uartRx.length = 16 → ∃ t, exec (.uartRxByte b) s = .next t ∧ t.bit HOST_UART_DATA 30 = true ∧ only [HOST_UART_DATA] t)) ∧
    (s.host.uartTx.length < 16 → ∃ t, exec (.uartTxPush b) s = .next t ∧ t.host.uartTx = s.host.uartTx ++ [b] ∧ quiet t) ∧
    (s.host.uartTx.length = 16 → exec (.uartTxPush b) s = .next s) ∧
    (∃ t, exec .uartRxPop s = .next t ∧ t.host.uartRx = s.host.uartRx.tail ∧ (t.bus.getLsbD 31 = true ↔ s.host.uartRx = []) ∧
      t.bus.getLsbD 30 = s.bit HOST_UART_DATA 30 ∧ (∀ x l, s.host.uartRx = x :: l → t.bus.setWidth 8 = x) ∧
      t.bit HOST_UART_DATA 30 = false ∧ Within [16] s t) ∧
    (s.mode = 0 → s.host.recovery = true → payload.length ≤ 1024 →
      (payload ≠ [] → ∃ t, exec (.uartFrame payload true) s = .next t ∧ t.host.uartTx = s.host.uartTx ++ [0x06] ∧
        t.host.bundle = s.host.bundle ++ payload ∧ t.host.recovery = true ∧ quiet t) ∧
      (payload = [] → ∃ t, exec (.uartFrame payload true) s = .next t ∧ t.host.uartTx = s.host.uartTx ++ [0x06] ∧
        t.host.recovery = false ∧ t.host.bundle = s.host.bundle ∧ quiet t) ∧
      (∃ t, exec (.uartFrame payload false) s = .next t ∧ t.host.uartTx = s.host.uartTx ++ [0x15] ∧
        t.host.bundle = s.host.bundle ∧ quiet t)) ∧
    (s.bit GPIO_IN n ≠ level →
      (∃ t, exec (.gpioEdge n level false) s = .next t ∧ only [GPIO_STAT] t ∧
        t.fld GPIO_STAT 31 16 = min (s.fld GPIO_STAT 31 16 + 1) 65535 ∧ t.fld GPIO_STAT 15 0 = s.fld GPIO_STAT 15 0) ∧
      (¬chosen → ∃ t, exec (.gpioEdge n level true) s = .next t ∧ t.bit GPIO_IN n = level ∧ only [GPIO_IN] t) ∧
      (chosen → ∃ u : State, exec (.gpioEdge n level true) s = .next (u.raise 0xB1 (0x01 + n.val)) ∧ u.bit GPIO_IN n = level ∧
        u.bit GPIO_STAT n = true ∧ only [GPIO_IN, GPIO_STAT] u)) ∧
    (s.bit GPIO_IN n = level → exec (.gpioEdge n level upset) s = .next s) ∧
    (∃ t, exec .gpioRelease s = .next t ∧ t.bit GPIO_CTL 31 = false ∧ only [GPIO_CTL] t)

/-- R13, R15–R18, Tables 01-7 and 01-8: MODE along a transition of Table 01-7, with the domains of the target ON, waits for its
edge; any other completes at once with its status, counted in REFUSED, and changes no mode. BOOT, BACKUP and ZEROIZED are never
targets. On the edge SYS_MODE takes the target and PREV the mode before, SYS_MODE_STAT tells of it, the stop latch is set as R18
says, and the core goes on with OK, or the mailbox request is answered. BOOT, once the eMRAM states are resolved, goes on, or ends
in ZEROIZED or MAINT. Where the rules are silent or can be read in two ways, the clauses follow the model's choices of log entries
52, 55 and 57. -/
def Obligations.ModeChangesFollowTheirTables : Prop :=
  ∀ (c m : Fin 8) (gd : Fin 16) (sub : BitVec 20) (head : Word) (r : ModeReq) (s : State),
    let new := sub.toNat
    let check := s.modeCheck c new
    let stat (t : State) (src target status : Nat) : Prop := t.fld SYS_MODE_STAT 11 0 = src * 256 + target * 16 + status
    let fleet (x : Nat) : Prop := x = 3 ∨ x = 4
    let quiet : Prop := s.mode ≠ 0 ∨ ∀ i, i < 6 → s.bit DBG_TAMPSTAT i = false
    let changed (t : State) : Prop := t.modeReq = none ∧ t.mode = r.target ∧ t.fld SYS_MODE 7 4 = s.mode ∧
      stat t r.core r.target stOK ∧
      (fleet r.target → ¬fleet s.mode → t.latched = true) ∧ (fleet s.mode → ¬fleet r.target → r.target ≠ 8 → t.latched = true) ∧
      ((fleet r.target ↔ fleet s.mode) → t.latched = s.latched)
    (s.modeReq ≠ none → check.1 = stBUSY) ∧
    (s.modeReq = none →
      (modeCell s.mode new = .refused → check = (stILLEGAL, 0)) ∧
      (new = 0 ∨ new = 7 ∨ 10 < new → check = (stILLEGAL, 0)) ∧
      (modeCell s.mode new = .lifecycle → 1 < s.lifecycle → check = (stLIFECYCLE, 0)) ∧
      (modeCell s.mode new ≠ .refused → (modeCell s.mode new = .lifecycle → s.lifecycle ≤ 1) → new ≠ 8 → new ≠ 9 →
        ((∀ d ∈ s.modeDomains new, s.isOn d = true) → check = (stOK, 0)) ∧
        ((∃ d ∈ s.modeDomains new, s.isOn d = false) → check = (stNOTREADY, 0)))) ∧
    (s.runs c = true → new < 16 → check.1 = stOK → ∃ t, exec (.mode c gd sub 0) s = .next t ∧ t.modeReq = some ⟨c, gd, new, none⟩ ∧
      (t.core c).run = .waiting (.mode gd new) ∧ (t.core c).pc = (s.core c).pc + 4 ∧ t.regs = s.regs ∧ t.mem = s.mem) ∧
    (s.runs c = true → new < 16 → check.1 ≠ stOK → s.mode ≠ 9 ∨ s.inSet c = false → ∃ t, exec (.mode c gd sub 0) s = .next t ∧
      Returned s t c gd (completion check.1 check.2) ∧ stat t c new check.1 ∧ t.mode = s.mode ∧ t.modeReq = s.modeReq ∧
      t.fld SYS_MODE_STAT 31 16 = min (s.fld SYS_MODE_STAT 31 16 + 1) 65535) ∧
    (s.modeReq = none → exec .modeChange s = .next s) ∧
    (s.modeReq = some r → r.svc = none → modeCell s.mode r.target ≠ .refused → r.target ∉ [8, 9] → s.mode ≠ 9 → quiet →
      (s.core r.core).run = .waiting (.mode gd r.target) → ∃ t, exec .modeChange s = .next t ∧ changed t ∧
        t.gpr r.core gd = (if gd = 0 then 0 else completion stOK) ∧ (∀ x, x ≠ gd → t.gpr r.core x = s.gpr r.core x) ∧
        (t.core r.core).pc = (s.core r.core).pc ∧ (t.core r.core).run = .running ∧ t.mem = s.mem) ∧
    (s.modeReq = some r → r.svc = some (m, head) → s.upd.activate = none → modeCell s.mode r.target ≠ .refused → r.target ∉ [8, 9] →
      s.mode ≠ 9 → quiet → ∃ t, exec .modeChange s = .next t ∧ changed t ∧ t.rd (SEQ_MBOUTn_k m 0) = putBits head 7 0 stOK ∧
        t.rd (SEQ_MBOUTn_k m 1) = t.rd SYS_MODE ∧ t.mem = s.mem) ∧
    (s.mode = 0 → s.isOn 14 = true → s.isOn 1 = true → s.keys.zero = 0 → s.dbg.lcCmd = none →
      (∀ i, i < 6 → s.bit DBG_TAMPSTAT i = false) →
      (s.lifecycle ≠ 4 → s.bit FAULT_STAT 2 = false → ∃ t, exec .emramStatesResolved s = .next t ∧ t.mode = 0 ∧ t.keys.sek = true ∧
        t.fld UPD_BOOT 8 8 = t.fld UPD_BOOT 0 0) ∧
      (s.lifecycle ≠ 4 → s.bit FAULT_STAT 2 = true → ∃ t, exec .emramStatesResolved s = .next t ∧ t.mode = 10 ∧ t.keys.sek = true) ∧
      (s.lifecycle = 4 → ∃ t, exec .emramStatesResolved s = .next t ∧ t.mode = 11 ∧ t.latched = true ∧
        (t.core s.bootCore).run = .halted))

/-- R46, R47, R52, Table 02-23, R277, R298, R299, R365, R373: a request that the host puts into the mailbox of a core that serves
is answered with its SVC, OP and TAG and a status: RANGE, with nothing changed, when the core does not own the service or NW is
below the words the OP needs; else what the service gives. A request into a full mailbox is counted, one to a core whose domain is
not ON does nothing, and one to a core that does not run waits. MODE SET, FLEET RESUME and the UPDATE commands are answered once
they complete. Where the rules are silent or can be read in two ways, the clauses follow the model's choices of log entry 53. -/
def Obligations.MailboxRequestsAreAnswered : Prop :=
  ∀ (c m : Fin 8) (tag : Byte) (nw : Fin 16) (x y z : Word) (k : UpdCmd) (s : State),
    let rows : List (Instr × Nat × Nat × Fin 8 × Nat) := [
      (.modeSet c tag nw x, 1, 1, 0, 1), (.modeGet c tag nw, 1, 2, 0, 0), (.timeRead c tag nw, 2, 1, 6, 0),
      (.updatePiece c tag nw x y z, 3, 1, 5, 3), (.updateStatus c tag nw, 3, 2, 5, 0), (.updateCommit c tag nw, 3, 3, 5, 0),
      (.updateRevert c tag nw, 3, 4, 5, 0), (.updateActivate c tag nw x y, 3, 5, 5, 1), (.fleetResume c tag nw x, 4, 1, 4, 1),
      (.fleetStop c tag nw x, 4, 2, 4, 1), (.spoofclr c tag nw, 5, 1, 4, 0), (.gnssStatus c tag nw, 5, 2, 4, 0)]
    let head (svc op : Nat) : Word := word (svc * 2 ^ 24 + op * 2 ^ 16 + tag.toNat * 256 + nw.val)
    let said (t : State) (svc op status : Nat) (ws : List Word) : Prop :=
      t.rd (SEQ_MBOUTn_k m 0) = word (svc * 2 ^ 24 + op * 2 ^ 16 + tag.toNat * 256 + status) ∧
      (∀ i, i < ws.length → t.rd (SEQ_MBOUTn_k m (i + 1)) = ws.getD i 0) ∧ t.bit (SEQ_MBSTATn m) 8 = true
    let kept (t : State) : Prop := Within [4, 16] s t
    let free : Prop := s.isOn (coreDom c) = true ∧ s.mailCore c = some m ∧ s.bit (SEQ_MBSTATn c) 0 = false ∧
      s.bit (SEQ_MBSTATn m) 0 = false ∧ s.bit (SEQ_MBSTATn m) 8 = false
    let does (own : Fin 8) (need : Nat) (i : Instr) (q : State → Prop) : Prop :=
      free → s.serves m = true → s.mailCore own = some m → need ≤ nw.val → ∃ t, exec i s = .next t ∧ t.bit (SEQ_MBSTATn m) 0 = false ∧ q t
    let reads (a : Nat) : Word := (s.readReg (.core m) a false).1
    let target := bits x 3 0
    let check := s.modeCheck m target
    let now := s.trdNow
    let waits (t : State) (op : Nat) : Prop := t.rd UPD_CMDSTAT = 0x80000000 ∧ ∃ k, t.upd.cmd = some k ∧ k.svc = some (m, head 3 op)
    let ready : Prop := s.isOn 14 = true ∧ s.bit UPD_CMDSTAT 31 = false
    (∀ r ∈ rows,
      (s.isOn (coreDom c) = false → exec r.1 s = .next s) ∧
      (s.isOn (coreDom c) = true → s.bit (SEQ_MBSTATn c) 0 = true → exec r.1 s = .next (s.inRing c)) ∧
      (free → s.serves m = true → s.mailCore r.2.2.2.1 ≠ some m ∨ nw.val < r.2.2.2.2 → ∃ t, exec r.1 s = .next t ∧
        said t r.2.1 r.2.2.1 stRANGE [] ∧ t.bit (SEQ_MBSTATn m) 0 = false ∧ kept t) ∧
      (free → s.serves m = false → ∃ t, exec r.1 s = .next t ∧ t.rd (SEQ_MBINn_k c 0) = head r.2.1 r.2.2.1 ∧
        t.bit (SEQ_MBSTATn m) 0 = true ∧ t.bit (SEQ_MBSTATn m) 8 = false ∧ kept t)) ∧
    (s.bit (SEQ_MBSTATn m) 0 = true → s.mailCore c = some m → (s.inRing c).fld (SEQ_MBSTATn m) 31 24 =
      min (s.fld (SEQ_MBSTATn m) 31 24 + 1) 255) ∧
    does 0 1 (.modeSet c tag nw x) (fun t => t.mode = s.mode ∧
      (check.1 = stOK → t.modeReq = some ⟨m, 0, target, some (m, head 1 1)⟩ ∧ t.bit (SEQ_MBSTATn m) 8 = false) ∧
      (check.1 ≠ stOK → said t 1 1 check.1 [t.rd SYS_MODE] ∧ t.modeReq = s.modeReq)) ∧
    (s.isOn 0 = true → does 0 0 (.modeGet c tag nw) fun t => said t 1 2 stOK [s.rd SYS_MODE, s.overlay, s.rd SYS_MODE_STAT]) ∧
    does 6 0 (.timeRead c tag nw) (fun t => kept t ∧
      (s.isOn 12 = true → said t 2 1 stOK [word (now / 2 ^ 32), word (s.tqState * 65536 + now / 2 ^ 64), word now, reads TIME_TQERR]) ∧
      (s.isOn 12 = false → said t 2 1 stOK [0, 0, 0, 0])) ∧
    (ready → does 5 3 (.updatePiece c tag nw x y z) fun t => waits t 1 ∧ t.rd UPD_ARG0 = z ∧ t.rd UPD_ARG1 = y) ∧
    does 5 0 (.updateStatus c tag nw) (fun t => kept t ∧
      said t 3 2 stOK (reads UPD_BOOT :: (List.range 6).map fun i => reads (UPD_TGTt_STAT i))) ∧
    (ready → does 5 0 (.updateCommit c tag nw) fun t => waits t 3 ∧ (s.mode ≠ 9 → ∃ k, t.upd.cmd = some k ∧
      k.status = if s.bit UPD_BOOT 31 then stOK else stALREADY)) ∧
    (ready → does 5 0 (.updateRevert c tag nw) fun t => waits t 4) ∧
    (ready → does 5 1 (.updateActivate c tag nw x y) fun t => waits t 5 ∧ t.upd.activate = some ⟨m, head 3 5, 1⟩) ∧
    (s.isOn 14 = true → s.upd.cmd = some k → k.svc = some (m, head 3 1) → s.bit (SEQ_MBSTATn m) 8 = false → ∃ t,
      exec .updCommandDone s = .next t ∧ t.upd.cmd = none ∧ t.rd (SEQ_MBOUTn_k m 0) = putBits (head 3 1) 7 0 k.status ∧
      t.rd (SEQ_MBOUTn_k m 1) = word k.detail) ∧
    (s.mode ≠ 9 → s.isOn 8 = true → let v := s.resumeCheck (s.octets (corePhys m x.toNat) 72) 72
      does 4 1 (.fleetResume c tag nw x) fun t => t.latched = s.latched ∧
        (v.1 = stOK → t.fleet.clear = some ⟨m, 0, some (head 4 1), v.2.2.1⟩) ∧ (v.1 ≠ stOK → said t 4 1 v.1 [s.rd FLEET_STOP_STAT])) ∧
    (s.mode ≠ 9 → does 4 1 (.fleetStop c tag nw x) fun t => t.latched = true ∧
      said t 4 2 (if s.latched then stALREADY else stOK) [t.rd FLEET_STOP_STAT] ∧
      (s.latched = false → t.fld FLEET_STOP_STAT 23 16 = max (bits x 7 0) 0x10)) ∧
    does 4 0 (.spoofclr c tag nw) (fun t =>
      (s.isOn 8 = true → s.granted 2 = true → said t 5 1 stOK [] ∧ t.rd KEYS_AUTHSTAT = 0 ∧
        (s.isOn 6 = true → t.bit GNSS_INTEG 31 = false)) ∧
      (s.isOn 8 = false ∨ s.granted 2 = false → said t 5 1 stDENIED [] ∧ kept t)) ∧
    does 4 0 (.gnssStatus c tag nw) (fun t => kept t ∧ said t 5 2 stOK [reads GNSS_INTEG, reads GNSS_REFSTAT, reads GNSS_FREE])

/-- R5, R13, R309, R319, Tables 02-3 and 13-1: after an AON power-on reset the device is in BOOT, no command waits, every domain
but PD0 is OFF, every core is HALTED and no core waits or was interrupted, every register holds the value its table gives, and no
byte of memory is listed. (That general registers hold zero is the model's choice, log entry 36, and is not stated here.) -/
def Obligations.ResetLeavesBootWithEveryDomainOff : Prop :=
  State.reset.mode = 0 ∧ State.reset.pending = [] ∧ State.reset.isOn 0 = true ∧ (∀ d, 1 ≤ d → d ≤ 14 → State.reset.isOn d = false) ∧
  (∀ a, State.reset.rd a = regReset a) ∧ State.reset.latched = true ∧ State.reset.modeReq = none ∧ State.reset.mem = [] ∧
  ∀ c : Fin 8, (State.reset.core c).run = .halted ∧ (State.reset.core c).level = 0 ∧ (State.reset.core c).evpend = 0 ∧
    (State.reset.core c).stgmask = 0xFFFFFFFF

/-- The registers and the byte memory have their canonical form after reset: rising addresses, and nothing listed that reads as if
it were not. -/
def Obligations.ResetIsCanonical : Prop := State.reset.canonical

/-- Every command carries out: from every state it gives a next state, with the queue of waiting commands as it was. -/
def Obligations.EveryCommandCompletesAndLeavesTheQueue : Prop :=
  ∀ (i : Instr) (s : State), ∃ t, exec i s = .next t ∧ t.pending = s.pending

/-- Every step keeps the canonical form of the registers and of the byte memory. -/
def Obligations.StepKeepsTheCanonicalForm : Prop := ∀ s t : State, s.canonical → step s = .next t → t.canonical
end

