-- ==== Sys2Proof/Laws/State.lean ====
section
/-!
SUPPORT. Sys2Proof/Laws/State.lean: for each update of the state, each field that it leaves as it was, and what it writes.
-/
namespace Sys2Proof.Machine

variable (s : State)

/-! ### wr -/

@[simp] theorem State.wr_pending (a : Nat) (v : Word) : (s.wr a v).pending = s.pending := rfl
@[simp] theorem State.wr_free (a : Nat) (v : Word) : (s.wr a v).free = s.free := rfl
@[simp] theorem State.wr_clock (a : Nat) (v : Word) : (s.wr a v).clock = s.clock := rfl
@[simp] theorem State.wr_bus (a : Nat) (v : Word) : (s.wr a v).bus = s.bus := rfl
@[simp] theorem State.wr_mem (a : Nat) (v : Word) : (s.wr a v).mem = s.mem := rfl
@[simp] theorem State.wr_cores (a : Nat) (v : Word) : (s.wr a v).cores = s.cores := rfl
@[simp] theorem State.wr_time (a : Nat) (v : Word) : (s.wr a v).time = s.time := rfl
@[simp] theorem State.wr_rtc (a : Nat) (v : Word) : (s.wr a v).rtc = s.rtc := rfl
@[simp] theorem State.wr_power (a : Nat) (v : Word) : (s.wr a v).power = s.power := rfl
@[simp] theorem State.wr_rep (a : Nat) (v : Word) : (s.wr a v).rep = s.rep := rfl
@[simp] theorem State.wr_qfab (a : Nat) (v : Word) : (s.wr a v).qfab = s.qfab := rfl
@[simp] theorem State.wr_rx (a : Nat) (v : Word) : (s.wr a v).rx = s.rx := rfl
@[simp] theorem State.wr_tx (a : Nat) (v : Word) : (s.wr a v).tx = s.tx := rfl
@[simp] theorem State.wr_mac (a : Nat) (v : Word) : (s.wr a v).mac = s.mac := rfl
@[simp] theorem State.wr_fwd (a : Nat) (v : Word) : (s.wr a v).fwd = s.fwd := rfl
@[simp] theorem State.wr_sched (a : Nat) (v : Word) : (s.wr a v).sched = s.sched := rfl
@[simp] theorem State.wr_gnss (a : Nat) (v : Word) : (s.wr a v).gnss = s.gnss := rfl
@[simp] theorem State.wr_fleet (a : Nat) (v : Word) : (s.wr a v).fleet = s.fleet := rfl
@[simp] theorem State.wr_keys (a : Nat) (v : Word) : (s.wr a v).keys = s.keys := rfl
@[simp] theorem State.wr_dbg (a : Nat) (v : Word) : (s.wr a v).dbg = s.dbg := rfl
@[simp] theorem State.wr_upd (a : Nat) (v : Word) : (s.wr a v).upd = s.upd := rfl
@[simp] theorem State.wr_plank (a : Nat) (v : Word) : (s.wr a v).plank = s.plank := rfl
@[simp] theorem State.wr_net (a : Nat) (v : Word) : (s.wr a v).net = s.net := rfl
@[simp] theorem State.wr_host (a : Nat) (v : Word) : (s.wr a v).host = s.host := rfl
@[simp] theorem State.wr_modeReq (a : Nat) (v : Word) : (s.wr a v).modeReq = s.modeReq := rfl

/-! ### setFld -/

@[simp] theorem State.setFld_pending (a hi lo v : Nat) : (s.setFld a hi lo v).pending = s.pending := rfl
@[simp] theorem State.setFld_free (a hi lo v : Nat) : (s.setFld a hi lo v).free = s.free := rfl
@[simp] theorem State.setFld_clock (a hi lo v : Nat) : (s.setFld a hi lo v).clock = s.clock := rfl
@[simp] theorem State.setFld_bus (a hi lo v : Nat) : (s.setFld a hi lo v).bus = s.bus := rfl
@[simp] theorem State.setFld_mem (a hi lo v : Nat) : (s.setFld a hi lo v).mem = s.mem := rfl
@[simp] theorem State.setFld_cores (a hi lo v : Nat) : (s.setFld a hi lo v).cores = s.cores := rfl
@[simp] theorem State.setFld_time (a hi lo v : Nat) : (s.setFld a hi lo v).time = s.time := rfl
@[simp] theorem State.setFld_rtc (a hi lo v : Nat) : (s.setFld a hi lo v).rtc = s.rtc := rfl
@[simp] theorem State.setFld_power (a hi lo v : Nat) : (s.setFld a hi lo v).power = s.power := rfl
@[simp] theorem State.setFld_rep (a hi lo v : Nat) : (s.setFld a hi lo v).rep = s.rep := rfl
@[simp] theorem State.setFld_qfab (a hi lo v : Nat) : (s.setFld a hi lo v).qfab = s.qfab := rfl
@[simp] theorem State.setFld_rx (a hi lo v : Nat) : (s.setFld a hi lo v).rx = s.rx := rfl
@[simp] theorem State.setFld_tx (a hi lo v : Nat) : (s.setFld a hi lo v).tx = s.tx := rfl
@[simp] theorem State.setFld_mac (a hi lo v : Nat) : (s.setFld a hi lo v).mac = s.mac := rfl
@[simp] theorem State.setFld_fwd (a hi lo v : Nat) : (s.setFld a hi lo v).fwd = s.fwd := rfl
@[simp] theorem State.setFld_sched (a hi lo v : Nat) : (s.setFld a hi lo v).sched = s.sched := rfl
@[simp] theorem State.setFld_gnss (a hi lo v : Nat) : (s.setFld a hi lo v).gnss = s.gnss := rfl
@[simp] theorem State.setFld_fleet (a hi lo v : Nat) : (s.setFld a hi lo v).fleet = s.fleet := rfl
@[simp] theorem State.setFld_keys (a hi lo v : Nat) : (s.setFld a hi lo v).keys = s.keys := rfl
@[simp] theorem State.setFld_dbg (a hi lo v : Nat) : (s.setFld a hi lo v).dbg = s.dbg := rfl
@[simp] theorem State.setFld_upd (a hi lo v : Nat) : (s.setFld a hi lo v).upd = s.upd := rfl
@[simp] theorem State.setFld_plank (a hi lo v : Nat) : (s.setFld a hi lo v).plank = s.plank := rfl
@[simp] theorem State.setFld_net (a hi lo v : Nat) : (s.setFld a hi lo v).net = s.net := rfl
@[simp] theorem State.setFld_host (a hi lo v : Nat) : (s.setFld a hi lo v).host = s.host := rfl
@[simp] theorem State.setFld_modeReq (a hi lo v : Nat) : (s.setFld a hi lo v).modeReq = s.modeReq := rfl

/-! ### setBit -/

@[simp] theorem State.setBit_pending (a i : Nat) (b : Bool) : (s.setBit a i b).pending = s.pending := rfl
@[simp] theorem State.setBit_free (a i : Nat) (b : Bool) : (s.setBit a i b).free = s.free := rfl
@[simp] theorem State.setBit_clock (a i : Nat) (b : Bool) : (s.setBit a i b).clock = s.clock := rfl
@[simp] theorem State.setBit_bus (a i : Nat) (b : Bool) : (s.setBit a i b).bus = s.bus := rfl
@[simp] theorem State.setBit_mem (a i : Nat) (b : Bool) : (s.setBit a i b).mem = s.mem := rfl
@[simp] theorem State.setBit_cores (a i : Nat) (b : Bool) : (s.setBit a i b).cores = s.cores := rfl
@[simp] theorem State.setBit_time (a i : Nat) (b : Bool) : (s.setBit a i b).time = s.time := rfl
@[simp] theorem State.setBit_rtc (a i : Nat) (b : Bool) : (s.setBit a i b).rtc = s.rtc := rfl
@[simp] theorem State.setBit_power (a i : Nat) (b : Bool) : (s.setBit a i b).power = s.power := rfl
@[simp] theorem State.setBit_rep (a i : Nat) (b : Bool) : (s.setBit a i b).rep = s.rep := rfl
@[simp] theorem State.setBit_qfab (a i : Nat) (b : Bool) : (s.setBit a i b).qfab = s.qfab := rfl
@[simp] theorem State.setBit_rx (a i : Nat) (b : Bool) : (s.setBit a i b).rx = s.rx := rfl
@[simp] theorem State.setBit_tx (a i : Nat) (b : Bool) : (s.setBit a i b).tx = s.tx := rfl
@[simp] theorem State.setBit_mac (a i : Nat) (b : Bool) : (s.setBit a i b).mac = s.mac := rfl
@[simp] theorem State.setBit_fwd (a i : Nat) (b : Bool) : (s.setBit a i b).fwd = s.fwd := rfl
@[simp] theorem State.setBit_sched (a i : Nat) (b : Bool) : (s.setBit a i b).sched = s.sched := rfl
@[simp] theorem State.setBit_gnss (a i : Nat) (b : Bool) : (s.setBit a i b).gnss = s.gnss := rfl
@[simp] theorem State.setBit_fleet (a i : Nat) (b : Bool) : (s.setBit a i b).fleet = s.fleet := rfl
@[simp] theorem State.setBit_keys (a i : Nat) (b : Bool) : (s.setBit a i b).keys = s.keys := rfl
@[simp] theorem State.setBit_dbg (a i : Nat) (b : Bool) : (s.setBit a i b).dbg = s.dbg := rfl
@[simp] theorem State.setBit_upd (a i : Nat) (b : Bool) : (s.setBit a i b).upd = s.upd := rfl
@[simp] theorem State.setBit_plank (a i : Nat) (b : Bool) : (s.setBit a i b).plank = s.plank := rfl
@[simp] theorem State.setBit_net (a i : Nat) (b : Bool) : (s.setBit a i b).net = s.net := rfl
@[simp] theorem State.setBit_host (a i : Nat) (b : Bool) : (s.setBit a i b).host = s.host := rfl
@[simp] theorem State.setBit_modeReq (a i : Nat) (b : Bool) : (s.setBit a i b).modeReq = s.modeReq := rfl

/-! ### count -/

@[simp] theorem State.count_pending (a hi lo n : Nat) : (s.count a hi lo n).pending = s.pending := rfl
@[simp] theorem State.count_free (a hi lo n : Nat) : (s.count a hi lo n).free = s.free := rfl
@[simp] theorem State.count_clock (a hi lo n : Nat) : (s.count a hi lo n).clock = s.clock := rfl
@[simp] theorem State.count_bus (a hi lo n : Nat) : (s.count a hi lo n).bus = s.bus := rfl
@[simp] theorem State.count_mem (a hi lo n : Nat) : (s.count a hi lo n).mem = s.mem := rfl
@[simp] theorem State.count_cores (a hi lo n : Nat) : (s.count a hi lo n).cores = s.cores := rfl
@[simp] theorem State.count_time (a hi lo n : Nat) : (s.count a hi lo n).time = s.time := rfl
@[simp] theorem State.count_rtc (a hi lo n : Nat) : (s.count a hi lo n).rtc = s.rtc := rfl
@[simp] theorem State.count_power (a hi lo n : Nat) : (s.count a hi lo n).power = s.power := rfl
@[simp] theorem State.count_rep (a hi lo n : Nat) : (s.count a hi lo n).rep = s.rep := rfl
@[simp] theorem State.count_qfab (a hi lo n : Nat) : (s.count a hi lo n).qfab = s.qfab := rfl
@[simp] theorem State.count_rx (a hi lo n : Nat) : (s.count a hi lo n).rx = s.rx := rfl
@[simp] theorem State.count_tx (a hi lo n : Nat) : (s.count a hi lo n).tx = s.tx := rfl
@[simp] theorem State.count_mac (a hi lo n : Nat) : (s.count a hi lo n).mac = s.mac := rfl
@[simp] theorem State.count_fwd (a hi lo n : Nat) : (s.count a hi lo n).fwd = s.fwd := rfl
@[simp] theorem State.count_sched (a hi lo n : Nat) : (s.count a hi lo n).sched = s.sched := rfl
@[simp] theorem State.count_gnss (a hi lo n : Nat) : (s.count a hi lo n).gnss = s.gnss := rfl
@[simp] theorem State.count_fleet (a hi lo n : Nat) : (s.count a hi lo n).fleet = s.fleet := rfl
@[simp] theorem State.count_keys (a hi lo n : Nat) : (s.count a hi lo n).keys = s.keys := rfl
@[simp] theorem State.count_dbg (a hi lo n : Nat) : (s.count a hi lo n).dbg = s.dbg := rfl
@[simp] theorem State.count_upd (a hi lo n : Nat) : (s.count a hi lo n).upd = s.upd := rfl
@[simp] theorem State.count_plank (a hi lo n : Nat) : (s.count a hi lo n).plank = s.plank := rfl
@[simp] theorem State.count_net (a hi lo n : Nat) : (s.count a hi lo n).net = s.net := rfl
@[simp] theorem State.count_host (a hi lo n : Nat) : (s.count a hi lo n).host = s.host := rfl
@[simp] theorem State.count_modeReq (a hi lo n : Nat) : (s.count a hi lo n).modeReq = s.modeReq := rfl

/-! ### bump -/

@[simp] theorem State.bump_pending (a hi lo : Nat) : (s.bump a hi lo).pending = s.pending := rfl
@[simp] theorem State.bump_free (a hi lo : Nat) : (s.bump a hi lo).free = s.free := rfl
@[simp] theorem State.bump_clock (a hi lo : Nat) : (s.bump a hi lo).clock = s.clock := rfl
@[simp] theorem State.bump_bus (a hi lo : Nat) : (s.bump a hi lo).bus = s.bus := rfl
@[simp] theorem State.bump_mem (a hi lo : Nat) : (s.bump a hi lo).mem = s.mem := rfl
@[simp] theorem State.bump_cores (a hi lo : Nat) : (s.bump a hi lo).cores = s.cores := rfl
@[simp] theorem State.bump_time (a hi lo : Nat) : (s.bump a hi lo).time = s.time := rfl
@[simp] theorem State.bump_rtc (a hi lo : Nat) : (s.bump a hi lo).rtc = s.rtc := rfl
@[simp] theorem State.bump_power (a hi lo : Nat) : (s.bump a hi lo).power = s.power := rfl
@[simp] theorem State.bump_rep (a hi lo : Nat) : (s.bump a hi lo).rep = s.rep := rfl
@[simp] theorem State.bump_qfab (a hi lo : Nat) : (s.bump a hi lo).qfab = s.qfab := rfl
@[simp] theorem State.bump_rx (a hi lo : Nat) : (s.bump a hi lo).rx = s.rx := rfl
@[simp] theorem State.bump_tx (a hi lo : Nat) : (s.bump a hi lo).tx = s.tx := rfl
@[simp] theorem State.bump_mac (a hi lo : Nat) : (s.bump a hi lo).mac = s.mac := rfl
@[simp] theorem State.bump_fwd (a hi lo : Nat) : (s.bump a hi lo).fwd = s.fwd := rfl
@[simp] theorem State.bump_sched (a hi lo : Nat) : (s.bump a hi lo).sched = s.sched := rfl
@[simp] theorem State.bump_gnss (a hi lo : Nat) : (s.bump a hi lo).gnss = s.gnss := rfl
@[simp] theorem State.bump_fleet (a hi lo : Nat) : (s.bump a hi lo).fleet = s.fleet := rfl
@[simp] theorem State.bump_keys (a hi lo : Nat) : (s.bump a hi lo).keys = s.keys := rfl
@[simp] theorem State.bump_dbg (a hi lo : Nat) : (s.bump a hi lo).dbg = s.dbg := rfl
@[simp] theorem State.bump_upd (a hi lo : Nat) : (s.bump a hi lo).upd = s.upd := rfl
@[simp] theorem State.bump_plank (a hi lo : Nat) : (s.bump a hi lo).plank = s.plank := rfl
@[simp] theorem State.bump_net (a hi lo : Nat) : (s.bump a hi lo).net = s.net := rfl
@[simp] theorem State.bump_host (a hi lo : Nat) : (s.bump a hi lo).host = s.host := rfl
@[simp] theorem State.bump_modeReq (a hi lo : Nat) : (s.bump a hi lo).modeReq = s.modeReq := rfl

/-! ### resetRange -/

@[simp] theorem State.resetRange_pending (lo hi : Nat) : (s.resetRange lo hi).pending = s.pending := rfl
@[simp] theorem State.resetRange_free (lo hi : Nat) : (s.resetRange lo hi).free = s.free := rfl
@[simp] theorem State.resetRange_clock (lo hi : Nat) : (s.resetRange lo hi).clock = s.clock := rfl
@[simp] theorem State.resetRange_bus (lo hi : Nat) : (s.resetRange lo hi).bus = s.bus := rfl
@[simp] theorem State.resetRange_mem (lo hi : Nat) : (s.resetRange lo hi).mem = s.mem := rfl
@[simp] theorem State.resetRange_cores (lo hi : Nat) : (s.resetRange lo hi).cores = s.cores := rfl
@[simp] theorem State.resetRange_time (lo hi : Nat) : (s.resetRange lo hi).time = s.time := rfl
@[simp] theorem State.resetRange_rtc (lo hi : Nat) : (s.resetRange lo hi).rtc = s.rtc := rfl
@[simp] theorem State.resetRange_power (lo hi : Nat) : (s.resetRange lo hi).power = s.power := rfl
@[simp] theorem State.resetRange_rep (lo hi : Nat) : (s.resetRange lo hi).rep = s.rep := rfl
@[simp] theorem State.resetRange_qfab (lo hi : Nat) : (s.resetRange lo hi).qfab = s.qfab := rfl
@[simp] theorem State.resetRange_rx (lo hi : Nat) : (s.resetRange lo hi).rx = s.rx := rfl
@[simp] theorem State.resetRange_tx (lo hi : Nat) : (s.resetRange lo hi).tx = s.tx := rfl
@[simp] theorem State.resetRange_mac (lo hi : Nat) : (s.resetRange lo hi).mac = s.mac := rfl
@[simp] theorem State.resetRange_fwd (lo hi : Nat) : (s.resetRange lo hi).fwd = s.fwd := rfl
@[simp] theorem State.resetRange_sched (lo hi : Nat) : (s.resetRange lo hi).sched = s.sched := rfl
@[simp] theorem State.resetRange_gnss (lo hi : Nat) : (s.resetRange lo hi).gnss = s.gnss := rfl
@[simp] theorem State.resetRange_fleet (lo hi : Nat) : (s.resetRange lo hi).fleet = s.fleet := rfl
@[simp] theorem State.resetRange_keys (lo hi : Nat) : (s.resetRange lo hi).keys = s.keys := rfl
@[simp] theorem State.resetRange_dbg (lo hi : Nat) : (s.resetRange lo hi).dbg = s.dbg := rfl
@[simp] theorem State.resetRange_upd (lo hi : Nat) : (s.resetRange lo hi).upd = s.upd := rfl
@[simp] theorem State.resetRange_plank (lo hi : Nat) : (s.resetRange lo hi).plank = s.plank := rfl
@[simp] theorem State.resetRange_net (lo hi : Nat) : (s.resetRange lo hi).net = s.net := rfl
@[simp] theorem State.resetRange_host (lo hi : Nat) : (s.resetRange lo hi).host = s.host := rfl
@[simp] theorem State.resetRange_modeReq (lo hi : Nat) : (s.resetRange lo hi).modeReq = s.modeReq := rfl

/-! ### resetBlock -/

@[simp] theorem State.resetBlock_pending (b : Nat) : (s.resetBlock b).pending = s.pending := rfl
@[simp] theorem State.resetBlock_free (b : Nat) : (s.resetBlock b).free = s.free := rfl
@[simp] theorem State.resetBlock_clock (b : Nat) : (s.resetBlock b).clock = s.clock := rfl
@[simp] theorem State.resetBlock_bus (b : Nat) : (s.resetBlock b).bus = s.bus := rfl
@[simp] theorem State.resetBlock_mem (b : Nat) : (s.resetBlock b).mem = s.mem := rfl
@[simp] theorem State.resetBlock_cores (b : Nat) : (s.resetBlock b).cores = s.cores := rfl
@[simp] theorem State.resetBlock_time (b : Nat) : (s.resetBlock b).time = s.time := rfl
@[simp] theorem State.resetBlock_rtc (b : Nat) : (s.resetBlock b).rtc = s.rtc := rfl
@[simp] theorem State.resetBlock_power (b : Nat) : (s.resetBlock b).power = s.power := rfl
@[simp] theorem State.resetBlock_rep (b : Nat) : (s.resetBlock b).rep = s.rep := rfl
@[simp] theorem State.resetBlock_qfab (b : Nat) : (s.resetBlock b).qfab = s.qfab := rfl
@[simp] theorem State.resetBlock_rx (b : Nat) : (s.resetBlock b).rx = s.rx := rfl
@[simp] theorem State.resetBlock_tx (b : Nat) : (s.resetBlock b).tx = s.tx := rfl
@[simp] theorem State.resetBlock_mac (b : Nat) : (s.resetBlock b).mac = s.mac := rfl
@[simp] theorem State.resetBlock_fwd (b : Nat) : (s.resetBlock b).fwd = s.fwd := rfl
@[simp] theorem State.resetBlock_sched (b : Nat) : (s.resetBlock b).sched = s.sched := rfl
@[simp] theorem State.resetBlock_gnss (b : Nat) : (s.resetBlock b).gnss = s.gnss := rfl
@[simp] theorem State.resetBlock_fleet (b : Nat) : (s.resetBlock b).fleet = s.fleet := rfl
@[simp] theorem State.resetBlock_keys (b : Nat) : (s.resetBlock b).keys = s.keys := rfl
@[simp] theorem State.resetBlock_dbg (b : Nat) : (s.resetBlock b).dbg = s.dbg := rfl
@[simp] theorem State.resetBlock_upd (b : Nat) : (s.resetBlock b).upd = s.upd := rfl
@[simp] theorem State.resetBlock_plank (b : Nat) : (s.resetBlock b).plank = s.plank := rfl
@[simp] theorem State.resetBlock_net (b : Nat) : (s.resetBlock b).net = s.net := rfl
@[simp] theorem State.resetBlock_host (b : Nat) : (s.resetBlock b).host = s.host := rfl
@[simp] theorem State.resetBlock_modeReq (b : Nat) : (s.resetBlock b).modeReq = s.modeReq := rfl

/-! ### setByte -/

@[simp] theorem State.setByte_pending (a : Nat) (b : Byte) : (s.setByte a b).pending = s.pending := rfl
@[simp] theorem State.setByte_free (a : Nat) (b : Byte) : (s.setByte a b).free = s.free := rfl
@[simp] theorem State.setByte_clock (a : Nat) (b : Byte) : (s.setByte a b).clock = s.clock := rfl
@[simp] theorem State.setByte_bus (a : Nat) (b : Byte) : (s.setByte a b).bus = s.bus := rfl
@[simp] theorem State.setByte_regs (a : Nat) (b : Byte) : (s.setByte a b).regs = s.regs := rfl
@[simp] theorem State.setByte_cores (a : Nat) (b : Byte) : (s.setByte a b).cores = s.cores := rfl
@[simp] theorem State.setByte_time (a : Nat) (b : Byte) : (s.setByte a b).time = s.time := rfl
@[simp] theorem State.setByte_rtc (a : Nat) (b : Byte) : (s.setByte a b).rtc = s.rtc := rfl
@[simp] theorem State.setByte_power (a : Nat) (b : Byte) : (s.setByte a b).power = s.power := rfl
@[simp] theorem State.setByte_rep (a : Nat) (b : Byte) : (s.setByte a b).rep = s.rep := rfl
@[simp] theorem State.setByte_qfab (a : Nat) (b : Byte) : (s.setByte a b).qfab = s.qfab := rfl
@[simp] theorem State.setByte_rx (a : Nat) (b : Byte) : (s.setByte a b).rx = s.rx := rfl
@[simp] theorem State.setByte_tx (a : Nat) (b : Byte) : (s.setByte a b).tx = s.tx := rfl
@[simp] theorem State.setByte_mac (a : Nat) (b : Byte) : (s.setByte a b).mac = s.mac := rfl
@[simp] theorem State.setByte_fwd (a : Nat) (b : Byte) : (s.setByte a b).fwd = s.fwd := rfl
@[simp] theorem State.setByte_sched (a : Nat) (b : Byte) : (s.setByte a b).sched = s.sched := rfl
@[simp] theorem State.setByte_gnss (a : Nat) (b : Byte) : (s.setByte a b).gnss = s.gnss := rfl
@[simp] theorem State.setByte_fleet (a : Nat) (b : Byte) : (s.setByte a b).fleet = s.fleet := rfl
@[simp] theorem State.setByte_keys (a : Nat) (b : Byte) : (s.setByte a b).keys = s.keys := rfl
@[simp] theorem State.setByte_dbg (a : Nat) (b : Byte) : (s.setByte a b).dbg = s.dbg := rfl
@[simp] theorem State.setByte_upd (a : Nat) (b : Byte) : (s.setByte a b).upd = s.upd := rfl
@[simp] theorem State.setByte_plank (a : Nat) (b : Byte) : (s.setByte a b).plank = s.plank := rfl
@[simp] theorem State.setByte_net (a : Nat) (b : Byte) : (s.setByte a b).net = s.net := rfl
@[simp] theorem State.setByte_host (a : Nat) (b : Byte) : (s.setByte a b).host = s.host := rfl
@[simp] theorem State.setByte_modeReq (a : Nat) (b : Byte) : (s.setByte a b).modeReq = s.modeReq := rfl

/-! ### dropMem -/

@[simp] theorem State.dropMem_pending (lo hi : Nat) : (s.dropMem lo hi).pending = s.pending := rfl
@[simp] theorem State.dropMem_free (lo hi : Nat) : (s.dropMem lo hi).free = s.free := rfl
@[simp] theorem State.dropMem_clock (lo hi : Nat) : (s.dropMem lo hi).clock = s.clock := rfl
@[simp] theorem State.dropMem_bus (lo hi : Nat) : (s.dropMem lo hi).bus = s.bus := rfl
@[simp] theorem State.dropMem_regs (lo hi : Nat) : (s.dropMem lo hi).regs = s.regs := rfl
@[simp] theorem State.dropMem_cores (lo hi : Nat) : (s.dropMem lo hi).cores = s.cores := rfl
@[simp] theorem State.dropMem_time (lo hi : Nat) : (s.dropMem lo hi).time = s.time := rfl
@[simp] theorem State.dropMem_rtc (lo hi : Nat) : (s.dropMem lo hi).rtc = s.rtc := rfl
@[simp] theorem State.dropMem_power (lo hi : Nat) : (s.dropMem lo hi).power = s.power := rfl
@[simp] theorem State.dropMem_rep (lo hi : Nat) : (s.dropMem lo hi).rep = s.rep := rfl
@[simp] theorem State.dropMem_qfab (lo hi : Nat) : (s.dropMem lo hi).qfab = s.qfab := rfl
@[simp] theorem State.dropMem_rx (lo hi : Nat) : (s.dropMem lo hi).rx = s.rx := rfl
@[simp] theorem State.dropMem_tx (lo hi : Nat) : (s.dropMem lo hi).tx = s.tx := rfl
@[simp] theorem State.dropMem_mac (lo hi : Nat) : (s.dropMem lo hi).mac = s.mac := rfl
@[simp] theorem State.dropMem_fwd (lo hi : Nat) : (s.dropMem lo hi).fwd = s.fwd := rfl
@[simp] theorem State.dropMem_sched (lo hi : Nat) : (s.dropMem lo hi).sched = s.sched := rfl
@[simp] theorem State.dropMem_gnss (lo hi : Nat) : (s.dropMem lo hi).gnss = s.gnss := rfl
@[simp] theorem State.dropMem_fleet (lo hi : Nat) : (s.dropMem lo hi).fleet = s.fleet := rfl
@[simp] theorem State.dropMem_keys (lo hi : Nat) : (s.dropMem lo hi).keys = s.keys := rfl
@[simp] theorem State.dropMem_dbg (lo hi : Nat) : (s.dropMem lo hi).dbg = s.dbg := rfl
@[simp] theorem State.dropMem_upd (lo hi : Nat) : (s.dropMem lo hi).upd = s.upd := rfl
@[simp] theorem State.dropMem_plank (lo hi : Nat) : (s.dropMem lo hi).plank = s.plank := rfl
@[simp] theorem State.dropMem_net (lo hi : Nat) : (s.dropMem lo hi).net = s.net := rfl
@[simp] theorem State.dropMem_host (lo hi : Nat) : (s.dropMem lo hi).host = s.host := rfl
@[simp] theorem State.dropMem_modeReq (lo hi : Nat) : (s.dropMem lo hi).modeReq = s.modeReq := rfl

/-! ### modCore -/

@[simp] theorem State.modCore_pending (c : Fin 8) (f : Core → Core) : (s.modCore c f).pending = s.pending := rfl
@[simp] theorem State.modCore_free (c : Fin 8) (f : Core → Core) : (s.modCore c f).free = s.free := rfl
@[simp] theorem State.modCore_clock (c : Fin 8) (f : Core → Core) : (s.modCore c f).clock = s.clock := rfl
@[simp] theorem State.modCore_bus (c : Fin 8) (f : Core → Core) : (s.modCore c f).bus = s.bus := rfl
@[simp] theorem State.modCore_regs (c : Fin 8) (f : Core → Core) : (s.modCore c f).regs = s.regs := rfl
@[simp] theorem State.modCore_mem (c : Fin 8) (f : Core → Core) : (s.modCore c f).mem = s.mem := rfl
@[simp] theorem State.modCore_time (c : Fin 8) (f : Core → Core) : (s.modCore c f).time = s.time := rfl
@[simp] theorem State.modCore_rtc (c : Fin 8) (f : Core → Core) : (s.modCore c f).rtc = s.rtc := rfl
@[simp] theorem State.modCore_power (c : Fin 8) (f : Core → Core) : (s.modCore c f).power = s.power := rfl
@[simp] theorem State.modCore_rep (c : Fin 8) (f : Core → Core) : (s.modCore c f).rep = s.rep := rfl
@[simp] theorem State.modCore_qfab (c : Fin 8) (f : Core → Core) : (s.modCore c f).qfab = s.qfab := rfl
@[simp] theorem State.modCore_rx (c : Fin 8) (f : Core → Core) : (s.modCore c f).rx = s.rx := rfl
@[simp] theorem State.modCore_tx (c : Fin 8) (f : Core → Core) : (s.modCore c f).tx = s.tx := rfl
@[simp] theorem State.modCore_mac (c : Fin 8) (f : Core → Core) : (s.modCore c f).mac = s.mac := rfl
@[simp] theorem State.modCore_fwd (c : Fin 8) (f : Core → Core) : (s.modCore c f).fwd = s.fwd := rfl
@[simp] theorem State.modCore_sched (c : Fin 8) (f : Core → Core) : (s.modCore c f).sched = s.sched := rfl
@[simp] theorem State.modCore_gnss (c : Fin 8) (f : Core → Core) : (s.modCore c f).gnss = s.gnss := rfl
@[simp] theorem State.modCore_fleet (c : Fin 8) (f : Core → Core) : (s.modCore c f).fleet = s.fleet := rfl
@[simp] theorem State.modCore_keys (c : Fin 8) (f : Core → Core) : (s.modCore c f).keys = s.keys := rfl
@[simp] theorem State.modCore_dbg (c : Fin 8) (f : Core → Core) : (s.modCore c f).dbg = s.dbg := rfl
@[simp] theorem State.modCore_upd (c : Fin 8) (f : Core → Core) : (s.modCore c f).upd = s.upd := rfl
@[simp] theorem State.modCore_plank (c : Fin 8) (f : Core → Core) : (s.modCore c f).plank = s.plank := rfl
@[simp] theorem State.modCore_net (c : Fin 8) (f : Core → Core) : (s.modCore c f).net = s.net := rfl
@[simp] theorem State.modCore_host (c : Fin 8) (f : Core → Core) : (s.modCore c f).host = s.host := rfl
@[simp] theorem State.modCore_modeReq (c : Fin 8) (f : Core → Core) : (s.modCore c f).modeReq = s.modeReq := rfl

/-! ### advance -/

@[simp] theorem State.advance_pending (c : Fin 8) : (s.advance c).pending = s.pending := rfl
@[simp] theorem State.advance_free (c : Fin 8) : (s.advance c).free = s.free := rfl
@[simp] theorem State.advance_clock (c : Fin 8) : (s.advance c).clock = s.clock := rfl
@[simp] theorem State.advance_bus (c : Fin 8) : (s.advance c).bus = s.bus := rfl
@[simp] theorem State.advance_regs (c : Fin 8) : (s.advance c).regs = s.regs := rfl
@[simp] theorem State.advance_mem (c : Fin 8) : (s.advance c).mem = s.mem := rfl
@[simp] theorem State.advance_time (c : Fin 8) : (s.advance c).time = s.time := rfl
@[simp] theorem State.advance_rtc (c : Fin 8) : (s.advance c).rtc = s.rtc := rfl
@[simp] theorem State.advance_power (c : Fin 8) : (s.advance c).power = s.power := rfl
@[simp] theorem State.advance_rep (c : Fin 8) : (s.advance c).rep = s.rep := rfl
@[simp] theorem State.advance_qfab (c : Fin 8) : (s.advance c).qfab = s.qfab := rfl
@[simp] theorem State.advance_rx (c : Fin 8) : (s.advance c).rx = s.rx := rfl
@[simp] theorem State.advance_tx (c : Fin 8) : (s.advance c).tx = s.tx := rfl
@[simp] theorem State.advance_mac (c : Fin 8) : (s.advance c).mac = s.mac := rfl
@[simp] theorem State.advance_fwd (c : Fin 8) : (s.advance c).fwd = s.fwd := rfl
@[simp] theorem State.advance_sched (c : Fin 8) : (s.advance c).sched = s.sched := rfl
@[simp] theorem State.advance_gnss (c : Fin 8) : (s.advance c).gnss = s.gnss := rfl
@[simp] theorem State.advance_fleet (c : Fin 8) : (s.advance c).fleet = s.fleet := rfl
@[simp] theorem State.advance_keys (c : Fin 8) : (s.advance c).keys = s.keys := rfl
@[simp] theorem State.advance_dbg (c : Fin 8) : (s.advance c).dbg = s.dbg := rfl
@[simp] theorem State.advance_upd (c : Fin 8) : (s.advance c).upd = s.upd := rfl
@[simp] theorem State.advance_plank (c : Fin 8) : (s.advance c).plank = s.plank := rfl
@[simp] theorem State.advance_net (c : Fin 8) : (s.advance c).net = s.net := rfl
@[simp] theorem State.advance_host (c : Fin 8) : (s.advance c).host = s.host := rfl
@[simp] theorem State.advance_modeReq (c : Fin 8) : (s.advance c).modeReq = s.modeReq := rfl

/-! ### modTime -/

@[simp] theorem State.modTime_pending (f : TimeSt → TimeSt) : (s.modTime f).pending = s.pending := rfl
@[simp] theorem State.modTime_free (f : TimeSt → TimeSt) : (s.modTime f).free = s.free := rfl
@[simp] theorem State.modTime_clock (f : TimeSt → TimeSt) : (s.modTime f).clock = s.clock := rfl
@[simp] theorem State.modTime_bus (f : TimeSt → TimeSt) : (s.modTime f).bus = s.bus := rfl
@[simp] theorem State.modTime_regs (f : TimeSt → TimeSt) : (s.modTime f).regs = s.regs := rfl
@[simp] theorem State.modTime_mem (f : TimeSt → TimeSt) : (s.modTime f).mem = s.mem := rfl
@[simp] theorem State.modTime_cores (f : TimeSt → TimeSt) : (s.modTime f).cores = s.cores := rfl
@[simp] theorem State.modTime_rtc (f : TimeSt → TimeSt) : (s.modTime f).rtc = s.rtc := rfl
@[simp] theorem State.modTime_power (f : TimeSt → TimeSt) : (s.modTime f).power = s.power := rfl
@[simp] theorem State.modTime_rep (f : TimeSt → TimeSt) : (s.modTime f).rep = s.rep := rfl
@[simp] theorem State.modTime_qfab (f : TimeSt → TimeSt) : (s.modTime f).qfab = s.qfab := rfl
@[simp] theorem State.modTime_rx (f : TimeSt → TimeSt) : (s.modTime f).rx = s.rx := rfl
@[simp] theorem State.modTime_tx (f : TimeSt → TimeSt) : (s.modTime f).tx = s.tx := rfl
@[simp] theorem State.modTime_mac (f : TimeSt → TimeSt) : (s.modTime f).mac = s.mac := rfl
@[simp] theorem State.modTime_fwd (f : TimeSt → TimeSt) : (s.modTime f).fwd = s.fwd := rfl
@[simp] theorem State.modTime_sched (f : TimeSt → TimeSt) : (s.modTime f).sched = s.sched := rfl
@[simp] theorem State.modTime_gnss (f : TimeSt → TimeSt) : (s.modTime f).gnss = s.gnss := rfl
@[simp] theorem State.modTime_fleet (f : TimeSt → TimeSt) : (s.modTime f).fleet = s.fleet := rfl
@[simp] theorem State.modTime_keys (f : TimeSt → TimeSt) : (s.modTime f).keys = s.keys := rfl
@[simp] theorem State.modTime_dbg (f : TimeSt → TimeSt) : (s.modTime f).dbg = s.dbg := rfl
@[simp] theorem State.modTime_upd (f : TimeSt → TimeSt) : (s.modTime f).upd = s.upd := rfl
@[simp] theorem State.modTime_plank (f : TimeSt → TimeSt) : (s.modTime f).plank = s.plank := rfl
@[simp] theorem State.modTime_net (f : TimeSt → TimeSt) : (s.modTime f).net = s.net := rfl
@[simp] theorem State.modTime_host (f : TimeSt → TimeSt) : (s.modTime f).host = s.host := rfl
@[simp] theorem State.modTime_modeReq (f : TimeSt → TimeSt) : (s.modTime f).modeReq = s.modeReq := rfl
@[simp] theorem State.modTime_time (f : TimeSt → TimeSt) : (s.modTime f).time = f s.time := rfl

/-! ### modRtc -/

@[simp] theorem State.modRtc_pending (f : RtcSt → RtcSt) : (s.modRtc f).pending = s.pending := rfl
@[simp] theorem State.modRtc_free (f : RtcSt → RtcSt) : (s.modRtc f).free = s.free := rfl
@[simp] theorem State.modRtc_clock (f : RtcSt → RtcSt) : (s.modRtc f).clock = s.clock := rfl
@[simp] theorem State.modRtc_bus (f : RtcSt → RtcSt) : (s.modRtc f).bus = s.bus := rfl
@[simp] theorem State.modRtc_regs (f : RtcSt → RtcSt) : (s.modRtc f).regs = s.regs := rfl
@[simp] theorem State.modRtc_mem (f : RtcSt → RtcSt) : (s.modRtc f).mem = s.mem := rfl
@[simp] theorem State.modRtc_cores (f : RtcSt → RtcSt) : (s.modRtc f).cores = s.cores := rfl
@[simp] theorem State.modRtc_time (f : RtcSt → RtcSt) : (s.modRtc f).time = s.time := rfl
@[simp] theorem State.modRtc_power (f : RtcSt → RtcSt) : (s.modRtc f).power = s.power := rfl
@[simp] theorem State.modRtc_rep (f : RtcSt → RtcSt) : (s.modRtc f).rep = s.rep := rfl
@[simp] theorem State.modRtc_qfab (f : RtcSt → RtcSt) : (s.modRtc f).qfab = s.qfab := rfl
@[simp] theorem State.modRtc_rx (f : RtcSt → RtcSt) : (s.modRtc f).rx = s.rx := rfl
@[simp] theorem State.modRtc_tx (f : RtcSt → RtcSt) : (s.modRtc f).tx = s.tx := rfl
@[simp] theorem State.modRtc_mac (f : RtcSt → RtcSt) : (s.modRtc f).mac = s.mac := rfl
@[simp] theorem State.modRtc_fwd (f : RtcSt → RtcSt) : (s.modRtc f).fwd = s.fwd := rfl
@[simp] theorem State.modRtc_sched (f : RtcSt → RtcSt) : (s.modRtc f).sched = s.sched := rfl
@[simp] theorem State.modRtc_gnss (f : RtcSt → RtcSt) : (s.modRtc f).gnss = s.gnss := rfl
@[simp] theorem State.modRtc_fleet (f : RtcSt → RtcSt) : (s.modRtc f).fleet = s.fleet := rfl
@[simp] theorem State.modRtc_keys (f : RtcSt → RtcSt) : (s.modRtc f).keys = s.keys := rfl
@[simp] theorem State.modRtc_dbg (f : RtcSt → RtcSt) : (s.modRtc f).dbg = s.dbg := rfl
@[simp] theorem State.modRtc_upd (f : RtcSt → RtcSt) : (s.modRtc f).upd = s.upd := rfl
@[simp] theorem State.modRtc_plank (f : RtcSt → RtcSt) : (s.modRtc f).plank = s.plank := rfl
@[simp] theorem State.modRtc_net (f : RtcSt → RtcSt) : (s.modRtc f).net = s.net := rfl
@[simp] theorem State.modRtc_host (f : RtcSt → RtcSt) : (s.modRtc f).host = s.host := rfl
@[simp] theorem State.modRtc_modeReq (f : RtcSt → RtcSt) : (s.modRtc f).modeReq = s.modeReq := rfl
@[simp] theorem State.modRtc_rtc (f : RtcSt → RtcSt) : (s.modRtc f).rtc = f s.rtc := rfl

/-! ### modReplay -/

@[simp] theorem State.modReplay_pending (f : ReplaySt → ReplaySt) : (s.modReplay f).pending = s.pending := rfl
@[simp] theorem State.modReplay_free (f : ReplaySt → ReplaySt) : (s.modReplay f).free = s.free := rfl
@[simp] theorem State.modReplay_clock (f : ReplaySt → ReplaySt) : (s.modReplay f).clock = s.clock := rfl
@[simp] theorem State.modReplay_bus (f : ReplaySt → ReplaySt) : (s.modReplay f).bus = s.bus := rfl
@[simp] theorem State.modReplay_regs (f : ReplaySt → ReplaySt) : (s.modReplay f).regs = s.regs := rfl
@[simp] theorem State.modReplay_mem (f : ReplaySt → ReplaySt) : (s.modReplay f).mem = s.mem := rfl
@[simp] theorem State.modReplay_cores (f : ReplaySt → ReplaySt) : (s.modReplay f).cores = s.cores := rfl
@[simp] theorem State.modReplay_time (f : ReplaySt → ReplaySt) : (s.modReplay f).time = s.time := rfl
@[simp] theorem State.modReplay_rtc (f : ReplaySt → ReplaySt) : (s.modReplay f).rtc = s.rtc := rfl
@[simp] theorem State.modReplay_power (f : ReplaySt → ReplaySt) : (s.modReplay f).power = s.power := rfl
@[simp] theorem State.modReplay_qfab (f : ReplaySt → ReplaySt) : (s.modReplay f).qfab = s.qfab := rfl
@[simp] theorem State.modReplay_rx (f : ReplaySt → ReplaySt) : (s.modReplay f).rx = s.rx := rfl
@[simp] theorem State.modReplay_tx (f : ReplaySt → ReplaySt) : (s.modReplay f).tx = s.tx := rfl
@[simp] theorem State.modReplay_mac (f : ReplaySt → ReplaySt) : (s.modReplay f).mac = s.mac := rfl
@[simp] theorem State.modReplay_fwd (f : ReplaySt → ReplaySt) : (s.modReplay f).fwd = s.fwd := rfl
@[simp] theorem State.modReplay_sched (f : ReplaySt → ReplaySt) : (s.modReplay f).sched = s.sched := rfl
@[simp] theorem State.modReplay_gnss (f : ReplaySt → ReplaySt) : (s.modReplay f).gnss = s.gnss := rfl
@[simp] theorem State.modReplay_fleet (f : ReplaySt → ReplaySt) : (s.modReplay f).fleet = s.fleet := rfl
@[simp] theorem State.modReplay_keys (f : ReplaySt → ReplaySt) : (s.modReplay f).keys = s.keys := rfl
@[simp] theorem State.modReplay_dbg (f : ReplaySt → ReplaySt) : (s.modReplay f).dbg = s.dbg := rfl
@[simp] theorem State.modReplay_upd (f : ReplaySt → ReplaySt) : (s.modReplay f).upd = s.upd := rfl
@[simp] theorem State.modReplay_plank (f : ReplaySt → ReplaySt) : (s.modReplay f).plank = s.plank := rfl
@[simp] theorem State.modReplay_net (f : ReplaySt → ReplaySt) : (s.modReplay f).net = s.net := rfl
@[simp] theorem State.modReplay_host (f : ReplaySt → ReplaySt) : (s.modReplay f).host = s.host := rfl
@[simp] theorem State.modReplay_modeReq (f : ReplaySt → ReplaySt) : (s.modReplay f).modeReq = s.modeReq := rfl

/-! ### modRx -/

@[simp] theorem State.modRx_pending (f : RxSt → RxSt) : (s.modRx f).pending = s.pending := rfl
@[simp] theorem State.modRx_free (f : RxSt → RxSt) : (s.modRx f).free = s.free := rfl
@[simp] theorem State.modRx_clock (f : RxSt → RxSt) : (s.modRx f).clock = s.clock := rfl
@[simp] theorem State.modRx_bus (f : RxSt → RxSt) : (s.modRx f).bus = s.bus := rfl
@[simp] theorem State.modRx_regs (f : RxSt → RxSt) : (s.modRx f).regs = s.regs := rfl
@[simp] theorem State.modRx_mem (f : RxSt → RxSt) : (s.modRx f).mem = s.mem := rfl
@[simp] theorem State.modRx_cores (f : RxSt → RxSt) : (s.modRx f).cores = s.cores := rfl
@[simp] theorem State.modRx_time (f : RxSt → RxSt) : (s.modRx f).time = s.time := rfl
@[simp] theorem State.modRx_rtc (f : RxSt → RxSt) : (s.modRx f).rtc = s.rtc := rfl
@[simp] theorem State.modRx_power (f : RxSt → RxSt) : (s.modRx f).power = s.power := rfl
@[simp] theorem State.modRx_rep (f : RxSt → RxSt) : (s.modRx f).rep = s.rep := rfl
@[simp] theorem State.modRx_qfab (f : RxSt → RxSt) : (s.modRx f).qfab = s.qfab := rfl
@[simp] theorem State.modRx_tx (f : RxSt → RxSt) : (s.modRx f).tx = s.tx := rfl
@[simp] theorem State.modRx_mac (f : RxSt → RxSt) : (s.modRx f).mac = s.mac := rfl
@[simp] theorem State.modRx_fwd (f : RxSt → RxSt) : (s.modRx f).fwd = s.fwd := rfl
@[simp] theorem State.modRx_sched (f : RxSt → RxSt) : (s.modRx f).sched = s.sched := rfl
@[simp] theorem State.modRx_gnss (f : RxSt → RxSt) : (s.modRx f).gnss = s.gnss := rfl
@[simp] theorem State.modRx_fleet (f : RxSt → RxSt) : (s.modRx f).fleet = s.fleet := rfl
@[simp] theorem State.modRx_keys (f : RxSt → RxSt) : (s.modRx f).keys = s.keys := rfl
@[simp] theorem State.modRx_dbg (f : RxSt → RxSt) : (s.modRx f).dbg = s.dbg := rfl
@[simp] theorem State.modRx_upd (f : RxSt → RxSt) : (s.modRx f).upd = s.upd := rfl
@[simp] theorem State.modRx_plank (f : RxSt → RxSt) : (s.modRx f).plank = s.plank := rfl
@[simp] theorem State.modRx_net (f : RxSt → RxSt) : (s.modRx f).net = s.net := rfl
@[simp] theorem State.modRx_host (f : RxSt → RxSt) : (s.modRx f).host = s.host := rfl
@[simp] theorem State.modRx_modeReq (f : RxSt → RxSt) : (s.modRx f).modeReq = s.modeReq := rfl
@[simp] theorem State.modRx_rx (f : RxSt → RxSt) : (s.modRx f).rx = f s.rx := rfl

/-! ### modTx -/

@[simp] theorem State.modTx_pending (f : TxSt → TxSt) : (s.modTx f).pending = s.pending := rfl
@[simp] theorem State.modTx_free (f : TxSt → TxSt) : (s.modTx f).free = s.free := rfl
@[simp] theorem State.modTx_clock (f : TxSt → TxSt) : (s.modTx f).clock = s.clock := rfl
@[simp] theorem State.modTx_bus (f : TxSt → TxSt) : (s.modTx f).bus = s.bus := rfl
@[simp] theorem State.modTx_regs (f : TxSt → TxSt) : (s.modTx f).regs = s.regs := rfl
@[simp] theorem State.modTx_mem (f : TxSt → TxSt) : (s.modTx f).mem = s.mem := rfl
@[simp] theorem State.modTx_cores (f : TxSt → TxSt) : (s.modTx f).cores = s.cores := rfl
@[simp] theorem State.modTx_time (f : TxSt → TxSt) : (s.modTx f).time = s.time := rfl
@[simp] theorem State.modTx_rtc (f : TxSt → TxSt) : (s.modTx f).rtc = s.rtc := rfl
@[simp] theorem State.modTx_power (f : TxSt → TxSt) : (s.modTx f).power = s.power := rfl
@[simp] theorem State.modTx_rep (f : TxSt → TxSt) : (s.modTx f).rep = s.rep := rfl
@[simp] theorem State.modTx_qfab (f : TxSt → TxSt) : (s.modTx f).qfab = s.qfab := rfl
@[simp] theorem State.modTx_rx (f : TxSt → TxSt) : (s.modTx f).rx = s.rx := rfl
@[simp] theorem State.modTx_mac (f : TxSt → TxSt) : (s.modTx f).mac = s.mac := rfl
@[simp] theorem State.modTx_fwd (f : TxSt → TxSt) : (s.modTx f).fwd = s.fwd := rfl
@[simp] theorem State.modTx_sched (f : TxSt → TxSt) : (s.modTx f).sched = s.sched := rfl
@[simp] theorem State.modTx_gnss (f : TxSt → TxSt) : (s.modTx f).gnss = s.gnss := rfl
@[simp] theorem State.modTx_fleet (f : TxSt → TxSt) : (s.modTx f).fleet = s.fleet := rfl
@[simp] theorem State.modTx_keys (f : TxSt → TxSt) : (s.modTx f).keys = s.keys := rfl
@[simp] theorem State.modTx_dbg (f : TxSt → TxSt) : (s.modTx f).dbg = s.dbg := rfl
@[simp] theorem State.modTx_upd (f : TxSt → TxSt) : (s.modTx f).upd = s.upd := rfl
@[simp] theorem State.modTx_plank (f : TxSt → TxSt) : (s.modTx f).plank = s.plank := rfl
@[simp] theorem State.modTx_net (f : TxSt → TxSt) : (s.modTx f).net = s.net := rfl
@[simp] theorem State.modTx_host (f : TxSt → TxSt) : (s.modTx f).host = s.host := rfl
@[simp] theorem State.modTx_modeReq (f : TxSt → TxSt) : (s.modTx f).modeReq = s.modeReq := rfl
@[simp] theorem State.modTx_tx (f : TxSt → TxSt) : (s.modTx f).tx = f s.tx := rfl

/-! ### modMac -/

@[simp] theorem State.modMac_pending (f : MacSt → MacSt) : (s.modMac f).pending = s.pending := rfl
@[simp] theorem State.modMac_free (f : MacSt → MacSt) : (s.modMac f).free = s.free := rfl
@[simp] theorem State.modMac_clock (f : MacSt → MacSt) : (s.modMac f).clock = s.clock := rfl
@[simp] theorem State.modMac_bus (f : MacSt → MacSt) : (s.modMac f).bus = s.bus := rfl
@[simp] theorem State.modMac_regs (f : MacSt → MacSt) : (s.modMac f).regs = s.regs := rfl
@[simp] theorem State.modMac_mem (f : MacSt → MacSt) : (s.modMac f).mem = s.mem := rfl
@[simp] theorem State.modMac_cores (f : MacSt → MacSt) : (s.modMac f).cores = s.cores := rfl
@[simp] theorem State.modMac_time (f : MacSt → MacSt) : (s.modMac f).time = s.time := rfl
@[simp] theorem State.modMac_rtc (f : MacSt → MacSt) : (s.modMac f).rtc = s.rtc := rfl
@[simp] theorem State.modMac_power (f : MacSt → MacSt) : (s.modMac f).power = s.power := rfl
@[simp] theorem State.modMac_rep (f : MacSt → MacSt) : (s.modMac f).rep = s.rep := rfl
@[simp] theorem State.modMac_qfab (f : MacSt → MacSt) : (s.modMac f).qfab = s.qfab := rfl
@[simp] theorem State.modMac_rx (f : MacSt → MacSt) : (s.modMac f).rx = s.rx := rfl
@[simp] theorem State.modMac_tx (f : MacSt → MacSt) : (s.modMac f).tx = s.tx := rfl
@[simp] theorem State.modMac_fwd (f : MacSt → MacSt) : (s.modMac f).fwd = s.fwd := rfl
@[simp] theorem State.modMac_sched (f : MacSt → MacSt) : (s.modMac f).sched = s.sched := rfl
@[simp] theorem State.modMac_gnss (f : MacSt → MacSt) : (s.modMac f).gnss = s.gnss := rfl
@[simp] theorem State.modMac_fleet (f : MacSt → MacSt) : (s.modMac f).fleet = s.fleet := rfl
@[simp] theorem State.modMac_keys (f : MacSt → MacSt) : (s.modMac f).keys = s.keys := rfl
@[simp] theorem State.modMac_dbg (f : MacSt → MacSt) : (s.modMac f).dbg = s.dbg := rfl
@[simp] theorem State.modMac_upd (f : MacSt → MacSt) : (s.modMac f).upd = s.upd := rfl
@[simp] theorem State.modMac_plank (f : MacSt → MacSt) : (s.modMac f).plank = s.plank := rfl
@[simp] theorem State.modMac_net (f : MacSt → MacSt) : (s.modMac f).net = s.net := rfl
@[simp] theorem State.modMac_host (f : MacSt → MacSt) : (s.modMac f).host = s.host := rfl
@[simp] theorem State.modMac_modeReq (f : MacSt → MacSt) : (s.modMac f).modeReq = s.modeReq := rfl
@[simp] theorem State.modMac_mac (f : MacSt → MacSt) : (s.modMac f).mac = f s.mac := rfl

/-! ### modFwd -/

@[simp] theorem State.modFwd_pending (f : FwdSt → FwdSt) : (s.modFwd f).pending = s.pending := rfl
@[simp] theorem State.modFwd_free (f : FwdSt → FwdSt) : (s.modFwd f).free = s.free := rfl
@[simp] theorem State.modFwd_clock (f : FwdSt → FwdSt) : (s.modFwd f).clock = s.clock := rfl
@[simp] theorem State.modFwd_bus (f : FwdSt → FwdSt) : (s.modFwd f).bus = s.bus := rfl
@[simp] theorem State.modFwd_regs (f : FwdSt → FwdSt) : (s.modFwd f).regs = s.regs := rfl
@[simp] theorem State.modFwd_mem (f : FwdSt → FwdSt) : (s.modFwd f).mem = s.mem := rfl
@[simp] theorem State.modFwd_cores (f : FwdSt → FwdSt) : (s.modFwd f).cores = s.cores := rfl
@[simp] theorem State.modFwd_time (f : FwdSt → FwdSt) : (s.modFwd f).time = s.time := rfl
@[simp] theorem State.modFwd_rtc (f : FwdSt → FwdSt) : (s.modFwd f).rtc = s.rtc := rfl
@[simp] theorem State.modFwd_power (f : FwdSt → FwdSt) : (s.modFwd f).power = s.power := rfl
@[simp] theorem State.modFwd_rep (f : FwdSt → FwdSt) : (s.modFwd f).rep = s.rep := rfl
@[simp] theorem State.modFwd_qfab (f : FwdSt → FwdSt) : (s.modFwd f).qfab = s.qfab := rfl
@[simp] theorem State.modFwd_rx (f : FwdSt → FwdSt) : (s.modFwd f).rx = s.rx := rfl
@[simp] theorem State.modFwd_tx (f : FwdSt → FwdSt) : (s.modFwd f).tx = s.tx := rfl
@[simp] theorem State.modFwd_mac (f : FwdSt → FwdSt) : (s.modFwd f).mac = s.mac := rfl
@[simp] theorem State.modFwd_sched (f : FwdSt → FwdSt) : (s.modFwd f).sched = s.sched := rfl
@[simp] theorem State.modFwd_gnss (f : FwdSt → FwdSt) : (s.modFwd f).gnss = s.gnss := rfl
@[simp] theorem State.modFwd_fleet (f : FwdSt → FwdSt) : (s.modFwd f).fleet = s.fleet := rfl
@[simp] theorem State.modFwd_keys (f : FwdSt → FwdSt) : (s.modFwd f).keys = s.keys := rfl
@[simp] theorem State.modFwd_dbg (f : FwdSt → FwdSt) : (s.modFwd f).dbg = s.dbg := rfl
@[simp] theorem State.modFwd_upd (f : FwdSt → FwdSt) : (s.modFwd f).upd = s.upd := rfl
@[simp] theorem State.modFwd_plank (f : FwdSt → FwdSt) : (s.modFwd f).plank = s.plank := rfl
@[simp] theorem State.modFwd_net (f : FwdSt → FwdSt) : (s.modFwd f).net = s.net := rfl
@[simp] theorem State.modFwd_host (f : FwdSt → FwdSt) : (s.modFwd f).host = s.host := rfl
@[simp] theorem State.modFwd_modeReq (f : FwdSt → FwdSt) : (s.modFwd f).modeReq = s.modeReq := rfl
@[simp] theorem State.modFwd_fwd (f : FwdSt → FwdSt) : (s.modFwd f).fwd = f s.fwd := rfl

/-! ### modSched -/

@[simp] theorem State.modSched_pending (f : SchedSt → SchedSt) : (s.modSched f).pending = s.pending := rfl
@[simp] theorem State.modSched_free (f : SchedSt → SchedSt) : (s.modSched f).free = s.free := rfl
@[simp] theorem State.modSched_clock (f : SchedSt → SchedSt) : (s.modSched f).clock = s.clock := rfl
@[simp] theorem State.modSched_bus (f : SchedSt → SchedSt) : (s.modSched f).bus = s.bus := rfl
@[simp] theorem State.modSched_regs (f : SchedSt → SchedSt) : (s.modSched f).regs = s.regs := rfl
@[simp] theorem State.modSched_mem (f : SchedSt → SchedSt) : (s.modSched f).mem = s.mem := rfl
@[simp] theorem State.modSched_cores (f : SchedSt → SchedSt) : (s.modSched f).cores = s.cores := rfl
@[simp] theorem State.modSched_time (f : SchedSt → SchedSt) : (s.modSched f).time = s.time := rfl
@[simp] theorem State.modSched_rtc (f : SchedSt → SchedSt) : (s.modSched f).rtc = s.rtc := rfl
@[simp] theorem State.modSched_power (f : SchedSt → SchedSt) : (s.modSched f).power = s.power := rfl
@[simp] theorem State.modSched_rep (f : SchedSt → SchedSt) : (s.modSched f).rep = s.rep := rfl
@[simp] theorem State.modSched_qfab (f : SchedSt → SchedSt) : (s.modSched f).qfab = s.qfab := rfl
@[simp] theorem State.modSched_rx (f : SchedSt → SchedSt) : (s.modSched f).rx = s.rx := rfl
@[simp] theorem State.modSched_tx (f : SchedSt → SchedSt) : (s.modSched f).tx = s.tx := rfl
@[simp] theorem State.modSched_mac (f : SchedSt → SchedSt) : (s.modSched f).mac = s.mac := rfl
@[simp] theorem State.modSched_fwd (f : SchedSt → SchedSt) : (s.modSched f).fwd = s.fwd := rfl
@[simp] theorem State.modSched_gnss (f : SchedSt → SchedSt) : (s.modSched f).gnss = s.gnss := rfl
@[simp] theorem State.modSched_fleet (f : SchedSt → SchedSt) : (s.modSched f).fleet = s.fleet := rfl
@[simp] theorem State.modSched_keys (f : SchedSt → SchedSt) : (s.modSched f).keys = s.keys := rfl
@[simp] theorem State.modSched_dbg (f : SchedSt → SchedSt) : (s.modSched f).dbg = s.dbg := rfl
@[simp] theorem State.modSched_upd (f : SchedSt → SchedSt) : (s.modSched f).upd = s.upd := rfl
@[simp] theorem State.modSched_plank (f : SchedSt → SchedSt) : (s.modSched f).plank = s.plank := rfl
@[simp] theorem State.modSched_net (f : SchedSt → SchedSt) : (s.modSched f).net = s.net := rfl
@[simp] theorem State.modSched_host (f : SchedSt → SchedSt) : (s.modSched f).host = s.host := rfl
@[simp] theorem State.modSched_modeReq (f : SchedSt → SchedSt) : (s.modSched f).modeReq = s.modeReq := rfl
@[simp] theorem State.modSched_sched (f : SchedSt → SchedSt) : (s.modSched f).sched = f s.sched := rfl

/-! ### modGnss -/

@[simp] theorem State.modGnss_pending (f : GnssSt → GnssSt) : (s.modGnss f).pending = s.pending := rfl
@[simp] theorem State.modGnss_free (f : GnssSt → GnssSt) : (s.modGnss f).free = s.free := rfl
@[simp] theorem State.modGnss_clock (f : GnssSt → GnssSt) : (s.modGnss f).clock = s.clock := rfl
@[simp] theorem State.modGnss_bus (f : GnssSt → GnssSt) : (s.modGnss f).bus = s.bus := rfl
@[simp] theorem State.modGnss_regs (f : GnssSt → GnssSt) : (s.modGnss f).regs = s.regs := rfl
@[simp] theorem State.modGnss_mem (f : GnssSt → GnssSt) : (s.modGnss f).mem = s.mem := rfl
@[simp] theorem State.modGnss_cores (f : GnssSt → GnssSt) : (s.modGnss f).cores = s.cores := rfl
@[simp] theorem State.modGnss_time (f : GnssSt → GnssSt) : (s.modGnss f).time = s.time := rfl
@[simp] theorem State.modGnss_rtc (f : GnssSt → GnssSt) : (s.modGnss f).rtc = s.rtc := rfl
@[simp] theorem State.modGnss_power (f : GnssSt → GnssSt) : (s.modGnss f).power = s.power := rfl
@[simp] theorem State.modGnss_rep (f : GnssSt → GnssSt) : (s.modGnss f).rep = s.rep := rfl
@[simp] theorem State.modGnss_qfab (f : GnssSt → GnssSt) : (s.modGnss f).qfab = s.qfab := rfl
@[simp] theorem State.modGnss_rx (f : GnssSt → GnssSt) : (s.modGnss f).rx = s.rx := rfl
@[simp] theorem State.modGnss_tx (f : GnssSt → GnssSt) : (s.modGnss f).tx = s.tx := rfl
@[simp] theorem State.modGnss_mac (f : GnssSt → GnssSt) : (s.modGnss f).mac = s.mac := rfl
@[simp] theorem State.modGnss_fwd (f : GnssSt → GnssSt) : (s.modGnss f).fwd = s.fwd := rfl
@[simp] theorem State.modGnss_sched (f : GnssSt → GnssSt) : (s.modGnss f).sched = s.sched := rfl
@[simp] theorem State.modGnss_fleet (f : GnssSt → GnssSt) : (s.modGnss f).fleet = s.fleet := rfl
@[simp] theorem State.modGnss_keys (f : GnssSt → GnssSt) : (s.modGnss f).keys = s.keys := rfl
@[simp] theorem State.modGnss_dbg (f : GnssSt → GnssSt) : (s.modGnss f).dbg = s.dbg := rfl
@[simp] theorem State.modGnss_upd (f : GnssSt → GnssSt) : (s.modGnss f).upd = s.upd := rfl
@[simp] theorem State.modGnss_plank (f : GnssSt → GnssSt) : (s.modGnss f).plank = s.plank := rfl
@[simp] theorem State.modGnss_net (f : GnssSt → GnssSt) : (s.modGnss f).net = s.net := rfl
@[simp] theorem State.modGnss_host (f : GnssSt → GnssSt) : (s.modGnss f).host = s.host := rfl
@[simp] theorem State.modGnss_modeReq (f : GnssSt → GnssSt) : (s.modGnss f).modeReq = s.modeReq := rfl
@[simp] theorem State.modGnss_gnss (f : GnssSt → GnssSt) : (s.modGnss f).gnss = f s.gnss := rfl

/-! ### modFleet -/

@[simp] theorem State.modFleet_pending (f : FleetSt → FleetSt) : (s.modFleet f).pending = s.pending := rfl
@[simp] theorem State.modFleet_free (f : FleetSt → FleetSt) : (s.modFleet f).free = s.free := rfl
@[simp] theorem State.modFleet_clock (f : FleetSt → FleetSt) : (s.modFleet f).clock = s.clock := rfl
@[simp] theorem State.modFleet_bus (f : FleetSt → FleetSt) : (s.modFleet f).bus = s.bus := rfl
@[simp] theorem State.modFleet_regs (f : FleetSt → FleetSt) : (s.modFleet f).regs = s.regs := rfl
@[simp] theorem State.modFleet_mem (f : FleetSt → FleetSt) : (s.modFleet f).mem = s.mem := rfl
@[simp] theorem State.modFleet_cores (f : FleetSt → FleetSt) : (s.modFleet f).cores = s.cores := rfl
@[simp] theorem State.modFleet_time (f : FleetSt → FleetSt) : (s.modFleet f).time = s.time := rfl
@[simp] theorem State.modFleet_rtc (f : FleetSt → FleetSt) : (s.modFleet f).rtc = s.rtc := rfl
@[simp] theorem State.modFleet_power (f : FleetSt → FleetSt) : (s.modFleet f).power = s.power := rfl
@[simp] theorem State.modFleet_rep (f : FleetSt → FleetSt) : (s.modFleet f).rep = s.rep := rfl
@[simp] theorem State.modFleet_qfab (f : FleetSt → FleetSt) : (s.modFleet f).qfab = s.qfab := rfl
@[simp] theorem State.modFleet_rx (f : FleetSt → FleetSt) : (s.modFleet f).rx = s.rx := rfl
@[simp] theorem State.modFleet_tx (f : FleetSt → FleetSt) : (s.modFleet f).tx = s.tx := rfl
@[simp] theorem State.modFleet_mac (f : FleetSt → FleetSt) : (s.modFleet f).mac = s.mac := rfl
@[simp] theorem State.modFleet_fwd (f : FleetSt → FleetSt) : (s.modFleet f).fwd = s.fwd := rfl
@[simp] theorem State.modFleet_sched (f : FleetSt → FleetSt) : (s.modFleet f).sched = s.sched := rfl
@[simp] theorem State.modFleet_gnss (f : FleetSt → FleetSt) : (s.modFleet f).gnss = s.gnss := rfl
@[simp] theorem State.modFleet_keys (f : FleetSt → FleetSt) : (s.modFleet f).keys = s.keys := rfl
@[simp] theorem State.modFleet_dbg (f : FleetSt → FleetSt) : (s.modFleet f).dbg = s.dbg := rfl
@[simp] theorem State.modFleet_upd (f : FleetSt → FleetSt) : (s.modFleet f).upd = s.upd := rfl
@[simp] theorem State.modFleet_plank (f : FleetSt → FleetSt) : (s.modFleet f).plank = s.plank := rfl
@[simp] theorem State.modFleet_net (f : FleetSt → FleetSt) : (s.modFleet f).net = s.net := rfl
@[simp] theorem State.modFleet_host (f : FleetSt → FleetSt) : (s.modFleet f).host = s.host := rfl
@[simp] theorem State.modFleet_modeReq (f : FleetSt → FleetSt) : (s.modFleet f).modeReq = s.modeReq := rfl
@[simp] theorem State.modFleet_fleet (f : FleetSt → FleetSt) : (s.modFleet f).fleet = f s.fleet := rfl

/-! ### modKeys -/

@[simp] theorem State.modKeys_pending (f : KeysSt → KeysSt) : (s.modKeys f).pending = s.pending := rfl
@[simp] theorem State.modKeys_free (f : KeysSt → KeysSt) : (s.modKeys f).free = s.free := rfl
@[simp] theorem State.modKeys_clock (f : KeysSt → KeysSt) : (s.modKeys f).clock = s.clock := rfl
@[simp] theorem State.modKeys_bus (f : KeysSt → KeysSt) : (s.modKeys f).bus = s.bus := rfl
@[simp] theorem State.modKeys_regs (f : KeysSt → KeysSt) : (s.modKeys f).regs = s.regs := rfl
@[simp] theorem State.modKeys_mem (f : KeysSt → KeysSt) : (s.modKeys f).mem = s.mem := rfl
@[simp] theorem State.modKeys_cores (f : KeysSt → KeysSt) : (s.modKeys f).cores = s.cores := rfl
@[simp] theorem State.modKeys_time (f : KeysSt → KeysSt) : (s.modKeys f).time = s.time := rfl
@[simp] theorem State.modKeys_rtc (f : KeysSt → KeysSt) : (s.modKeys f).rtc = s.rtc := rfl
@[simp] theorem State.modKeys_power (f : KeysSt → KeysSt) : (s.modKeys f).power = s.power := rfl
@[simp] theorem State.modKeys_rep (f : KeysSt → KeysSt) : (s.modKeys f).rep = s.rep := rfl
@[simp] theorem State.modKeys_qfab (f : KeysSt → KeysSt) : (s.modKeys f).qfab = s.qfab := rfl
@[simp] theorem State.modKeys_rx (f : KeysSt → KeysSt) : (s.modKeys f).rx = s.rx := rfl
@[simp] theorem State.modKeys_tx (f : KeysSt → KeysSt) : (s.modKeys f).tx = s.tx := rfl
@[simp] theorem State.modKeys_mac (f : KeysSt → KeysSt) : (s.modKeys f).mac = s.mac := rfl
@[simp] theorem State.modKeys_fwd (f : KeysSt → KeysSt) : (s.modKeys f).fwd = s.fwd := rfl
@[simp] theorem State.modKeys_sched (f : KeysSt → KeysSt) : (s.modKeys f).sched = s.sched := rfl
@[simp] theorem State.modKeys_gnss (f : KeysSt → KeysSt) : (s.modKeys f).gnss = s.gnss := rfl
@[simp] theorem State.modKeys_fleet (f : KeysSt → KeysSt) : (s.modKeys f).fleet = s.fleet := rfl
@[simp] theorem State.modKeys_dbg (f : KeysSt → KeysSt) : (s.modKeys f).dbg = s.dbg := rfl
@[simp] theorem State.modKeys_upd (f : KeysSt → KeysSt) : (s.modKeys f).upd = s.upd := rfl
@[simp] theorem State.modKeys_plank (f : KeysSt → KeysSt) : (s.modKeys f).plank = s.plank := rfl
@[simp] theorem State.modKeys_net (f : KeysSt → KeysSt) : (s.modKeys f).net = s.net := rfl
@[simp] theorem State.modKeys_host (f : KeysSt → KeysSt) : (s.modKeys f).host = s.host := rfl
@[simp] theorem State.modKeys_modeReq (f : KeysSt → KeysSt) : (s.modKeys f).modeReq = s.modeReq := rfl
@[simp] theorem State.modKeys_keys (f : KeysSt → KeysSt) : (s.modKeys f).keys = f s.keys := rfl

/-! ### modUpd -/

@[simp] theorem State.modUpd_pending (f : UpdSt → UpdSt) : (s.modUpd f).pending = s.pending := rfl
@[simp] theorem State.modUpd_free (f : UpdSt → UpdSt) : (s.modUpd f).free = s.free := rfl
@[simp] theorem State.modUpd_clock (f : UpdSt → UpdSt) : (s.modUpd f).clock = s.clock := rfl
@[simp] theorem State.modUpd_bus (f : UpdSt → UpdSt) : (s.modUpd f).bus = s.bus := rfl
@[simp] theorem State.modUpd_regs (f : UpdSt → UpdSt) : (s.modUpd f).regs = s.regs := rfl
@[simp] theorem State.modUpd_mem (f : UpdSt → UpdSt) : (s.modUpd f).mem = s.mem := rfl
@[simp] theorem State.modUpd_cores (f : UpdSt → UpdSt) : (s.modUpd f).cores = s.cores := rfl
@[simp] theorem State.modUpd_time (f : UpdSt → UpdSt) : (s.modUpd f).time = s.time := rfl
@[simp] theorem State.modUpd_rtc (f : UpdSt → UpdSt) : (s.modUpd f).rtc = s.rtc := rfl
@[simp] theorem State.modUpd_power (f : UpdSt → UpdSt) : (s.modUpd f).power = s.power := rfl
@[simp] theorem State.modUpd_rep (f : UpdSt → UpdSt) : (s.modUpd f).rep = s.rep := rfl
@[simp] theorem State.modUpd_qfab (f : UpdSt → UpdSt) : (s.modUpd f).qfab = s.qfab := rfl
@[simp] theorem State.modUpd_rx (f : UpdSt → UpdSt) : (s.modUpd f).rx = s.rx := rfl
@[simp] theorem State.modUpd_tx (f : UpdSt → UpdSt) : (s.modUpd f).tx = s.tx := rfl
@[simp] theorem State.modUpd_mac (f : UpdSt → UpdSt) : (s.modUpd f).mac = s.mac := rfl
@[simp] theorem State.modUpd_fwd (f : UpdSt → UpdSt) : (s.modUpd f).fwd = s.fwd := rfl
@[simp] theorem State.modUpd_sched (f : UpdSt → UpdSt) : (s.modUpd f).sched = s.sched := rfl
@[simp] theorem State.modUpd_gnss (f : UpdSt → UpdSt) : (s.modUpd f).gnss = s.gnss := rfl
@[simp] theorem State.modUpd_fleet (f : UpdSt → UpdSt) : (s.modUpd f).fleet = s.fleet := rfl
@[simp] theorem State.modUpd_keys (f : UpdSt → UpdSt) : (s.modUpd f).keys = s.keys := rfl
@[simp] theorem State.modUpd_dbg (f : UpdSt → UpdSt) : (s.modUpd f).dbg = s.dbg := rfl
@[simp] theorem State.modUpd_plank (f : UpdSt → UpdSt) : (s.modUpd f).plank = s.plank := rfl
@[simp] theorem State.modUpd_net (f : UpdSt → UpdSt) : (s.modUpd f).net = s.net := rfl
@[simp] theorem State.modUpd_host (f : UpdSt → UpdSt) : (s.modUpd f).host = s.host := rfl
@[simp] theorem State.modUpd_modeReq (f : UpdSt → UpdSt) : (s.modUpd f).modeReq = s.modeReq := rfl
@[simp] theorem State.modUpd_upd (f : UpdSt → UpdSt) : (s.modUpd f).upd = f s.upd := rfl

/-! ### modNet -/

@[simp] theorem State.modNet_pending (f : NetSt → NetSt) : (s.modNet f).pending = s.pending := rfl
@[simp] theorem State.modNet_free (f : NetSt → NetSt) : (s.modNet f).free = s.free := rfl
@[simp] theorem State.modNet_clock (f : NetSt → NetSt) : (s.modNet f).clock = s.clock := rfl
@[simp] theorem State.modNet_bus (f : NetSt → NetSt) : (s.modNet f).bus = s.bus := rfl
@[simp] theorem State.modNet_regs (f : NetSt → NetSt) : (s.modNet f).regs = s.regs := rfl
@[simp] theorem State.modNet_mem (f : NetSt → NetSt) : (s.modNet f).mem = s.mem := rfl
@[simp] theorem State.modNet_cores (f : NetSt → NetSt) : (s.modNet f).cores = s.cores := rfl
@[simp] theorem State.modNet_time (f : NetSt → NetSt) : (s.modNet f).time = s.time := rfl
@[simp] theorem State.modNet_rtc (f : NetSt → NetSt) : (s.modNet f).rtc = s.rtc := rfl
@[simp] theorem State.modNet_power (f : NetSt → NetSt) : (s.modNet f).power = s.power := rfl
@[simp] theorem State.modNet_rep (f : NetSt → NetSt) : (s.modNet f).rep = s.rep := rfl
@[simp] theorem State.modNet_qfab (f : NetSt → NetSt) : (s.modNet f).qfab = s.qfab := rfl
@[simp] theorem State.modNet_rx (f : NetSt → NetSt) : (s.modNet f).rx = s.rx := rfl
@[simp] theorem State.modNet_tx (f : NetSt → NetSt) : (s.modNet f).tx = s.tx := rfl
@[simp] theorem State.modNet_mac (f : NetSt → NetSt) : (s.modNet f).mac = s.mac := rfl
@[simp] theorem State.modNet_fwd (f : NetSt → NetSt) : (s.modNet f).fwd = s.fwd := rfl
@[simp] theorem State.modNet_sched (f : NetSt → NetSt) : (s.modNet f).sched = s.sched := rfl
@[simp] theorem State.modNet_gnss (f : NetSt → NetSt) : (s.modNet f).gnss = s.gnss := rfl
@[simp] theorem State.modNet_fleet (f : NetSt → NetSt) : (s.modNet f).fleet = s.fleet := rfl
@[simp] theorem State.modNet_keys (f : NetSt → NetSt) : (s.modNet f).keys = s.keys := rfl
@[simp] theorem State.modNet_dbg (f : NetSt → NetSt) : (s.modNet f).dbg = s.dbg := rfl
@[simp] theorem State.modNet_upd (f : NetSt → NetSt) : (s.modNet f).upd = s.upd := rfl
@[simp] theorem State.modNet_plank (f : NetSt → NetSt) : (s.modNet f).plank = s.plank := rfl
@[simp] theorem State.modNet_host (f : NetSt → NetSt) : (s.modNet f).host = s.host := rfl
@[simp] theorem State.modNet_modeReq (f : NetSt → NetSt) : (s.modNet f).modeReq = s.modeReq := rfl
@[simp] theorem State.modNet_net (f : NetSt → NetSt) : (s.modNet f).net = f s.net := rfl

/-! ### modHost -/

@[simp] theorem State.modHost_pending (f : HostSt → HostSt) : (s.modHost f).pending = s.pending := rfl
@[simp] theorem State.modHost_free (f : HostSt → HostSt) : (s.modHost f).free = s.free := rfl
@[simp] theorem State.modHost_clock (f : HostSt → HostSt) : (s.modHost f).clock = s.clock := rfl
@[simp] theorem State.modHost_bus (f : HostSt → HostSt) : (s.modHost f).bus = s.bus := rfl
@[simp] theorem State.modHost_regs (f : HostSt → HostSt) : (s.modHost f).regs = s.regs := rfl
@[simp] theorem State.modHost_mem (f : HostSt → HostSt) : (s.modHost f).mem = s.mem := rfl
@[simp] theorem State.modHost_cores (f : HostSt → HostSt) : (s.modHost f).cores = s.cores := rfl
@[simp] theorem State.modHost_time (f : HostSt → HostSt) : (s.modHost f).time = s.time := rfl
@[simp] theorem State.modHost_rtc (f : HostSt → HostSt) : (s.modHost f).rtc = s.rtc := rfl
@[simp] theorem State.modHost_power (f : HostSt → HostSt) : (s.modHost f).power = s.power := rfl
@[simp] theorem State.modHost_rep (f : HostSt → HostSt) : (s.modHost f).rep = s.rep := rfl
@[simp] theorem State.modHost_qfab (f : HostSt → HostSt) : (s.modHost f).qfab = s.qfab := rfl
@[simp] theorem State.modHost_rx (f : HostSt → HostSt) : (s.modHost f).rx = s.rx := rfl
@[simp] theorem State.modHost_tx (f : HostSt → HostSt) : (s.modHost f).tx = s.tx := rfl
@[simp] theorem State.modHost_mac (f : HostSt → HostSt) : (s.modHost f).mac = s.mac := rfl
@[simp] theorem State.modHost_fwd (f : HostSt → HostSt) : (s.modHost f).fwd = s.fwd := rfl
@[simp] theorem State.modHost_sched (f : HostSt → HostSt) : (s.modHost f).sched = s.sched := rfl
@[simp] theorem State.modHost_gnss (f : HostSt → HostSt) : (s.modHost f).gnss = s.gnss := rfl
@[simp] theorem State.modHost_fleet (f : HostSt → HostSt) : (s.modHost f).fleet = s.fleet := rfl
@[simp] theorem State.modHost_keys (f : HostSt → HostSt) : (s.modHost f).keys = s.keys := rfl
@[simp] theorem State.modHost_dbg (f : HostSt → HostSt) : (s.modHost f).dbg = s.dbg := rfl
@[simp] theorem State.modHost_upd (f : HostSt → HostSt) : (s.modHost f).upd = s.upd := rfl
@[simp] theorem State.modHost_plank (f : HostSt → HostSt) : (s.modHost f).plank = s.plank := rfl
@[simp] theorem State.modHost_net (f : HostSt → HostSt) : (s.modHost f).net = s.net := rfl
@[simp] theorem State.modHost_modeReq (f : HostSt → HostSt) : (s.modHost f).modeReq = s.modeReq := rfl
@[simp] theorem State.modHost_host (f : HostSt → HostSt) : (s.modHost f).host = f s.host := rfl

/-! ### Guarded updates -/

@[simp] theorem State.setGpr_pending (c : Fin 8) (r : Fin 16) (v : Word) : (s.setGpr c r v).pending = s.pending := by
  unfold State.setGpr; split <;> rfl
@[simp] theorem State.setGpr_free (c : Fin 8) (r : Fin 16) (v : Word) : (s.setGpr c r v).free = s.free := by
  unfold State.setGpr; split <;> rfl
@[simp] theorem State.setGpr_clock (c : Fin 8) (r : Fin 16) (v : Word) : (s.setGpr c r v).clock = s.clock := by
  unfold State.setGpr; split <;> rfl
@[simp] theorem State.setGpr_bus (c : Fin 8) (r : Fin 16) (v : Word) : (s.setGpr c r v).bus = s.bus := by
  unfold State.setGpr; split <;> rfl
@[simp] theorem State.setGpr_regs (c : Fin 8) (r : Fin 16) (v : Word) : (s.setGpr c r v).regs = s.regs := by
  unfold State.setGpr; split <;> rfl
@[simp] theorem State.setGpr_mem (c : Fin 8) (r : Fin 16) (v : Word) : (s.setGpr c r v).mem = s.mem := by
  unfold State.setGpr; split <;> rfl
@[simp] theorem State.setGpr_time (c : Fin 8) (r : Fin 16) (v : Word) : (s.setGpr c r v).time = s.time := by
  unfold State.setGpr; split <;> rfl
@[simp] theorem State.setGpr_rtc (c : Fin 8) (r : Fin 16) (v : Word) : (s.setGpr c r v).rtc = s.rtc := by
  unfold State.setGpr; split <;> rfl
@[simp] theorem State.setGpr_power (c : Fin 8) (r : Fin 16) (v : Word) : (s.setGpr c r v).power = s.power := by
  unfold State.setGpr; split <;> rfl
@[simp] theorem State.setGpr_rep (c : Fin 8) (r : Fin 16) (v : Word) : (s.setGpr c r v).rep = s.rep := by
  unfold State.setGpr; split <;> rfl
@[simp] theorem State.setGpr_qfab (c : Fin 8) (r : Fin 16) (v : Word) : (s.setGpr c r v).qfab = s.qfab := by
  unfold State.setGpr; split <;> rfl
@[simp] theorem State.setGpr_rx (c : Fin 8) (r : Fin 16) (v : Word) : (s.setGpr c r v).rx = s.rx := by
  unfold State.setGpr; split <;> rfl
@[simp] theorem State.setGpr_tx (c : Fin 8) (r : Fin 16) (v : Word) : (s.setGpr c r v).tx = s.tx := by
  unfold State.setGpr; split <;> rfl
@[simp] theorem State.setGpr_mac (c : Fin 8) (r : Fin 16) (v : Word) : (s.setGpr c r v).mac = s.mac := by
  unfold State.setGpr; split <;> rfl
@[simp] theorem State.setGpr_fwd (c : Fin 8) (r : Fin 16) (v : Word) : (s.setGpr c r v).fwd = s.fwd := by
  unfold State.setGpr; split <;> rfl
@[simp] theorem State.setGpr_sched (c : Fin 8) (r : Fin 16) (v : Word) : (s.setGpr c r v).sched = s.sched := by
  unfold State.setGpr; split <;> rfl
@[simp] theorem State.setGpr_gnss (c : Fin 8) (r : Fin 16) (v : Word) : (s.setGpr c r v).gnss = s.gnss := by
  unfold State.setGpr; split <;> rfl
@[simp] theorem State.setGpr_fleet (c : Fin 8) (r : Fin 16) (v : Word) : (s.setGpr c r v).fleet = s.fleet := by
  unfold State.setGpr; split <;> rfl
@[simp] theorem State.setGpr_keys (c : Fin 8) (r : Fin 16) (v : Word) : (s.setGpr c r v).keys = s.keys := by
  unfold State.setGpr; split <;> rfl
@[simp] theorem State.setGpr_dbg (c : Fin 8) (r : Fin 16) (v : Word) : (s.setGpr c r v).dbg = s.dbg := by
  unfold State.setGpr; split <;> rfl
@[simp] theorem State.setGpr_upd (c : Fin 8) (r : Fin 16) (v : Word) : (s.setGpr c r v).upd = s.upd := by
  unfold State.setGpr; split <;> rfl
@[simp] theorem State.setGpr_plank (c : Fin 8) (r : Fin 16) (v : Word) : (s.setGpr c r v).plank = s.plank := by
  unfold State.setGpr; split <;> rfl
@[simp] theorem State.setGpr_net (c : Fin 8) (r : Fin 16) (v : Word) : (s.setGpr c r v).net = s.net := by
  unfold State.setGpr; split <;> rfl
@[simp] theorem State.setGpr_host (c : Fin 8) (r : Fin 16) (v : Word) : (s.setGpr c r v).host = s.host := by
  unfold State.setGpr; split <;> rfl
@[simp] theorem State.setGpr_modeReq (c : Fin 8) (r : Fin 16) (v : Word) : (s.setGpr c r v).modeReq = s.modeReq := by
  unfold State.setGpr; split <;> rfl
@[simp] theorem State.modDom_pending (d : Nat) (f : Dom → Dom) : (s.modDom d f).pending = s.pending := by
  unfold State.modDom; split <;> rfl
@[simp] theorem State.modDom_free (d : Nat) (f : Dom → Dom) : (s.modDom d f).free = s.free := by
  unfold State.modDom; split <;> rfl
@[simp] theorem State.modDom_clock (d : Nat) (f : Dom → Dom) : (s.modDom d f).clock = s.clock := by
  unfold State.modDom; split <;> rfl
@[simp] theorem State.modDom_bus (d : Nat) (f : Dom → Dom) : (s.modDom d f).bus = s.bus := by
  unfold State.modDom; split <;> rfl
@[simp] theorem State.modDom_regs (d : Nat) (f : Dom → Dom) : (s.modDom d f).regs = s.regs := by
  unfold State.modDom; split <;> rfl
@[simp] theorem State.modDom_mem (d : Nat) (f : Dom → Dom) : (s.modDom d f).mem = s.mem := by
  unfold State.modDom; split <;> rfl
@[simp] theorem State.modDom_cores (d : Nat) (f : Dom → Dom) : (s.modDom d f).cores = s.cores := by
  unfold State.modDom; split <;> rfl
@[simp] theorem State.modDom_time (d : Nat) (f : Dom → Dom) : (s.modDom d f).time = s.time := by
  unfold State.modDom; split <;> rfl
@[simp] theorem State.modDom_rtc (d : Nat) (f : Dom → Dom) : (s.modDom d f).rtc = s.rtc := by
  unfold State.modDom; split <;> rfl
@[simp] theorem State.modDom_rep (d : Nat) (f : Dom → Dom) : (s.modDom d f).rep = s.rep := by
  unfold State.modDom; split <;> rfl
@[simp] theorem State.modDom_qfab (d : Nat) (f : Dom → Dom) : (s.modDom d f).qfab = s.qfab := by
  unfold State.modDom; split <;> rfl
@[simp] theorem State.modDom_rx (d : Nat) (f : Dom → Dom) : (s.modDom d f).rx = s.rx := by
  unfold State.modDom; split <;> rfl
@[simp] theorem State.modDom_tx (d : Nat) (f : Dom → Dom) : (s.modDom d f).tx = s.tx := by
  unfold State.modDom; split <;> rfl
@[simp] theorem State.modDom_mac (d : Nat) (f : Dom → Dom) : (s.modDom d f).mac = s.mac := by
  unfold State.modDom; split <;> rfl
@[simp] theorem State.modDom_fwd (d : Nat) (f : Dom → Dom) : (s.modDom d f).fwd = s.fwd := by
  unfold State.modDom; split <;> rfl
@[simp] theorem State.modDom_sched (d : Nat) (f : Dom → Dom) : (s.modDom d f).sched = s.sched := by
  unfold State.modDom; split <;> rfl
@[simp] theorem State.modDom_gnss (d : Nat) (f : Dom → Dom) : (s.modDom d f).gnss = s.gnss := by
  unfold State.modDom; split <;> rfl
@[simp] theorem State.modDom_fleet (d : Nat) (f : Dom → Dom) : (s.modDom d f).fleet = s.fleet := by
  unfold State.modDom; split <;> rfl
@[simp] theorem State.modDom_keys (d : Nat) (f : Dom → Dom) : (s.modDom d f).keys = s.keys := by
  unfold State.modDom; split <;> rfl
@[simp] theorem State.modDom_dbg (d : Nat) (f : Dom → Dom) : (s.modDom d f).dbg = s.dbg := by
  unfold State.modDom; split <;> rfl
@[simp] theorem State.modDom_upd (d : Nat) (f : Dom → Dom) : (s.modDom d f).upd = s.upd := by
  unfold State.modDom; split <;> rfl
@[simp] theorem State.modDom_plank (d : Nat) (f : Dom → Dom) : (s.modDom d f).plank = s.plank := by
  unfold State.modDom; split <;> rfl
@[simp] theorem State.modDom_net (d : Nat) (f : Dom → Dom) : (s.modDom d f).net = s.net := by
  unfold State.modDom; split <;> rfl
@[simp] theorem State.modDom_host (d : Nat) (f : Dom → Dom) : (s.modDom d f).host = s.host := by
  unfold State.modDom; split <;> rfl
@[simp] theorem State.modDom_modeReq (d : Nat) (f : Dom → Dom) : (s.modDom d f).modeReq = s.modeReq := by
  unfold State.modDom; split <;> rfl
@[simp] theorem State.result_pending (c : Fin 8) (r : Fin 16) (v : Word) : (s.result c r v).pending = s.pending := by
  simp [State.result]
@[simp] theorem State.result_free (c : Fin 8) (r : Fin 16) (v : Word) : (s.result c r v).free = s.free := by
  simp [State.result]
@[simp] theorem State.result_clock (c : Fin 8) (r : Fin 16) (v : Word) : (s.result c r v).clock = s.clock := by
  simp [State.result]
@[simp] theorem State.result_bus (c : Fin 8) (r : Fin 16) (v : Word) : (s.result c r v).bus = s.bus := by
  simp [State.result]
@[simp] theorem State.result_regs (c : Fin 8) (r : Fin 16) (v : Word) : (s.result c r v).regs = s.regs := by
  simp [State.result]
@[simp] theorem State.result_mem (c : Fin 8) (r : Fin 16) (v : Word) : (s.result c r v).mem = s.mem := by
  simp [State.result]
@[simp] theorem State.result_time (c : Fin 8) (r : Fin 16) (v : Word) : (s.result c r v).time = s.time := by
  simp [State.result]
@[simp] theorem State.result_rtc (c : Fin 8) (r : Fin 16) (v : Word) : (s.result c r v).rtc = s.rtc := by
  simp [State.result]
@[simp] theorem State.result_power (c : Fin 8) (r : Fin 16) (v : Word) : (s.result c r v).power = s.power := by
  simp [State.result]
@[simp] theorem State.result_rep (c : Fin 8) (r : Fin 16) (v : Word) : (s.result c r v).rep = s.rep := by
  simp [State.result]
@[simp] theorem State.result_qfab (c : Fin 8) (r : Fin 16) (v : Word) : (s.result c r v).qfab = s.qfab := by
  simp [State.result]
@[simp] theorem State.result_rx (c : Fin 8) (r : Fin 16) (v : Word) : (s.result c r v).rx = s.rx := by
  simp [State.result]
@[simp] theorem State.result_tx (c : Fin 8) (r : Fin 16) (v : Word) : (s.result c r v).tx = s.tx := by
  simp [State.result]
@[simp] theorem State.result_mac (c : Fin 8) (r : Fin 16) (v : Word) : (s.result c r v).mac = s.mac := by
  simp [State.result]
@[simp] theorem State.result_fwd (c : Fin 8) (r : Fin 16) (v : Word) : (s.result c r v).fwd = s.fwd := by
  simp [State.result]
@[simp] theorem State.result_sched (c : Fin 8) (r : Fin 16) (v : Word) : (s.result c r v).sched = s.sched := by
  simp [State.result]
@[simp] theorem State.result_gnss (c : Fin 8) (r : Fin 16) (v : Word) : (s.result c r v).gnss = s.gnss := by
  simp [State.result]
@[simp] theorem State.result_fleet (c : Fin 8) (r : Fin 16) (v : Word) : (s.result c r v).fleet = s.fleet := by
  simp [State.result]
@[simp] theorem State.result_keys (c : Fin 8) (r : Fin 16) (v : Word) : (s.result c r v).keys = s.keys := by
  simp [State.result]
@[simp] theorem State.result_dbg (c : Fin 8) (r : Fin 16) (v : Word) : (s.result c r v).dbg = s.dbg := by
  simp [State.result]
@[simp] theorem State.result_upd (c : Fin 8) (r : Fin 16) (v : Word) : (s.result c r v).upd = s.upd := by
  simp [State.result]
@[simp] theorem State.result_plank (c : Fin 8) (r : Fin 16) (v : Word) : (s.result c r v).plank = s.plank := by
  simp [State.result]
@[simp] theorem State.result_net (c : Fin 8) (r : Fin 16) (v : Word) : (s.result c r v).net = s.net := by
  simp [State.result]
@[simp] theorem State.result_host (c : Fin 8) (r : Fin 16) (v : Word) : (s.result c r v).host = s.host := by
  simp [State.result]
@[simp] theorem State.result_modeReq (c : Fin 8) (r : Fin 16) (v : Word) : (s.result c r v).modeReq = s.modeReq := by
  simp [State.result]

end Sys2Proof.Machine
end

