-- ==== Sys2Proof/Laws/Cores.lean ====
section
/-!
SUPPORT. Sys2Proof/Laws/Cores.lean: the cores: what a core reads as after an update of a core, and how an instruction is issued.
-/
namespace Sys2Proof.Machine
variable (s : State)

theorem vector_get_set {α : Type} {n : Nat} (v : Vector α n) (i j : Fin n) (x : α) :
    (v.set i.val x i.isLt).get j = if j = i then x else v.get j := by
  have e : ∀ (w : Vector α n) (k : Fin n), w.get k = w[k.val] := fun _ _ => rfl
  rw [e, e, Vector.getElem_set]
  simp [Fin.ext_iff, eq_comm]

@[simp] theorem State.core_modCore (c k : Fin 8) (f : Core → Core) :
    (s.modCore c f).core k = if k = c then f (s.core c) else s.core k := vector_get_set ..

@[simp] theorem State.core_wr (a : Nat) (v : Word) (k : Fin 8) : (s.wr a v).core k = s.core k := rfl
@[simp] theorem State.core_setFld (a hi lo v : Nat) (k : Fin 8) : (s.setFld a hi lo v).core k = s.core k := rfl
@[simp] theorem State.core_setBit (a i : Nat) (b : Bool) (k : Fin 8) : (s.setBit a i b).core k = s.core k := rfl
@[simp] theorem State.core_setByte (a : Nat) (b : Byte) (k : Fin 8) : (s.setByte a b).core k = s.core k := rfl

theorem State.gpr_zero (c : Fin 8) : s.gpr c 0 = 0 := rfl

/-- A general register after one is written; g0 stays zero (R24). -/
@[simp] theorem State.gpr_setGpr (c k : Fin 8) (r q : Fin 16) (v : Word) :
    (s.setGpr c r v).gpr k q = if k = c ∧ q = r ∧ r ≠ 0 then v else s.gpr k q := by
  by_cases h0 : r = 0
  · simp [State.setGpr, h0]
  · by_cases hq : q = 0
    · have : ¬(q = r) := fun e => h0 (e ▸ hq)
      simp [State.gpr, hq, Ne.symm h0]
    · by_cases hk : k = c
      · subst hk
        by_cases hr : q = r
        · subst hr; simp [State.gpr, State.setGpr, h0, vector_get_set]
        · simp [State.gpr, State.setGpr, h0, hq, hr, vector_get_set]
      · simp [State.gpr, State.setGpr, h0, hq, hk]

theorem State.core_setGpr_pc (c k : Fin 8) (r : Fin 16) (v : Word) : ((s.setGpr c r v).core k).pc = (s.core k).pc := by
  unfold State.setGpr
  split
  · rfl
  · by_cases h : k = c <;> simp [h]

theorem State.core_setGpr_ne (c k : Fin 8) (r : Fin 16) (v : Word) (h : k ≠ c) : (s.setGpr c r v).core k = s.core k := by
  unfold State.setGpr
  split
  · rfl
  · simp [h]

theorem State.core_setGpr_same (c : Fin 8) (r : Fin 16) (v : Word) :
    { (s.setGpr c r v).core c with gpr := (s.core c).gpr } = s.core c := by
  unfold State.setGpr
  split
  · rfl
  · simp

@[simp] theorem State.gpr_advance (c k : Fin 8) (q : Fin 16) : (s.advance c).gpr k q = s.gpr k q := by
  by_cases h : k = c <;> simp [State.gpr, State.advance, h]

@[simp] theorem State.core_advance (c k : Fin 8) :
    (s.advance c).core k = if k = c then { s.core c with pc := (s.core c).pc + 4 } else s.core k :=
  State.core_modCore ..

theorem State.gpr_modCore_pc (c k : Fin 8) (q : Fin 16) (pc : Word) :
    (s.modCore c fun k => { k with pc := pc }).gpr k q = s.gpr k q := by
  by_cases h : k = c <;> simp [State.gpr, h]

/-! ### Issuing -/

/-- An instruction of a core that runs acts on the state it begins in. -/
theorem State.issue_runs (c : Fin 8) (f : State → State) (h : s.runs c = true) : s.issue c f = f (s.begun c) := by
  have h' := Bool.and_eq_true_iff.1 h
  have : fetchable ((s.begun c).core c).pc.toNat = true := by
    unfold State.begun
    split <;> simp [h'.2]
  unfold State.issue
  rw [if_pos h'.1]
  exact if_pos this

/-- An instruction of a core that does not issue changes nothing. -/
theorem State.issue_not (c : Fin 8) (f : State → State) (h : s.issues c = false) : s.issue c f = s := by
  simp [State.issue, h]

@[simp] theorem State.gpr_begun (c k : Fin 8) (q : Fin 16) : (s.begun c).gpr k q = s.gpr k q := by
  unfold State.begun
  split
  · by_cases h : k = c <;> simp [State.gpr, h]
  · rfl

@[simp] theorem State.begun_pc (c : Fin 8) : ((s.begun c).core c).pc = (s.core c).pc := by
  unfold State.begun; split <;> simp

theorem State.begun_core (c : Fin 8) : { (s.begun c).core c with dbgStep := (s.core c).dbgStep } = s.core c := by
  unfold State.begun; split <;> simp

theorem State.begun_cores (c k : Fin 8) (h : k ≠ c) : (s.begun c).core k = s.core k := by
  unfold State.begun; split <;> simp [h]

theorem State.begun_rest (c : Fin 8) : { s.begun c with cores := s.cores } = s := by
  unfold State.begun; split <;> rfl

@[simp] theorem State.begun_regs (c : Fin 8) : (s.begun c).regs = s.regs := by unfold State.begun; split <;> rfl
@[simp] theorem State.begun_rd (c : Fin 8) (a : Nat) : (s.begun c).rd a = s.rd a := by simp [State.rd]
@[simp] theorem State.begun_mem (c : Fin 8) : (s.begun c).mem = s.mem := by unfold State.begun; split <;> rfl

/-! ### Results -/

/-- What writing a register and setting the pc does. -/
theorem State.setGpr_wrote (c : Fin 8) (gd : Fin 16) (v pc : Word) :
    Wrote s (((s.begun c).setGpr c gd v).modCore c fun k => { k with pc := pc }) c gd v pc where
  value := by
    by_cases h : gd = 0
    · subst h; rfl
    · simp [State.gpr_modCore_pc, h]
  others r h := by simp [State.gpr_modCore_pc, h]
  pc := by simp
  core := by
    have := State.core_setGpr_same (s.begun c) c gd v
    have h2 := State.begun_core s c
    rw [← h2]
    conv_rhs => rw [← this]
    simp [State.core_setGpr_pc]
  cores k h := by simp [State.core_setGpr_ne, State.begun_cores, h]
  rest := by
    conv_rhs => rw [← State.begun_rest s c]
    unfold State.setGpr
    split <;> rfl

/-- What writing a result and moving on does. -/
theorem State.result_wrote (c : Fin 8) (gd : Fin 16) (v : Word) : WroteOne s ((s.begun c).result c gd v) c gd v := by
  have h := s.setGpr_wrote c gd v ((s.core c).pc + 4)
  have e : (s.begun c).result c gd v = ((s.begun c).setGpr c gd v).modCore c fun k => { k with pc := (s.core c).pc + 4 } := by
    unfold State.result State.advance State.modCore
    simp [State.core_setGpr_pc]
  exact e ▸ h

/-- What setting the pc does. -/
theorem State.pc_moved (c : Fin 8) (pc : Word) : Moved s ((s.begun c).modCore c fun k => { k with pc := pc }) c pc :=
  s.setGpr_wrote c 0 0 pc

/-- An instruction that only writes a result, carried out by a core that runs. -/
theorem State.issue_result {s : State} {c : Fin 8} {gd : Fin 16} {v : Word} (h : s.runs c = true) (f : State → Word)
    (hv : f (s.begun c) = v) :
    ∃ t, (.next (s.issue c fun s => s.result c gd (f s)) : Host.Outcome State Fault Refusal) = .next t ∧
      WroteOne s t c gd v :=
  ⟨_, congrArg _ (s.issue_runs c _ h), hv ▸ s.result_wrote c gd _⟩

end Sys2Proof.Machine
end

