-- ==== Sys2Proof/Laws/Tables.lean ====
section
/-!
SUPPORT. Sys2Proof/Laws/Tables.lean: the sparse tables: what is read after a write or a drop, and that each keeps the canonical form.
-/
namespace Sys2Proof.Machine
variable {α : Type}

@[simp] theorem tabGet_nil (d : Nat → α) (k : Nat) : tabGet d [] k = d k := rfl

theorem tabGet_tabErase_self (d : Nat → α) (t : Tab α) (k : Nat) : tabGet d (tabErase t k) k = d k := by
  induction t with
  | nil => rfl
  | cons e t ih =>
    obtain ⟨i, w⟩ := e
    by_cases h : i = k
    · simpa [tabErase, List.filter_cons, h] using ih
    · simpa [tabErase, List.filter_cons, h, tabGet] using ih

theorem tabGet_tabErase_of_ne (d : Nat → α) (t : Tab α) {k j : Nat} (h : j ≠ k) :
    tabGet d (tabErase t k) j = tabGet d t j := by
  induction t with
  | nil => rfl
  | cons e t ih =>
    obtain ⟨i, w⟩ := e
    by_cases hi : i = k
    · have : i ≠ j := fun e => h (e ▸ hi ▸ rfl)
      simpa [tabErase, List.filter_cons, hi, tabGet, Ne.symm h] using ih
    · by_cases hj : i = j
      · simp [tabErase, tabGet, hj, h]
      · simpa [tabErase, List.filter_cons, hi, tabGet, hj] using ih

theorem tabGet_tabPut (d : Nat → α) (t : Tab α) (k j : Nat) (v : α) :
    tabGet d (tabPut t k v) j = if j = k then v else tabGet d t j := by
  induction t with
  | nil => simp [tabPut, tabGet, @eq_comm _ k j]
  | cons e t ih =>
    obtain ⟨i, w⟩ := e
    unfold tabPut
    split
    · simp [tabGet, @eq_comm _ k j]
    · split
      · next h => subst h; by_cases h : k = j <;> simp [tabGet, h, @eq_comm _ j k]
      · next h =>
        by_cases hj : i = j
        · have : j ≠ k := fun e => h (by omega)
          simp [tabGet, hj, this]
        · simp [tabGet, hj, ih]

/-- A read after a write: the value written at its index, and every other index as before. -/
theorem tabGet_tabSet [DecidableEq α] (d : Nat → α) (t : Tab α) (k j : Nat) (v : α) :
    tabGet d (tabSet d t k v) j = if j = k then v else tabGet d t j := by
  unfold tabSet
  split
  · by_cases h : j = k
    · subst h; simp [tabGet_tabErase_self, *]
    · simp [tabGet_tabErase_of_ne, h]
  · exact tabGet_tabPut d t k j v

/-- A read after a drop: unlisted where dropped, else as before. -/
theorem tabGet_tabDrop (d : Nat → α) (p : Nat → Bool) (t : Tab α) (j : Nat) :
    tabGet d (tabDrop p t) j = if p j then d j else tabGet d t j := by
  induction t with
  | nil => simp [tabDrop]
  | cons e t ih =>
    obtain ⟨i, w⟩ := e
    by_cases hp : p i
    · by_cases hj : i = j
      · subst hj; simpa [tabDrop, List.filter_cons, hp] using ih
      · simpa [tabDrop, List.filter_cons, hp, tabGet, hj] using ih
    · by_cases hj : i = j
      · subst hj; simp [tabDrop, hp, tabGet]
      · simpa [tabDrop, List.filter_cons, hp, tabGet, hj] using ih

/-! ### The canonical form -/

/-- Rising indices, as a pairwise relation. -/
theorem tabRising_iff (t : Tab α) : tabRising t = true ↔ t.Pairwise fun a b => a.1 < b.1 := by
  induction t with
  | nil => simp [tabRising]
  | cons a t ih =>
    cases t with
    | nil => simp [tabRising]
    | cons b t =>
      rw [tabRising, Bool.and_eq_true, ih, decide_eq_true_iff, List.pairwise_cons (a := a)]
      constructor
      · rintro ⟨h, hp⟩
        refine ⟨fun c hc => ?_, hp⟩
        rcases List.mem_cons.1 hc with rfl | hc
        · exact h
        · exact Nat.lt_trans h ((List.pairwise_cons.1 hp).1 c hc)
      · rintro ⟨h, hp⟩
        exact ⟨h b (List.mem_cons_self ..), hp⟩

theorem tabWf_iff [DecidableEq α] (d : Nat → α) (t : Tab α) :
    tabWf d t = true ↔ t.Pairwise (fun a b => a.1 < b.1) ∧ ∀ e ∈ t, e.2 ≠ d e.1 := by
  simp [tabWf, tabRising_iff]

/-- A filtered table stays canonical. -/
theorem tabWf_filter [DecidableEq α] {d : Nat → α} {t : Tab α} (p : Nat × α → Bool) (h : tabWf d t = true) :
    tabWf d (t.filter p) = true := by
  rw [tabWf_iff] at *
  exact ⟨h.1.filter p, fun e he => h.2 e (List.mem_filter.1 he).1⟩

theorem mem_tabPut {t : Tab α} {k : Nat} {v : α} {e : Nat × α} (h : e ∈ tabPut t k v) : e = (k, v) ∨ e ∈ t := by
  induction t with
  | nil => simpa [tabPut] using h
  | cons a t ih =>
    obtain ⟨i, w⟩ := a
    unfold tabPut at h
    split at h
    · simpa using h
    · split at h
      · rcases List.mem_cons.1 h with h | h
        · exact .inl h
        · exact .inr (List.mem_cons_of_mem _ h)
      · rcases List.mem_cons.1 h with h | h
        · exact .inr (h ▸ List.mem_cons_self ..)
        · exact (ih h).imp id (List.mem_cons_of_mem _)

theorem tabPut_pairwise {t : Tab α} (k : Nat) (v : α) (h : t.Pairwise fun a b => a.1 < b.1) :
    (tabPut t k v).Pairwise fun a b => a.1 < b.1 := by
  induction t with
  | nil => simp [tabPut]
  | cons a t ih =>
    obtain ⟨i, w⟩ := a
    have hp := List.pairwise_cons.1 h
    unfold tabPut
    split
    · next hk =>
      refine List.pairwise_cons.2 ⟨fun e he => ?_, h⟩
      rcases List.mem_cons.1 he with rfl | he
      · exact hk
      · exact Nat.lt_trans hk (hp.1 e he)
    · split
      · next hk => subst hk; exact List.pairwise_cons.2 ⟨hp.1, hp.2⟩
      · next h1 h2 =>
        refine List.pairwise_cons.2 ⟨fun e he => ?_, ih hp.2⟩
        rcases mem_tabPut he with rfl | he
        · show i < k
          omega
        · exact hp.1 e he

/-- A write keeps the canonical form. -/
theorem tabWf_tabSet [DecidableEq α] {d : Nat → α} {t : Tab α} (k : Nat) (v : α) (h : tabWf d t = true) :
    tabWf d (tabSet d t k v) = true := by
  unfold tabSet
  split
  · exact tabWf_filter _ h
  · next hv =>
    rw [tabWf_iff] at *
    refine ⟨tabPut_pairwise k v h.1, fun e he => ?_⟩
    rcases mem_tabPut he with rfl | he
    · exact hv
    · exact h.2 e he

/-- A drop keeps the canonical form. -/
theorem tabWf_tabDrop [DecidableEq α] {d : Nat → α} {t : Tab α} (p : Nat → Bool) (h : tabWf d t = true) :
    tabWf d (tabDrop p t) = true := tabWf_filter _ h

end Sys2Proof.Machine
end

