-- ==== Sys2Proof/Laws/Memory.lean ====
section
/-!
SUPPORT. Sys2Proof/Laws/Memory.lean: the byte memory: what is read after a store, and that every operation keeps the canonical form.
-/
namespace Sys2Proof.Machine
variable (s : State)

/-- A byte read after a byte is stored. -/
@[simp] theorem State.byte_setByte (a b : Nat) (v : Byte) : (s.setByte a v).byte b = if b = a then v else s.byte b :=
  tabGet_tabSet memDefault s.mem a b v

/-- A store of `n` octets reaches those octets only. -/
theorem State.byte_storeN_outside (n a v b : Nat) (h : b < a ∨ a + n ≤ b) : (s.storeN a v n).byte b = s.byte b := by
  induction n generalizing s a v with
  | zero => rfl
  | succ n ih =>
    rw [State.storeN, ih _ _ _ (by omega), State.byte_setByte, if_neg (by omega)]

/-- Each octet of a store: the octets of the number, the least significant at the lowest address (R447). -/
theorem State.byte_storeN (n a v i : Nat) (h : i < n) :
    (s.storeN a v n).byte (a + i) = BitVec.ofNat 8 (v / 256 ^ i) := by
  induction n generalizing s a v i with
  | zero => omega
  | succ n ih =>
    cases i with
    | zero => rw [State.storeN, State.byte_storeN_outside _ _ _ _ _ (by omega)]; simp
    | succ i =>
      rw [State.storeN, show a + (i + 1) = a + 1 + i by omega, ih _ _ _ _ (by omega), Nat.pow_succ', Nat.div_div_eq_div_mul]

/-- A load of `n` octets after a store of them reads the number, cut to its width. -/
theorem State.loadN_storeN (n a v : Nat) : (s.storeN a v n).loadN a n = v % 256 ^ n := by
  suffices h : ∀ (m i : Nat), i + m = n → (s.storeN a v n).loadN (a + i) m = v / 256 ^ i % 256 ^ m by
    simpa using h n 0 (by omega)
  intro m
  induction m with
  | zero => intro i _; simp [State.loadN, Nat.mod_one]
  | succ m ih =>
    intro i hi
    have e : v / 256 ^ (i + 1) = v / 256 ^ i / 256 := by rw [Nat.pow_succ, Nat.div_div_eq_div_mul]
    rw [State.loadN, State.byte_storeN _ _ _ _ _ (by omega), show a + i + 1 = a + (i + 1) by omega, ih (i + 1) (by omega), e,
      BitVec.toNat_ofNat, show (2 : Nat) ^ 8 = 256 from rfl, Nat.pow_succ' (n := m), Nat.mod_mul]

/-- A word read after it is stored. -/
theorem State.ldw_stw (a : Nat) (v : Word) : (s.stw a v).ldw a = v := by
  rw [State.ldw, State.stw, State.loadN_storeN, word]
  apply BitVec.eq_of_toNat_eq
  simp only [BitVec.toNat_ofNat]
  have := v.isLt
  omega

/-! ### The canonical form -/

theorem State.setByte_wf {s : State} (a : Nat) (v : Byte) (h : Memory.wf s.mem = true) :
    Memory.wf (s.setByte a v).mem = true := tabWf_tabSet a v h

theorem State.storeN_wf {s : State} (n a v : Nat) (h : Memory.wf s.mem = true) : Memory.wf (s.storeN a v n).mem = true := by
  induction n generalizing s a v with
  | zero => exact h
  | succ n ih => exact ih _ _ (State.setByte_wf _ _ h)

theorem State.stw_wf {s : State} (a : Nat) (v : Word) (h : Memory.wf s.mem = true) : Memory.wf (s.stw a v).mem = true :=
  State.storeN_wf _ _ _ h

theorem State.putOctets_wf {s : State} (l : List Byte) (a : Nat) (h : Memory.wf s.mem = true) :
    Memory.wf (s.putOctets a l).mem = true := by
  induction l generalizing s a with
  | nil => exact h
  | cons b l ih => exact ih _ (State.setByte_wf _ _ h)

theorem State.putOctetsBut_wf {s : State} (k : Nat → Bool) (l : List Byte) (a : Nat) (h : Memory.wf s.mem = true) :
    Memory.wf (s.putOctetsBut k a l).mem = true := by
  induction l generalizing s a with
  | nil => exact h
  | cons b l ih =>
    refine ih _ ?_
    split
    · exact h
    · exact State.setByte_wf _ _ h

theorem State.putWords_wf {s : State} (l : List Word) (a : Nat) (h : Memory.wf s.mem = true) :
    Memory.wf (s.putWords a l).mem = true := by
  induction l generalizing s a with
  | nil => exact h
  | cons w l ih => exact ih _ (State.stw_wf _ _ h)

theorem State.dropMem_wf {s : State} (lo hi : Nat) (h : Memory.wf s.mem = true) : Memory.wf (s.dropMem lo hi).mem = true :=
  tabWf_tabDrop (fun a => decide (lo ≤ a ∧ a < hi)) h

theorem State.dmaWrite_wf {s : State} (a : Nat) (l : List Byte) (h : Memory.wf s.mem = true) :
    Memory.wf (s.dmaWrite a l).mem = true := by
  unfold State.dmaWrite
  split
  · exact State.putOctetsBut_wf _ _ _ h
  · exact State.putOctets_wf _ _ h

/-- Memory after reset is in canonical form. -/
theorem State.reset_wf : Memory.wf State.reset.mem = true := rfl

end Sys2Proof.Machine
end

