-- ==== Sys2Proof/Laws/Regs.lean ====
section
/-!
SUPPORT. Sys2Proof/Laws/Regs.lean: bit fields and registers: what a field reads as after a field, a bit or a register is written.
-/
namespace Sys2Proof.Machine

/-! ### Fields of a word -/

theorem bits_testBit (w : Word) (hi lo i : Nat) :
    (bits w hi lo).testBit i = (decide (i < hi - lo + 1) && w.getLsbD (lo + i)) := by
  simp [bits, Nat.testBit_mod_two_pow, Nat.testBit_div_two_pow, BitVec.getLsbD, Nat.add_comm]

theorem bits_lt (w : Word) (hi lo : Nat) : bits w hi lo < 2 ^ (hi - lo + 1) := Nat.mod_lt _ (Nat.two_pow_pos _)

/-- A bit of a word with a field replaced: the value's inside the field, the word's outside. -/
theorem getLsbD_putBits (w : Word) (hi lo v j : Nat) (hj : j < 32) (hl : lo ≤ hi) :
    (putBits w hi lo v).getLsbD j = if lo ≤ j ∧ j ≤ hi then v.testBit (j - lo) else w.getLsbD j := by
  have e : ∀ n : Nat, (n * 2 ^ lo).testBit j = (decide (lo ≤ j) && n.testBit (j - lo)) := fun n => by
    rw [← Nat.shiftLeft_eq, Nat.testBit_shiftLeft]
  have c : lo ≤ j → ((j - lo < hi - lo + 1) ↔ j ≤ hi) := by omega
  simp only [putBits, BitVec.getLsbD_or, BitVec.getLsbD_and, BitVec.getLsbD_not, BitVec.getLsbD_ofNat, hj, decide_true,
    Bool.true_and, e, Nat.testBit_two_pow_sub_one, Nat.testBit_mod_two_pow]
  by_cases h1 : lo ≤ j
  · by_cases h2 : j ≤ hi <;> simp [h1, h2, c h1]
  · simp [h1]

/-- A field reads what was put into it. -/
theorem bits_putBits_self (w : Word) (hi lo v : Nat) (hl : lo ≤ hi) (hh : hi < 32) :
    bits (putBits w hi lo v) hi lo = v % 2 ^ (hi - lo + 1) := by
  apply Nat.eq_of_testBit_eq
  intro i
  rw [bits_testBit, Nat.testBit_mod_two_pow]
  by_cases h : i < hi - lo + 1
  · rw [getLsbD_putBits _ _ _ _ _ (by omega) hl]
    have : lo ≤ lo + i ∧ lo + i ≤ hi := by omega
    simp [h, this]
  · simp [h]

/-- A field reads as before when another, disjoint from it, is put. -/
theorem bits_putBits_other (w : Word) (hi lo v h l : Nat) (hl : lo ≤ hi) (hh : h < 32) (ll : l ≤ h)
    (dis : h < lo ∨ hi < l) : bits (putBits w hi lo v) h l = bits w h l := by
  apply Nat.eq_of_testBit_eq
  intro i
  rw [bits_testBit, bits_testBit]
  by_cases hi' : i < h - l + 1
  · rw [getLsbD_putBits _ _ _ _ _ (by omega) hl]
    have : ¬(lo ≤ l + i ∧ l + i ≤ hi) := by omega
    simp [this]
  · simp [hi']

theorem bitAt_putBits (w : Word) (hi lo v i : Nat) (hl : lo ≤ hi) (hi' : i < 32) :
    bitAt (putBits w hi lo v) i = if lo ≤ i ∧ i ≤ hi then v.testBit (i - lo) else bitAt w i :=
  getLsbD_putBits w hi lo v i hi' hl

theorem b2n_testBit (b : Bool) : (b2n b).testBit 0 = b := by cases b <;> rfl

/-! ### Registers -/

variable (s : State)

/-- A register read after a register is written (R5). -/
@[simp] theorem State.rd_wr (a b : Nat) (v : Word) : (s.wr a v).rd b = if b = a then v else s.rd b :=
  tabGet_tabSet regReset s.regs a b v

theorem State.rd_setFld (a hi lo v b : Nat) :
    (s.setFld a hi lo v).rd b = if b = a then putBits (s.rd a) hi lo v else s.rd b := State.rd_wr ..

theorem State.rd_setBit (a i b : Nat) (x : Bool) :
    (s.setBit a i x).rd b = if b = a then putBits (s.rd a) i i (b2n x) else s.rd b := State.rd_wr ..

/-- A field reads what was written to it, cut to its width. -/
theorem State.fld_setFld_self (a hi lo v : Nat) (hl : lo ≤ hi) (hh : hi < 32) :
    (s.setFld a hi lo v).fld a hi lo = v % 2 ^ (hi - lo + 1) := by
  simp [State.fld, State.rd_setFld, bits_putBits_self, hl, hh]

theorem State.fld_setFld_other (a hi lo v b h l : Nat) (hl : lo ≤ hi) (hh : h < 32) (ll : l ≤ h)
    (dis : b ≠ a ∨ h < lo ∨ hi < l) : (s.setFld a hi lo v).fld b h l = s.fld b h l := by
  by_cases e : b = a
  · subst e
    simp [State.fld, State.rd_setFld, bits_putBits_other _ _ _ _ _ _ hl hh ll (dis.resolve_left (fun h => h rfl))]
  · simp [State.fld, State.rd_setFld, e]

theorem State.bit_setBit_self (a i : Nat) (x : Bool) (hi : i < 32) : (s.setBit a i x).bit a i = x := by
  rw [State.bit, State.rd_setBit, if_pos rfl, bitAt_putBits _ _ _ _ _ (Nat.le_refl i) hi]
  rw [if_pos ⟨Nat.le_refl i, Nat.le_refl i⟩, Nat.sub_self, b2n_testBit]

theorem State.bit_setBit_other (a i b j : Nat) (x : Bool) (hj : j < 32) (dis : b ≠ a ∨ j ≠ i) :
    (s.setBit a i x).bit b j = s.bit b j := by
  by_cases e : b = a
  · subst e
    have : ¬(i ≤ j ∧ j ≤ i) := fun h => (dis.resolve_left (fun h => h rfl)) (Nat.le_antisymm h.2 h.1)
    simp [State.bit, State.rd_setBit, bitAt_putBits _ _ _ _ _ (Nat.le_refl i) hj, this]
  · simp [State.bit, State.rd_setBit, e]

/-! ### Counters -/

/-- A saturating counter after `n` more. -/
theorem State.fld_count_self (a hi lo n : Nat) (hl : lo ≤ hi) (hh : hi < 32) :
    (s.count a hi lo n).fld a hi lo = min (s.fld a hi lo + n) (2 ^ (hi - lo + 1) - 1) := by
  rw [State.count, State.fld_setFld_self _ _ _ _ _ hl hh]
  apply Nat.mod_eq_of_lt
  have := Nat.two_pow_pos (hi - lo + 1)
  omega

/-! ### Reset of a range -/

/-- A register of a range that is reset: at its reset value unless it is kept (R319, R409). -/
theorem State.rd_resetRange (lo hi a : Nat) :
    (s.resetRange lo hi).rd a =
      if (decide (lo ≤ a ∧ a < hi) && !regKept a) = true then regReset a else s.rd a :=
  tabGet_tabDrop regReset (fun a => decide (lo ≤ a ∧ a < hi) && !regKept a) s.regs a

end Sys2Proof.Machine
end

