-- ==== Sys2Proof/Laws/Signals.lean ====
section
/-!
SUPPORT. Sys2Proof/Laws/Signals.lean: events, records, wakes and host interrupts change only what tells of them.
-/
namespace Sys2Proof.Machine

namespace Signals

theorem refl (s : State) : Signals s s := ⟨rfl, rfl, rfl, fun _ => rfl, fun _ _ => rfl⟩

theorem trans {s t u : State} (h : Signals s t) (g : Signals t u) : Signals s u where
  rest := by
    have a := h.rest; have b := g.rest
    rw [← b] at a; exact a
  power := by
    have a := h.power; have b := g.power
    rw [← b] at a; exact a
  rep := by
    have a := h.rep; have b := g.rep
    rw [← b] at a; exact a
  cores k := by
    have a := h.cores k; have b := g.cores k
    rw [← b] at a; exact a
  regs a ha := (g.regs a ha).trans (h.regs a ha)

theorem gpr {s t : State} (h : Signals s t) (c : Fin 8) (r : Fin 16) : t.gpr c r = s.gpr c r := by
  have e : (t.core c).gpr = (s.core c).gpr := by rw [← h.cores c]
  simp [State.gpr, e]

theorem pc {s t : State} (h : Signals s t) (c : Fin 8) : (t.core c).pc = (s.core c).pc := by rw [← h.cores c]

theorem lastev {s t : State} (h : Signals s t) (c : Fin 8) : (t.core c).lastev = (s.core c).lastev := by rw [← h.cores c]

theorem level {s t : State} (h : Signals s t) (c : Fin 8) : (t.core c).level = (s.core c).level := by rw [← h.cores c]

theorem mem {s t : State} (h : Signals s t) : t.mem = s.mem := by rw [← h.rest]

theorem byte {s t : State} (h : Signals s t) (a : Nat) : t.byte a = s.byte a := by simp [State.byte, h.mem]

theorem pending {s t : State} (h : Signals s t) : t.pending = s.pending := by rw [← h.rest]

theorem clock {s t : State} (h : Signals s t) : t.clock = s.clock := by rw [← h.rest]

theorem fld {s t : State} (h : Signals s t) (a hi lo : Nat) (ha : signalBlock a = false) : t.fld a hi lo = s.fld a hi lo := by
  simp [State.fld, h.regs a ha]

theorem bit {s t : State} (h : Signals s t) (a i : Nat) (ha : signalBlock a = false) : t.bit a i = s.bit a i := by
  simp [State.bit, h.regs a ha]

variable {s t : State}

/-- A register of a block that tells, written. -/
theorem wr (h : Signals s t) (a : Nat) (v : Word) (ha : signalBlock a = true) : Signals s (t.wr a v) :=
  h.trans ⟨rfl, rfl, rfl, fun _ => rfl, fun b hb => by
    rw [State.rd_wr, if_neg]
    rintro rfl
    simp [ha] at hb⟩

theorem setFld (h : Signals s t) (a hi lo v : Nat) (ha : signalBlock a = true) : Signals s (t.setFld a hi lo v) := h.wr a _ ha
theorem setBit (h : Signals s t) (a i : Nat) (b : Bool) (ha : signalBlock a = true) : Signals s (t.setBit a i b) := h.wr a _ ha
theorem bump (h : Signals s t) (a hi lo : Nat) (ha : signalBlock a = true) : Signals s (t.bump a hi lo) := h.wr a _ ha

/-- The recorder's queues changed. -/
theorem report (h : Signals s t) (r : ReportSt)
    (hr : { r with queue := t.rep.queue, aon := t.rep.aon, rates := t.rep.rates } = t.rep) :
    Signals s { t with rep := r } := h.trans ⟨rfl, rfl, hr, fun _ => rfl, fun _ _ => rfl⟩

/-- A domain changed. -/
theorem modDom (h : Signals s t) (d : Nat) (f : Dom → Dom) : Signals s (t.modDom d f) := by
  unfold State.modDom
  split
  · exact h
  · exact h.trans ⟨rfl, rfl, rfl, fun _ => rfl, fun _ _ => rfl⟩

/-- A core changed in its event lines only. -/
theorem modCore (h : Signals s t) (c : Fin 8) (f : Core → Core)
    (hf : ∀ k, { f k with run := k.run, evpend := k.evpend, arrival := k.arrival, held := k.held } = k) :
    Signals s (t.modCore c f) :=
  h.trans ⟨rfl, rfl, rfl, fun k => by
    by_cases e : k = c
    · subst e; simp [hf]
    · simp [e], fun _ _ => rfl⟩

/-- One or the other. -/
theorem ite {p : Prop} [Decidable p] {t u : State} (ht : p → Signals s t) (hu : ¬p → Signals s u) :
    Signals s (if p then t else u) := by
  split
  · exact ht ‹_›
  · exact hu ‹_›

/-- Signals one after the other over a list. -/
theorem foldl {α : Type} {s t : State} (h : Signals s t) (f : State → α → State) (l : List α)
    (hf : ∀ u, ∀ a ∈ l, Signals u (f u a)) : Signals s (l.foldl f t) := by
  induction l generalizing t with
  | nil => exact h
  | cons a l ih => exact ih (h.trans (hf t a (List.mem_cons_self ..))) fun u b hb => hf u b (List.mem_cons_of_mem _ hb)

end Signals

variable {s t : State}

theorem State.lose_signals (h : Signals s t) (code : BitVec 16) : Signals s (t.lose code) := by
  apply h.bump
  have h : lostIndex code ≤ 8 := Nat.min_le_right ..
  generalize lostIndex code = k at h
  interval_cases k <;> rfl

theorem State.enqueue_signals (h : Signals s t) (r : LogRec) : Signals s (t.enqueue r) := by
  simp only [State.enqueue]
  split
  · exact State.lose_signals h _
  · split
    · refine Signals.setFld ?_ _ _ _ _ rfl
      refine Signals.setFld ?_ _ _ _ _ rfl
      refine Signals.wr ?_ _ _ rfl
      exact h.report _ rfl
    · exact State.lose_signals h _

theorem State.log_signals (h : Signals s t) (r : LogRec) : Signals s (t.log r) := by
  unfold State.log
  split
  · exact State.enqueue_signals h _
  · split
    · exact h.report _ rfl
    · exact State.lose_signals h _

/-- A record changes only what tells of it. -/
theorem State.record_signals (h : Signals s t) (src : Nat) (code : BitVec 16) (a0 a1 a2 : Word) :
    Signals s (t.record src code a0 a1 a2) := State.log_signals h _

/-- A rate-limited record changes only what tells of it. -/
theorem State.rated_signals (h : Signals s t) (src : Nat) (code : BitVec 16) (key : Nat) (a0 a1 a2 : Word) (cnt : Bool) :
    Signals s (t.rated src code key a0 a1 a2 cnt) := by
  simp only [State.rated]
  split
  · exact h.report _ rfl
  · refine State.log_signals ?_ _
    exact h.report _ rfl

theorem signalBlock_pwr {a : Nat} (h : a / 0x10000 = 0x4001) : signalBlock a = true := by simp [signalBlock, h]

theorem State.noteRefusal_signals (h : Signals s t) (d block reason kind : Nat) (hd : d < 15) :
    Signals s (t.noteRefusal d block reason kind) := by
  have h1 : signalBlock (PWR_DOMd_LAST d) = true := signalBlock_pwr (by unfold PWR_DOMd_LAST; omega)
  have h2 : signalBlock (PWR_DOMd_LSEC d) = true := signalBlock_pwr (by unfold PWR_DOMd_LSEC; omega)
  have h3 : signalBlock (PWR_DOMd_LGRN d) = true := signalBlock_pwr (by unfold PWR_DOMd_LGRN; omega)
  have h4 : signalBlock (PWR_DOMd_CNT d) = true := signalBlock_pwr (by unfold PWR_DOMd_CNT; omega)
  have h5 : signalBlock (PWR_DOMd_OVR d) = true := signalBlock_pwr (by unfold PWR_DOMd_OVR; omega)
  have g := ((h.wr (PWR_DOMd_LAST d) (putBits (putBits (putBits (putBits 0 31 24 block) 23 16 reason) 15 14 kind) 13 13
    (b2n t.stamp.2.2)) h1).wr (PWR_DOMd_LSEC d) t.stamp.1 h2).wr (PWR_DOMd_LGRN d) t.stamp.2.1 h3
  simp only [State.noteRefusal]
  split
  · exact State.rated_signals (g.bump _ _ _ h4) ..
  · exact State.rated_signals (g.bump _ _ _ h4) ..
  · exact (g.bump _ _ _ h5).setBit _ _ _ rfl

theorem vget_replicate_hold (s : State) (d : Nat) (h : ((s.dom d).hold).isSome = true) : d < 15 := by
  by_contra hd
  have : (s.dom d).hold = none := by
    unfold State.dom vget
    simp [Vector.getD, Array.getD, show ¬ d < 15 from hd]
  rw [this] at h
  exact absurd h (by decide)

theorem State.startOn_signals (h : Signals s t) (d req : Nat) : Signals s (t.startOn d req) := by
  simp only [State.startOn]
  apply Signals.modDom
  split
  · next hh => exact State.noteRefusal_signals h _ _ _ _ (vget_replicate_hold t d hh)
  · exact h

theorem State.noteWake_signals (h : Signals s t) (src detail first : Nat) : Signals s (t.noteWake src detail first) :=
  ((h.wr PWR_WAKESRC _ rfl).wr PWR_WAKESEC _ rfl).wr PWR_WAKEGRN _ rfl

theorem wakeOne_signals (exempt : Bool) (req : Nat) (a : WakeRun) (d : Nat) (h : Signals s a.1) :
    Signals s (wakeOne exempt req a d).1 := by
  simp only [wakeOne]
  repeat' split
  · exact h
  · exact State.startOn_signals h _ _
  · exact h
  · exact h
  · exact h
  · exact h.setBit _ _ _ rfl
  · exact h.foldl _ _ fun u e _ => State.startOn_signals (Signals.refl u) _ _

/-- A wake changes only what tells of it, and the domains. -/
theorem State.wakeOff_signals (h : Signals s t) (src detail : Nat) (doms : List Nat) (req : Nat) :
    Signals s (t.wakeOff src detail doms req) := by
  have g : ∀ (l : List Nat) (a : WakeRun), Signals s a.1 →
      Signals s (l.foldl (wakeOne (src == 7 || src == 8) req) a).1 := by
    intro l
    induction l with
    | nil => exact fun _ h => h
    | cons d l ih => exact fun a ha => ih _ (wakeOne_signals _ _ a d ha)
  have := g doms (t, none, false) h
  simp only [State.wakeOff]
  split
  · exact State.noteWake_signals this _ _ _
  · exact this

/-- An event line raised changes only what tells of it. -/
theorem State.deliver_signals (h : Signals s t) (c : Fin 8) (line : Fin 32) : Signals s (t.deliver c line) := by
  have ho : signalBlock (SEQ_EVOVRn c.val) = true := by
    have := c.isLt
    simp only [signalBlock, SEQ_EVOVRn]
    rw [show (0x40040010 + 0x40 * c.val) / 0x10000 = 0x4004 by omega]; rfl
  simp only [State.deliver]
  split
  · split
    · exact h.setBit _ _ _ ho
    · exact h.modCore _ _ fun _ => rfl
  · split
    · exact h.setBit _ _ _ ho
    · split
      · refine State.wakeOff_signals ?_ ..
        exact h.modCore _ _ fun _ => rfl
      · exact h.modCore _ _ fun _ => rfl

/-- An event changes only what tells of it. -/
theorem State.raise_signals (h : Signals s t) (block event : Nat) : Signals s (t.raise block event) := by
  simp only [State.raise]
  split
  · exact h
  · refine h.foldl _ _ fun u c _ => (Signals.refl u).foldl _ _ fun v m _ => ?_
    split
    · exact State.deliver_signals (Signals.refl v) _ _
    · exact Signals.refl v

theorem State.wake_signals (h : Signals s t) (src detail : Nat) (doms : List Nat) (req : Nat) :
    Signals s (t.wake src detail doms req) := by
  simp only [State.wake]
  exact (State.wakeOff_signals h ..).foldl _ _ fun u _ _ => State.raise_signals (Signals.refl u) _ _

theorem State.hostIrq_signals (h : Signals s t) (src : Nat) : Signals s (t.hostIrq src) := by
  unfold State.hostIrq
  split
  · exact h.setBit _ _ _ rfl
  · exact h

end Sys2Proof.Machine
end

