-- ==== Sys2Proof/Laws/Told.lean ====
section
/-!
SUPPORT. Sys2Proof/Laws/Told.lean: what an event, a record, a wake or a host interrupt leaves as it was, one lemma for each part of
the state.
-/
namespace Sys2Proof.Machine

variable {s t : State}

theorem Signals.free (h : Signals s t) : t.free = s.free := by rw [← h.rest]
theorem Signals.bus (h : Signals s t) : t.bus = s.bus := by rw [← h.rest]
theorem Signals.time (h : Signals s t) : t.time = s.time := by rw [← h.rest]
theorem Signals.rtc (h : Signals s t) : t.rtc = s.rtc := by rw [← h.rest]
theorem Signals.qfab (h : Signals s t) : t.qfab = s.qfab := by rw [← h.rest]
theorem Signals.rx (h : Signals s t) : t.rx = s.rx := by rw [← h.rest]
theorem Signals.tx (h : Signals s t) : t.tx = s.tx := by rw [← h.rest]
theorem Signals.mac (h : Signals s t) : t.mac = s.mac := by rw [← h.rest]
theorem Signals.fwd (h : Signals s t) : t.fwd = s.fwd := by rw [← h.rest]
theorem Signals.sched (h : Signals s t) : t.sched = s.sched := by rw [← h.rest]
theorem Signals.gnss (h : Signals s t) : t.gnss = s.gnss := by rw [← h.rest]
theorem Signals.fleet (h : Signals s t) : t.fleet = s.fleet := by rw [← h.rest]
theorem Signals.keys (h : Signals s t) : t.keys = s.keys := by rw [← h.rest]
theorem Signals.dbg (h : Signals s t) : t.dbg = s.dbg := by rw [← h.rest]
theorem Signals.upd (h : Signals s t) : t.upd = s.upd := by rw [← h.rest]
theorem Signals.plank (h : Signals s t) : t.plank = s.plank := by rw [← h.rest]
theorem Signals.net (h : Signals s t) : t.net = s.net := by rw [← h.rest]
theorem Signals.host (h : Signals s t) : t.host = s.host := by rw [← h.rest]
theorem Signals.modeReq (h : Signals s t) : t.modeReq = s.modeReq := by rw [← h.rest]

variable (s)

/-! ### record -/

@[simp] theorem State.record_pending (src : Nat) (code : BitVec 16) (a0 a1 a2 : Word) :
    (s.record src code a0 a1 a2).pending = s.pending := Signals.pending (State.record_signals (Signals.refl s) src code a0 a1 a2)
@[simp] theorem State.record_free (src : Nat) (code : BitVec 16) (a0 a1 a2 : Word) :
    (s.record src code a0 a1 a2).free = s.free := Signals.free (State.record_signals (Signals.refl s) src code a0 a1 a2)
@[simp] theorem State.record_clock (src : Nat) (code : BitVec 16) (a0 a1 a2 : Word) :
    (s.record src code a0 a1 a2).clock = s.clock := Signals.clock (State.record_signals (Signals.refl s) src code a0 a1 a2)
@[simp] theorem State.record_bus (src : Nat) (code : BitVec 16) (a0 a1 a2 : Word) :
    (s.record src code a0 a1 a2).bus = s.bus := Signals.bus (State.record_signals (Signals.refl s) src code a0 a1 a2)
@[simp] theorem State.record_mem (src : Nat) (code : BitVec 16) (a0 a1 a2 : Word) :
    (s.record src code a0 a1 a2).mem = s.mem := Signals.mem (State.record_signals (Signals.refl s) src code a0 a1 a2)
@[simp] theorem State.record_time (src : Nat) (code : BitVec 16) (a0 a1 a2 : Word) :
    (s.record src code a0 a1 a2).time = s.time := Signals.time (State.record_signals (Signals.refl s) src code a0 a1 a2)
@[simp] theorem State.record_rtc (src : Nat) (code : BitVec 16) (a0 a1 a2 : Word) :
    (s.record src code a0 a1 a2).rtc = s.rtc := Signals.rtc (State.record_signals (Signals.refl s) src code a0 a1 a2)
@[simp] theorem State.record_qfab (src : Nat) (code : BitVec 16) (a0 a1 a2 : Word) :
    (s.record src code a0 a1 a2).qfab = s.qfab := Signals.qfab (State.record_signals (Signals.refl s) src code a0 a1 a2)
@[simp] theorem State.record_rx (src : Nat) (code : BitVec 16) (a0 a1 a2 : Word) :
    (s.record src code a0 a1 a2).rx = s.rx := Signals.rx (State.record_signals (Signals.refl s) src code a0 a1 a2)
@[simp] theorem State.record_tx (src : Nat) (code : BitVec 16) (a0 a1 a2 : Word) :
    (s.record src code a0 a1 a2).tx = s.tx := Signals.tx (State.record_signals (Signals.refl s) src code a0 a1 a2)
@[simp] theorem State.record_mac (src : Nat) (code : BitVec 16) (a0 a1 a2 : Word) :
    (s.record src code a0 a1 a2).mac = s.mac := Signals.mac (State.record_signals (Signals.refl s) src code a0 a1 a2)
@[simp] theorem State.record_fwd (src : Nat) (code : BitVec 16) (a0 a1 a2 : Word) :
    (s.record src code a0 a1 a2).fwd = s.fwd := Signals.fwd (State.record_signals (Signals.refl s) src code a0 a1 a2)
@[simp] theorem State.record_sched (src : Nat) (code : BitVec 16) (a0 a1 a2 : Word) :
    (s.record src code a0 a1 a2).sched = s.sched := Signals.sched (State.record_signals (Signals.refl s) src code a0 a1 a2)
@[simp] theorem State.record_gnss (src : Nat) (code : BitVec 16) (a0 a1 a2 : Word) :
    (s.record src code a0 a1 a2).gnss = s.gnss := Signals.gnss (State.record_signals (Signals.refl s) src code a0 a1 a2)
@[simp] theorem State.record_fleet (src : Nat) (code : BitVec 16) (a0 a1 a2 : Word) :
    (s.record src code a0 a1 a2).fleet = s.fleet := Signals.fleet (State.record_signals (Signals.refl s) src code a0 a1 a2)
@[simp] theorem State.record_keys (src : Nat) (code : BitVec 16) (a0 a1 a2 : Word) :
    (s.record src code a0 a1 a2).keys = s.keys := Signals.keys (State.record_signals (Signals.refl s) src code a0 a1 a2)
@[simp] theorem State.record_dbg (src : Nat) (code : BitVec 16) (a0 a1 a2 : Word) :
    (s.record src code a0 a1 a2).dbg = s.dbg := Signals.dbg (State.record_signals (Signals.refl s) src code a0 a1 a2)
@[simp] theorem State.record_upd (src : Nat) (code : BitVec 16) (a0 a1 a2 : Word) :
    (s.record src code a0 a1 a2).upd = s.upd := Signals.upd (State.record_signals (Signals.refl s) src code a0 a1 a2)
@[simp] theorem State.record_plank (src : Nat) (code : BitVec 16) (a0 a1 a2 : Word) :
    (s.record src code a0 a1 a2).plank = s.plank := Signals.plank (State.record_signals (Signals.refl s) src code a0 a1 a2)
@[simp] theorem State.record_net (src : Nat) (code : BitVec 16) (a0 a1 a2 : Word) :
    (s.record src code a0 a1 a2).net = s.net := Signals.net (State.record_signals (Signals.refl s) src code a0 a1 a2)
@[simp] theorem State.record_host (src : Nat) (code : BitVec 16) (a0 a1 a2 : Word) :
    (s.record src code a0 a1 a2).host = s.host := Signals.host (State.record_signals (Signals.refl s) src code a0 a1 a2)
@[simp] theorem State.record_modeReq (src : Nat) (code : BitVec 16) (a0 a1 a2 : Word) :
    (s.record src code a0 a1 a2).modeReq = s.modeReq := Signals.modeReq (State.record_signals (Signals.refl s) src code a0 a1 a2)
@[simp] theorem State.record_byte (src : Nat) (code : BitVec 16) (a0 a1 a2 : Word) (b : Nat) :
    (s.record src code a0 a1 a2).byte b = s.byte b := Signals.byte (State.record_signals (Signals.refl s) src code a0 a1 a2) b
@[simp] theorem State.record_gpr (src : Nat) (code : BitVec 16) (a0 a1 a2 : Word) (k : Fin 8) (q : Fin 16) :
    (s.record src code a0 a1 a2).gpr k q = s.gpr k q := Signals.gpr (State.record_signals (Signals.refl s) src code a0 a1 a2) k q
@[simp] theorem State.record_pc (src : Nat) (code : BitVec 16) (a0 a1 a2 : Word) (k : Fin 8) :
    ((s.record src code a0 a1 a2).core k).pc = (s.core k).pc := Signals.pc (State.record_signals (Signals.refl s) src code a0 a1 a2) k
@[simp] theorem State.record_rd (src : Nat) (code : BitVec 16) (a0 a1 a2 : Word) (b : Nat) (h : signalBlock b = false) :
    (s.record src code a0 a1 a2).rd b = s.rd b := Signals.regs (State.record_signals (Signals.refl s) src code a0 a1 a2) b h
@[simp] theorem State.record_fld (src : Nat) (code : BitVec 16) (a0 a1 a2 : Word) (b hi lo : Nat) (h : signalBlock b = false) :
    (s.record src code a0 a1 a2).fld b hi lo = s.fld b hi lo := Signals.fld (State.record_signals (Signals.refl s) src code a0 a1 a2) b hi lo h
@[simp] theorem State.record_bit (src : Nat) (code : BitVec 16) (a0 a1 a2 : Word) (b i : Nat) (h : signalBlock b = false) :
    (s.record src code a0 a1 a2).bit b i = s.bit b i := Signals.bit (State.record_signals (Signals.refl s) src code a0 a1 a2) b i h

/-! ### rated -/

@[simp] theorem State.rated_pending (src : Nat) (code : BitVec 16) (key : Nat) (a0 a1 a2 : Word) (cnt : Bool) :
    (s.rated src code key a0 a1 a2 cnt).pending = s.pending := Signals.pending (State.rated_signals (Signals.refl s) src code key a0 a1 a2 cnt)
@[simp] theorem State.rated_free (src : Nat) (code : BitVec 16) (key : Nat) (a0 a1 a2 : Word) (cnt : Bool) :
    (s.rated src code key a0 a1 a2 cnt).free = s.free := Signals.free (State.rated_signals (Signals.refl s) src code key a0 a1 a2 cnt)
@[simp] theorem State.rated_clock (src : Nat) (code : BitVec 16) (key : Nat) (a0 a1 a2 : Word) (cnt : Bool) :
    (s.rated src code key a0 a1 a2 cnt).clock = s.clock := Signals.clock (State.rated_signals (Signals.refl s) src code key a0 a1 a2 cnt)
@[simp] theorem State.rated_bus (src : Nat) (code : BitVec 16) (key : Nat) (a0 a1 a2 : Word) (cnt : Bool) :
    (s.rated src code key a0 a1 a2 cnt).bus = s.bus := Signals.bus (State.rated_signals (Signals.refl s) src code key a0 a1 a2 cnt)
@[simp] theorem State.rated_mem (src : Nat) (code : BitVec 16) (key : Nat) (a0 a1 a2 : Word) (cnt : Bool) :
    (s.rated src code key a0 a1 a2 cnt).mem = s.mem := Signals.mem (State.rated_signals (Signals.refl s) src code key a0 a1 a2 cnt)
@[simp] theorem State.rated_time (src : Nat) (code : BitVec 16) (key : Nat) (a0 a1 a2 : Word) (cnt : Bool) :
    (s.rated src code key a0 a1 a2 cnt).time = s.time := Signals.time (State.rated_signals (Signals.refl s) src code key a0 a1 a2 cnt)
@[simp] theorem State.rated_rtc (src : Nat) (code : BitVec 16) (key : Nat) (a0 a1 a2 : Word) (cnt : Bool) :
    (s.rated src code key a0 a1 a2 cnt).rtc = s.rtc := Signals.rtc (State.rated_signals (Signals.refl s) src code key a0 a1 a2 cnt)
@[simp] theorem State.rated_qfab (src : Nat) (code : BitVec 16) (key : Nat) (a0 a1 a2 : Word) (cnt : Bool) :
    (s.rated src code key a0 a1 a2 cnt).qfab = s.qfab := Signals.qfab (State.rated_signals (Signals.refl s) src code key a0 a1 a2 cnt)
@[simp] theorem State.rated_rx (src : Nat) (code : BitVec 16) (key : Nat) (a0 a1 a2 : Word) (cnt : Bool) :
    (s.rated src code key a0 a1 a2 cnt).rx = s.rx := Signals.rx (State.rated_signals (Signals.refl s) src code key a0 a1 a2 cnt)
@[simp] theorem State.rated_tx (src : Nat) (code : BitVec 16) (key : Nat) (a0 a1 a2 : Word) (cnt : Bool) :
    (s.rated src code key a0 a1 a2 cnt).tx = s.tx := Signals.tx (State.rated_signals (Signals.refl s) src code key a0 a1 a2 cnt)
@[simp] theorem State.rated_mac (src : Nat) (code : BitVec 16) (key : Nat) (a0 a1 a2 : Word) (cnt : Bool) :
    (s.rated src code key a0 a1 a2 cnt).mac = s.mac := Signals.mac (State.rated_signals (Signals.refl s) src code key a0 a1 a2 cnt)
@[simp] theorem State.rated_fwd (src : Nat) (code : BitVec 16) (key : Nat) (a0 a1 a2 : Word) (cnt : Bool) :
    (s.rated src code key a0 a1 a2 cnt).fwd = s.fwd := Signals.fwd (State.rated_signals (Signals.refl s) src code key a0 a1 a2 cnt)
@[simp] theorem State.rated_sched (src : Nat) (code : BitVec 16) (key : Nat) (a0 a1 a2 : Word) (cnt : Bool) :
    (s.rated src code key a0 a1 a2 cnt).sched = s.sched := Signals.sched (State.rated_signals (Signals.refl s) src code key a0 a1 a2 cnt)
@[simp] theorem State.rated_gnss (src : Nat) (code : BitVec 16) (key : Nat) (a0 a1 a2 : Word) (cnt : Bool) :
    (s.rated src code key a0 a1 a2 cnt).gnss = s.gnss := Signals.gnss (State.rated_signals (Signals.refl s) src code key a0 a1 a2 cnt)
@[simp] theorem State.rated_fleet (src : Nat) (code : BitVec 16) (key : Nat) (a0 a1 a2 : Word) (cnt : Bool) :
    (s.rated src code key a0 a1 a2 cnt).fleet = s.fleet := Signals.fleet (State.rated_signals (Signals.refl s) src code key a0 a1 a2 cnt)
@[simp] theorem State.rated_keys (src : Nat) (code : BitVec 16) (key : Nat) (a0 a1 a2 : Word) (cnt : Bool) :
    (s.rated src code key a0 a1 a2 cnt).keys = s.keys := Signals.keys (State.rated_signals (Signals.refl s) src code key a0 a1 a2 cnt)
@[simp] theorem State.rated_dbg (src : Nat) (code : BitVec 16) (key : Nat) (a0 a1 a2 : Word) (cnt : Bool) :
    (s.rated src code key a0 a1 a2 cnt).dbg = s.dbg := Signals.dbg (State.rated_signals (Signals.refl s) src code key a0 a1 a2 cnt)
@[simp] theorem State.rated_upd (src : Nat) (code : BitVec 16) (key : Nat) (a0 a1 a2 : Word) (cnt : Bool) :
    (s.rated src code key a0 a1 a2 cnt).upd = s.upd := Signals.upd (State.rated_signals (Signals.refl s) src code key a0 a1 a2 cnt)
@[simp] theorem State.rated_plank (src : Nat) (code : BitVec 16) (key : Nat) (a0 a1 a2 : Word) (cnt : Bool) :
    (s.rated src code key a0 a1 a2 cnt).plank = s.plank := Signals.plank (State.rated_signals (Signals.refl s) src code key a0 a1 a2 cnt)
@[simp] theorem State.rated_net (src : Nat) (code : BitVec 16) (key : Nat) (a0 a1 a2 : Word) (cnt : Bool) :
    (s.rated src code key a0 a1 a2 cnt).net = s.net := Signals.net (State.rated_signals (Signals.refl s) src code key a0 a1 a2 cnt)
@[simp] theorem State.rated_host (src : Nat) (code : BitVec 16) (key : Nat) (a0 a1 a2 : Word) (cnt : Bool) :
    (s.rated src code key a0 a1 a2 cnt).host = s.host := Signals.host (State.rated_signals (Signals.refl s) src code key a0 a1 a2 cnt)
@[simp] theorem State.rated_modeReq (src : Nat) (code : BitVec 16) (key : Nat) (a0 a1 a2 : Word) (cnt : Bool) :
    (s.rated src code key a0 a1 a2 cnt).modeReq = s.modeReq := Signals.modeReq (State.rated_signals (Signals.refl s) src code key a0 a1 a2 cnt)
@[simp] theorem State.rated_byte (src : Nat) (code : BitVec 16) (key : Nat) (a0 a1 a2 : Word) (cnt : Bool) (b : Nat) :
    (s.rated src code key a0 a1 a2 cnt).byte b = s.byte b := Signals.byte (State.rated_signals (Signals.refl s) src code key a0 a1 a2 cnt) b
@[simp] theorem State.rated_gpr (src : Nat) (code : BitVec 16) (key : Nat) (a0 a1 a2 : Word) (cnt : Bool) (k : Fin 8) (q : Fin 16) :
    (s.rated src code key a0 a1 a2 cnt).gpr k q = s.gpr k q := Signals.gpr (State.rated_signals (Signals.refl s) src code key a0 a1 a2 cnt) k q
@[simp] theorem State.rated_pc (src : Nat) (code : BitVec 16) (key : Nat) (a0 a1 a2 : Word) (cnt : Bool) (k : Fin 8) :
    ((s.rated src code key a0 a1 a2 cnt).core k).pc = (s.core k).pc := Signals.pc (State.rated_signals (Signals.refl s) src code key a0 a1 a2 cnt) k
@[simp] theorem State.rated_rd (src : Nat) (code : BitVec 16) (key : Nat) (a0 a1 a2 : Word) (cnt : Bool) (b : Nat) (h : signalBlock b = false) :
    (s.rated src code key a0 a1 a2 cnt).rd b = s.rd b := Signals.regs (State.rated_signals (Signals.refl s) src code key a0 a1 a2 cnt) b h
@[simp] theorem State.rated_fld (src : Nat) (code : BitVec 16) (key : Nat) (a0 a1 a2 : Word) (cnt : Bool) (b hi lo : Nat) (h : signalBlock b = false) :
    (s.rated src code key a0 a1 a2 cnt).fld b hi lo = s.fld b hi lo := Signals.fld (State.rated_signals (Signals.refl s) src code key a0 a1 a2 cnt) b hi lo h
@[simp] theorem State.rated_bit (src : Nat) (code : BitVec 16) (key : Nat) (a0 a1 a2 : Word) (cnt : Bool) (b i : Nat) (h : signalBlock b = false) :
    (s.rated src code key a0 a1 a2 cnt).bit b i = s.bit b i := Signals.bit (State.rated_signals (Signals.refl s) src code key a0 a1 a2 cnt) b i h

/-! ### log -/

@[simp] theorem State.log_pending (r : LogRec) :
    (s.log r).pending = s.pending := Signals.pending (State.log_signals (Signals.refl s) r)
@[simp] theorem State.log_free (r : LogRec) :
    (s.log r).free = s.free := Signals.free (State.log_signals (Signals.refl s) r)
@[simp] theorem State.log_clock (r : LogRec) :
    (s.log r).clock = s.clock := Signals.clock (State.log_signals (Signals.refl s) r)
@[simp] theorem State.log_bus (r : LogRec) :
    (s.log r).bus = s.bus := Signals.bus (State.log_signals (Signals.refl s) r)
@[simp] theorem State.log_mem (r : LogRec) :
    (s.log r).mem = s.mem := Signals.mem (State.log_signals (Signals.refl s) r)
@[simp] theorem State.log_time (r : LogRec) :
    (s.log r).time = s.time := Signals.time (State.log_signals (Signals.refl s) r)
@[simp] theorem State.log_rtc (r : LogRec) :
    (s.log r).rtc = s.rtc := Signals.rtc (State.log_signals (Signals.refl s) r)
@[simp] theorem State.log_qfab (r : LogRec) :
    (s.log r).qfab = s.qfab := Signals.qfab (State.log_signals (Signals.refl s) r)
@[simp] theorem State.log_rx (r : LogRec) :
    (s.log r).rx = s.rx := Signals.rx (State.log_signals (Signals.refl s) r)
@[simp] theorem State.log_tx (r : LogRec) :
    (s.log r).tx = s.tx := Signals.tx (State.log_signals (Signals.refl s) r)
@[simp] theorem State.log_mac (r : LogRec) :
    (s.log r).mac = s.mac := Signals.mac (State.log_signals (Signals.refl s) r)
@[simp] theorem State.log_fwd (r : LogRec) :
    (s.log r).fwd = s.fwd := Signals.fwd (State.log_signals (Signals.refl s) r)
@[simp] theorem State.log_sched (r : LogRec) :
    (s.log r).sched = s.sched := Signals.sched (State.log_signals (Signals.refl s) r)
@[simp] theorem State.log_gnss (r : LogRec) :
    (s.log r).gnss = s.gnss := Signals.gnss (State.log_signals (Signals.refl s) r)
@[simp] theorem State.log_fleet (r : LogRec) :
    (s.log r).fleet = s.fleet := Signals.fleet (State.log_signals (Signals.refl s) r)
@[simp] theorem State.log_keys (r : LogRec) :
    (s.log r).keys = s.keys := Signals.keys (State.log_signals (Signals.refl s) r)
@[simp] theorem State.log_dbg (r : LogRec) :
    (s.log r).dbg = s.dbg := Signals.dbg (State.log_signals (Signals.refl s) r)
@[simp] theorem State.log_upd (r : LogRec) :
    (s.log r).upd = s.upd := Signals.upd (State.log_signals (Signals.refl s) r)
@[simp] theorem State.log_plank (r : LogRec) :
    (s.log r).plank = s.plank := Signals.plank (State.log_signals (Signals.refl s) r)
@[simp] theorem State.log_net (r : LogRec) :
    (s.log r).net = s.net := Signals.net (State.log_signals (Signals.refl s) r)
@[simp] theorem State.log_host (r : LogRec) :
    (s.log r).host = s.host := Signals.host (State.log_signals (Signals.refl s) r)
@[simp] theorem State.log_modeReq (r : LogRec) :
    (s.log r).modeReq = s.modeReq := Signals.modeReq (State.log_signals (Signals.refl s) r)
@[simp] theorem State.log_byte (r : LogRec) (b : Nat) :
    (s.log r).byte b = s.byte b := Signals.byte (State.log_signals (Signals.refl s) r) b
@[simp] theorem State.log_gpr (r : LogRec) (k : Fin 8) (q : Fin 16) :
    (s.log r).gpr k q = s.gpr k q := Signals.gpr (State.log_signals (Signals.refl s) r) k q
@[simp] theorem State.log_pc (r : LogRec) (k : Fin 8) :
    ((s.log r).core k).pc = (s.core k).pc := Signals.pc (State.log_signals (Signals.refl s) r) k
@[simp] theorem State.log_rd (r : LogRec) (b : Nat) (h : signalBlock b = false) :
    (s.log r).rd b = s.rd b := Signals.regs (State.log_signals (Signals.refl s) r) b h
@[simp] theorem State.log_fld (r : LogRec) (b hi lo : Nat) (h : signalBlock b = false) :
    (s.log r).fld b hi lo = s.fld b hi lo := Signals.fld (State.log_signals (Signals.refl s) r) b hi lo h
@[simp] theorem State.log_bit (r : LogRec) (b i : Nat) (h : signalBlock b = false) :
    (s.log r).bit b i = s.bit b i := Signals.bit (State.log_signals (Signals.refl s) r) b i h

/-! ### raise -/

@[simp] theorem State.raise_pending (block event : Nat) :
    (s.raise block event).pending = s.pending := Signals.pending (State.raise_signals (Signals.refl s) block event)
@[simp] theorem State.raise_free (block event : Nat) :
    (s.raise block event).free = s.free := Signals.free (State.raise_signals (Signals.refl s) block event)
@[simp] theorem State.raise_clock (block event : Nat) :
    (s.raise block event).clock = s.clock := Signals.clock (State.raise_signals (Signals.refl s) block event)
@[simp] theorem State.raise_bus (block event : Nat) :
    (s.raise block event).bus = s.bus := Signals.bus (State.raise_signals (Signals.refl s) block event)
@[simp] theorem State.raise_mem (block event : Nat) :
    (s.raise block event).mem = s.mem := Signals.mem (State.raise_signals (Signals.refl s) block event)
@[simp] theorem State.raise_time (block event : Nat) :
    (s.raise block event).time = s.time := Signals.time (State.raise_signals (Signals.refl s) block event)
@[simp] theorem State.raise_rtc (block event : Nat) :
    (s.raise block event).rtc = s.rtc := Signals.rtc (State.raise_signals (Signals.refl s) block event)
@[simp] theorem State.raise_qfab (block event : Nat) :
    (s.raise block event).qfab = s.qfab := Signals.qfab (State.raise_signals (Signals.refl s) block event)
@[simp] theorem State.raise_rx (block event : Nat) :
    (s.raise block event).rx = s.rx := Signals.rx (State.raise_signals (Signals.refl s) block event)
@[simp] theorem State.raise_tx (block event : Nat) :
    (s.raise block event).tx = s.tx := Signals.tx (State.raise_signals (Signals.refl s) block event)
@[simp] theorem State.raise_mac (block event : Nat) :
    (s.raise block event).mac = s.mac := Signals.mac (State.raise_signals (Signals.refl s) block event)
@[simp] theorem State.raise_fwd (block event : Nat) :
    (s.raise block event).fwd = s.fwd := Signals.fwd (State.raise_signals (Signals.refl s) block event)
@[simp] theorem State.raise_sched (block event : Nat) :
    (s.raise block event).sched = s.sched := Signals.sched (State.raise_signals (Signals.refl s) block event)
@[simp] theorem State.raise_gnss (block event : Nat) :
    (s.raise block event).gnss = s.gnss := Signals.gnss (State.raise_signals (Signals.refl s) block event)
@[simp] theorem State.raise_fleet (block event : Nat) :
    (s.raise block event).fleet = s.fleet := Signals.fleet (State.raise_signals (Signals.refl s) block event)
@[simp] theorem State.raise_keys (block event : Nat) :
    (s.raise block event).keys = s.keys := Signals.keys (State.raise_signals (Signals.refl s) block event)
@[simp] theorem State.raise_dbg (block event : Nat) :
    (s.raise block event).dbg = s.dbg := Signals.dbg (State.raise_signals (Signals.refl s) block event)
@[simp] theorem State.raise_upd (block event : Nat) :
    (s.raise block event).upd = s.upd := Signals.upd (State.raise_signals (Signals.refl s) block event)
@[simp] theorem State.raise_plank (block event : Nat) :
    (s.raise block event).plank = s.plank := Signals.plank (State.raise_signals (Signals.refl s) block event)
@[simp] theorem State.raise_net (block event : Nat) :
    (s.raise block event).net = s.net := Signals.net (State.raise_signals (Signals.refl s) block event)
@[simp] theorem State.raise_host (block event : Nat) :
    (s.raise block event).host = s.host := Signals.host (State.raise_signals (Signals.refl s) block event)
@[simp] theorem State.raise_modeReq (block event : Nat) :
    (s.raise block event).modeReq = s.modeReq := Signals.modeReq (State.raise_signals (Signals.refl s) block event)
@[simp] theorem State.raise_byte (block event : Nat) (b : Nat) :
    (s.raise block event).byte b = s.byte b := Signals.byte (State.raise_signals (Signals.refl s) block event) b
@[simp] theorem State.raise_gpr (block event : Nat) (k : Fin 8) (q : Fin 16) :
    (s.raise block event).gpr k q = s.gpr k q := Signals.gpr (State.raise_signals (Signals.refl s) block event) k q
@[simp] theorem State.raise_pc (block event : Nat) (k : Fin 8) :
    ((s.raise block event).core k).pc = (s.core k).pc := Signals.pc (State.raise_signals (Signals.refl s) block event) k
@[simp] theorem State.raise_rd (block event : Nat) (b : Nat) (h : signalBlock b = false) :
    (s.raise block event).rd b = s.rd b := Signals.regs (State.raise_signals (Signals.refl s) block event) b h
@[simp] theorem State.raise_fld (block event : Nat) (b hi lo : Nat) (h : signalBlock b = false) :
    (s.raise block event).fld b hi lo = s.fld b hi lo := Signals.fld (State.raise_signals (Signals.refl s) block event) b hi lo h
@[simp] theorem State.raise_bit (block event : Nat) (b i : Nat) (h : signalBlock b = false) :
    (s.raise block event).bit b i = s.bit b i := Signals.bit (State.raise_signals (Signals.refl s) block event) b i h

/-! ### deliver -/

@[simp] theorem State.deliver_pending (c : Fin 8) (line : Fin 32) :
    (s.deliver c line).pending = s.pending := Signals.pending (State.deliver_signals (Signals.refl s) c line)
@[simp] theorem State.deliver_free (c : Fin 8) (line : Fin 32) :
    (s.deliver c line).free = s.free := Signals.free (State.deliver_signals (Signals.refl s) c line)
@[simp] theorem State.deliver_clock (c : Fin 8) (line : Fin 32) :
    (s.deliver c line).clock = s.clock := Signals.clock (State.deliver_signals (Signals.refl s) c line)
@[simp] theorem State.deliver_bus (c : Fin 8) (line : Fin 32) :
    (s.deliver c line).bus = s.bus := Signals.bus (State.deliver_signals (Signals.refl s) c line)
@[simp] theorem State.deliver_mem (c : Fin 8) (line : Fin 32) :
    (s.deliver c line).mem = s.mem := Signals.mem (State.deliver_signals (Signals.refl s) c line)
@[simp] theorem State.deliver_time (c : Fin 8) (line : Fin 32) :
    (s.deliver c line).time = s.time := Signals.time (State.deliver_signals (Signals.refl s) c line)
@[simp] theorem State.deliver_rtc (c : Fin 8) (line : Fin 32) :
    (s.deliver c line).rtc = s.rtc := Signals.rtc (State.deliver_signals (Signals.refl s) c line)
@[simp] theorem State.deliver_qfab (c : Fin 8) (line : Fin 32) :
    (s.deliver c line).qfab = s.qfab := Signals.qfab (State.deliver_signals (Signals.refl s) c line)
@[simp] theorem State.deliver_rx (c : Fin 8) (line : Fin 32) :
    (s.deliver c line).rx = s.rx := Signals.rx (State.deliver_signals (Signals.refl s) c line)
@[simp] theorem State.deliver_tx (c : Fin 8) (line : Fin 32) :
    (s.deliver c line).tx = s.tx := Signals.tx (State.deliver_signals (Signals.refl s) c line)
@[simp] theorem State.deliver_mac (c : Fin 8) (line : Fin 32) :
    (s.deliver c line).mac = s.mac := Signals.mac (State.deliver_signals (Signals.refl s) c line)
@[simp] theorem State.deliver_fwd (c : Fin 8) (line : Fin 32) :
    (s.deliver c line).fwd = s.fwd := Signals.fwd (State.deliver_signals (Signals.refl s) c line)
@[simp] theorem State.deliver_sched (c : Fin 8) (line : Fin 32) :
    (s.deliver c line).sched = s.sched := Signals.sched (State.deliver_signals (Signals.refl s) c line)
@[simp] theorem State.deliver_gnss (c : Fin 8) (line : Fin 32) :
    (s.deliver c line).gnss = s.gnss := Signals.gnss (State.deliver_signals (Signals.refl s) c line)
@[simp] theorem State.deliver_fleet (c : Fin 8) (line : Fin 32) :
    (s.deliver c line).fleet = s.fleet := Signals.fleet (State.deliver_signals (Signals.refl s) c line)
@[simp] theorem State.deliver_keys (c : Fin 8) (line : Fin 32) :
    (s.deliver c line).keys = s.keys := Signals.keys (State.deliver_signals (Signals.refl s) c line)
@[simp] theorem State.deliver_dbg (c : Fin 8) (line : Fin 32) :
    (s.deliver c line).dbg = s.dbg := Signals.dbg (State.deliver_signals (Signals.refl s) c line)
@[simp] theorem State.deliver_upd (c : Fin 8) (line : Fin 32) :
    (s.deliver c line).upd = s.upd := Signals.upd (State.deliver_signals (Signals.refl s) c line)
@[simp] theorem State.deliver_plank (c : Fin 8) (line : Fin 32) :
    (s.deliver c line).plank = s.plank := Signals.plank (State.deliver_signals (Signals.refl s) c line)
@[simp] theorem State.deliver_net (c : Fin 8) (line : Fin 32) :
    (s.deliver c line).net = s.net := Signals.net (State.deliver_signals (Signals.refl s) c line)
@[simp] theorem State.deliver_host (c : Fin 8) (line : Fin 32) :
    (s.deliver c line).host = s.host := Signals.host (State.deliver_signals (Signals.refl s) c line)
@[simp] theorem State.deliver_modeReq (c : Fin 8) (line : Fin 32) :
    (s.deliver c line).modeReq = s.modeReq := Signals.modeReq (State.deliver_signals (Signals.refl s) c line)
@[simp] theorem State.deliver_byte (c : Fin 8) (line : Fin 32) (b : Nat) :
    (s.deliver c line).byte b = s.byte b := Signals.byte (State.deliver_signals (Signals.refl s) c line) b
@[simp] theorem State.deliver_gpr (c : Fin 8) (line : Fin 32) (k : Fin 8) (q : Fin 16) :
    (s.deliver c line).gpr k q = s.gpr k q := Signals.gpr (State.deliver_signals (Signals.refl s) c line) k q
@[simp] theorem State.deliver_pc (c : Fin 8) (line : Fin 32) (k : Fin 8) :
    ((s.deliver c line).core k).pc = (s.core k).pc := Signals.pc (State.deliver_signals (Signals.refl s) c line) k
@[simp] theorem State.deliver_rd (c : Fin 8) (line : Fin 32) (b : Nat) (h : signalBlock b = false) :
    (s.deliver c line).rd b = s.rd b := Signals.regs (State.deliver_signals (Signals.refl s) c line) b h
@[simp] theorem State.deliver_fld (c : Fin 8) (line : Fin 32) (b hi lo : Nat) (h : signalBlock b = false) :
    (s.deliver c line).fld b hi lo = s.fld b hi lo := Signals.fld (State.deliver_signals (Signals.refl s) c line) b hi lo h
@[simp] theorem State.deliver_bit (c : Fin 8) (line : Fin 32) (b i : Nat) (h : signalBlock b = false) :
    (s.deliver c line).bit b i = s.bit b i := Signals.bit (State.deliver_signals (Signals.refl s) c line) b i h

/-! ### wake -/

@[simp] theorem State.wake_pending (src detail : Nat) (doms : List Nat) (req : Nat) :
    (s.wake src detail doms req).pending = s.pending := Signals.pending (State.wake_signals (Signals.refl s) src detail doms req)
@[simp] theorem State.wake_free (src detail : Nat) (doms : List Nat) (req : Nat) :
    (s.wake src detail doms req).free = s.free := Signals.free (State.wake_signals (Signals.refl s) src detail doms req)
@[simp] theorem State.wake_clock (src detail : Nat) (doms : List Nat) (req : Nat) :
    (s.wake src detail doms req).clock = s.clock := Signals.clock (State.wake_signals (Signals.refl s) src detail doms req)
@[simp] theorem State.wake_bus (src detail : Nat) (doms : List Nat) (req : Nat) :
    (s.wake src detail doms req).bus = s.bus := Signals.bus (State.wake_signals (Signals.refl s) src detail doms req)
@[simp] theorem State.wake_mem (src detail : Nat) (doms : List Nat) (req : Nat) :
    (s.wake src detail doms req).mem = s.mem := Signals.mem (State.wake_signals (Signals.refl s) src detail doms req)
@[simp] theorem State.wake_time (src detail : Nat) (doms : List Nat) (req : Nat) :
    (s.wake src detail doms req).time = s.time := Signals.time (State.wake_signals (Signals.refl s) src detail doms req)
@[simp] theorem State.wake_rtc (src detail : Nat) (doms : List Nat) (req : Nat) :
    (s.wake src detail doms req).rtc = s.rtc := Signals.rtc (State.wake_signals (Signals.refl s) src detail doms req)
@[simp] theorem State.wake_qfab (src detail : Nat) (doms : List Nat) (req : Nat) :
    (s.wake src detail doms req).qfab = s.qfab := Signals.qfab (State.wake_signals (Signals.refl s) src detail doms req)
@[simp] theorem State.wake_rx (src detail : Nat) (doms : List Nat) (req : Nat) :
    (s.wake src detail doms req).rx = s.rx := Signals.rx (State.wake_signals (Signals.refl s) src detail doms req)
@[simp] theorem State.wake_tx (src detail : Nat) (doms : List Nat) (req : Nat) :
    (s.wake src detail doms req).tx = s.tx := Signals.tx (State.wake_signals (Signals.refl s) src detail doms req)
@[simp] theorem State.wake_mac (src detail : Nat) (doms : List Nat) (req : Nat) :
    (s.wake src detail doms req).mac = s.mac := Signals.mac (State.wake_signals (Signals.refl s) src detail doms req)
@[simp] theorem State.wake_fwd (src detail : Nat) (doms : List Nat) (req : Nat) :
    (s.wake src detail doms req).fwd = s.fwd := Signals.fwd (State.wake_signals (Signals.refl s) src detail doms req)
@[simp] theorem State.wake_sched (src detail : Nat) (doms : List Nat) (req : Nat) :
    (s.wake src detail doms req).sched = s.sched := Signals.sched (State.wake_signals (Signals.refl s) src detail doms req)
@[simp] theorem State.wake_gnss (src detail : Nat) (doms : List Nat) (req : Nat) :
    (s.wake src detail doms req).gnss = s.gnss := Signals.gnss (State.wake_signals (Signals.refl s) src detail doms req)
@[simp] theorem State.wake_fleet (src detail : Nat) (doms : List Nat) (req : Nat) :
    (s.wake src detail doms req).fleet = s.fleet := Signals.fleet (State.wake_signals (Signals.refl s) src detail doms req)
@[simp] theorem State.wake_keys (src detail : Nat) (doms : List Nat) (req : Nat) :
    (s.wake src detail doms req).keys = s.keys := Signals.keys (State.wake_signals (Signals.refl s) src detail doms req)
@[simp] theorem State.wake_dbg (src detail : Nat) (doms : List Nat) (req : Nat) :
    (s.wake src detail doms req).dbg = s.dbg := Signals.dbg (State.wake_signals (Signals.refl s) src detail doms req)
@[simp] theorem State.wake_upd (src detail : Nat) (doms : List Nat) (req : Nat) :
    (s.wake src detail doms req).upd = s.upd := Signals.upd (State.wake_signals (Signals.refl s) src detail doms req)
@[simp] theorem State.wake_plank (src detail : Nat) (doms : List Nat) (req : Nat) :
    (s.wake src detail doms req).plank = s.plank := Signals.plank (State.wake_signals (Signals.refl s) src detail doms req)
@[simp] theorem State.wake_net (src detail : Nat) (doms : List Nat) (req : Nat) :
    (s.wake src detail doms req).net = s.net := Signals.net (State.wake_signals (Signals.refl s) src detail doms req)
@[simp] theorem State.wake_host (src detail : Nat) (doms : List Nat) (req : Nat) :
    (s.wake src detail doms req).host = s.host := Signals.host (State.wake_signals (Signals.refl s) src detail doms req)
@[simp] theorem State.wake_modeReq (src detail : Nat) (doms : List Nat) (req : Nat) :
    (s.wake src detail doms req).modeReq = s.modeReq := Signals.modeReq (State.wake_signals (Signals.refl s) src detail doms req)
@[simp] theorem State.wake_byte (src detail : Nat) (doms : List Nat) (req : Nat) (b : Nat) :
    (s.wake src detail doms req).byte b = s.byte b := Signals.byte (State.wake_signals (Signals.refl s) src detail doms req) b
@[simp] theorem State.wake_gpr (src detail : Nat) (doms : List Nat) (req : Nat) (k : Fin 8) (q : Fin 16) :
    (s.wake src detail doms req).gpr k q = s.gpr k q := Signals.gpr (State.wake_signals (Signals.refl s) src detail doms req) k q
@[simp] theorem State.wake_pc (src detail : Nat) (doms : List Nat) (req : Nat) (k : Fin 8) :
    ((s.wake src detail doms req).core k).pc = (s.core k).pc := Signals.pc (State.wake_signals (Signals.refl s) src detail doms req) k
@[simp] theorem State.wake_rd (src detail : Nat) (doms : List Nat) (req : Nat) (b : Nat) (h : signalBlock b = false) :
    (s.wake src detail doms req).rd b = s.rd b := Signals.regs (State.wake_signals (Signals.refl s) src detail doms req) b h
@[simp] theorem State.wake_fld (src detail : Nat) (doms : List Nat) (req : Nat) (b hi lo : Nat) (h : signalBlock b = false) :
    (s.wake src detail doms req).fld b hi lo = s.fld b hi lo := Signals.fld (State.wake_signals (Signals.refl s) src detail doms req) b hi lo h
@[simp] theorem State.wake_bit (src detail : Nat) (doms : List Nat) (req : Nat) (b i : Nat) (h : signalBlock b = false) :
    (s.wake src detail doms req).bit b i = s.bit b i := Signals.bit (State.wake_signals (Signals.refl s) src detail doms req) b i h

/-! ### hostIrq -/

@[simp] theorem State.hostIrq_pending (src : Nat) :
    (s.hostIrq src).pending = s.pending := Signals.pending (State.hostIrq_signals (Signals.refl s) src)
@[simp] theorem State.hostIrq_free (src : Nat) :
    (s.hostIrq src).free = s.free := Signals.free (State.hostIrq_signals (Signals.refl s) src)
@[simp] theorem State.hostIrq_clock (src : Nat) :
    (s.hostIrq src).clock = s.clock := Signals.clock (State.hostIrq_signals (Signals.refl s) src)
@[simp] theorem State.hostIrq_bus (src : Nat) :
    (s.hostIrq src).bus = s.bus := Signals.bus (State.hostIrq_signals (Signals.refl s) src)
@[simp] theorem State.hostIrq_mem (src : Nat) :
    (s.hostIrq src).mem = s.mem := Signals.mem (State.hostIrq_signals (Signals.refl s) src)
@[simp] theorem State.hostIrq_time (src : Nat) :
    (s.hostIrq src).time = s.time := Signals.time (State.hostIrq_signals (Signals.refl s) src)
@[simp] theorem State.hostIrq_rtc (src : Nat) :
    (s.hostIrq src).rtc = s.rtc := Signals.rtc (State.hostIrq_signals (Signals.refl s) src)
@[simp] theorem State.hostIrq_qfab (src : Nat) :
    (s.hostIrq src).qfab = s.qfab := Signals.qfab (State.hostIrq_signals (Signals.refl s) src)
@[simp] theorem State.hostIrq_rx (src : Nat) :
    (s.hostIrq src).rx = s.rx := Signals.rx (State.hostIrq_signals (Signals.refl s) src)
@[simp] theorem State.hostIrq_tx (src : Nat) :
    (s.hostIrq src).tx = s.tx := Signals.tx (State.hostIrq_signals (Signals.refl s) src)
@[simp] theorem State.hostIrq_mac (src : Nat) :
    (s.hostIrq src).mac = s.mac := Signals.mac (State.hostIrq_signals (Signals.refl s) src)
@[simp] theorem State.hostIrq_fwd (src : Nat) :
    (s.hostIrq src).fwd = s.fwd := Signals.fwd (State.hostIrq_signals (Signals.refl s) src)
@[simp] theorem State.hostIrq_sched (src : Nat) :
    (s.hostIrq src).sched = s.sched := Signals.sched (State.hostIrq_signals (Signals.refl s) src)
@[simp] theorem State.hostIrq_gnss (src : Nat) :
    (s.hostIrq src).gnss = s.gnss := Signals.gnss (State.hostIrq_signals (Signals.refl s) src)
@[simp] theorem State.hostIrq_fleet (src : Nat) :
    (s.hostIrq src).fleet = s.fleet := Signals.fleet (State.hostIrq_signals (Signals.refl s) src)
@[simp] theorem State.hostIrq_keys (src : Nat) :
    (s.hostIrq src).keys = s.keys := Signals.keys (State.hostIrq_signals (Signals.refl s) src)
@[simp] theorem State.hostIrq_dbg (src : Nat) :
    (s.hostIrq src).dbg = s.dbg := Signals.dbg (State.hostIrq_signals (Signals.refl s) src)
@[simp] theorem State.hostIrq_upd (src : Nat) :
    (s.hostIrq src).upd = s.upd := Signals.upd (State.hostIrq_signals (Signals.refl s) src)
@[simp] theorem State.hostIrq_plank (src : Nat) :
    (s.hostIrq src).plank = s.plank := Signals.plank (State.hostIrq_signals (Signals.refl s) src)
@[simp] theorem State.hostIrq_net (src : Nat) :
    (s.hostIrq src).net = s.net := Signals.net (State.hostIrq_signals (Signals.refl s) src)
@[simp] theorem State.hostIrq_host (src : Nat) :
    (s.hostIrq src).host = s.host := Signals.host (State.hostIrq_signals (Signals.refl s) src)
@[simp] theorem State.hostIrq_modeReq (src : Nat) :
    (s.hostIrq src).modeReq = s.modeReq := Signals.modeReq (State.hostIrq_signals (Signals.refl s) src)
@[simp] theorem State.hostIrq_byte (src : Nat) (b : Nat) :
    (s.hostIrq src).byte b = s.byte b := Signals.byte (State.hostIrq_signals (Signals.refl s) src) b
@[simp] theorem State.hostIrq_gpr (src : Nat) (k : Fin 8) (q : Fin 16) :
    (s.hostIrq src).gpr k q = s.gpr k q := Signals.gpr (State.hostIrq_signals (Signals.refl s) src) k q
@[simp] theorem State.hostIrq_pc (src : Nat) (k : Fin 8) :
    ((s.hostIrq src).core k).pc = (s.core k).pc := Signals.pc (State.hostIrq_signals (Signals.refl s) src) k
@[simp] theorem State.hostIrq_rd (src : Nat) (b : Nat) (h : signalBlock b = false) :
    (s.hostIrq src).rd b = s.rd b := Signals.regs (State.hostIrq_signals (Signals.refl s) src) b h
@[simp] theorem State.hostIrq_fld (src : Nat) (b hi lo : Nat) (h : signalBlock b = false) :
    (s.hostIrq src).fld b hi lo = s.fld b hi lo := Signals.fld (State.hostIrq_signals (Signals.refl s) src) b hi lo h
@[simp] theorem State.hostIrq_bit (src : Nat) (b i : Nat) (h : signalBlock b = false) :
    (s.hostIrq src).bit b i = s.bit b i := Signals.bit (State.hostIrq_signals (Signals.refl s) src) b i h

/-! ### Records touch LOG registers and the recorder only -/

/-- The registers of the LOG block. -/
abbrev logReg (a : Nat) : Bool := a / 0x10000 == 0x4011

theorem State.lose_rd (code : BitVec 16) (b : Nat) (h : logReg b = false) : (s.lose code).rd b = s.rd b := by
  have l : lostIndex code ≤ 8 := Nat.min_le_right ..
  have e : b ≠ LOG_LOSTk (lostIndex code) := by
    rintro rfl
    revert h
    generalize lostIndex code = k at l
    interval_cases k <;> decide
  simp [State.lose, State.bump, State.count, State.rd_setFld, e]

theorem State.enqueue_rd (r : LogRec) (b : Nat) (h : logReg b = false) : (s.enqueue r).rd b = s.rd b := by
  have e1 : b ≠ LOG_SEQ := by rintro rfl; exact absurd h (by decide)
  have e2 : b ≠ LOG_QUEUE := by rintro rfl; exact absurd h (by decide)
  simp only [State.enqueue]
  split
  · exact State.lose_rd s _ b h
  · split
    · simp only [State.rd_setFld, State.rd_wr, e1, e2, if_false]; rfl
    · exact State.lose_rd s _ b h

theorem State.enqueue_cores (r : LogRec) : (s.enqueue r).cores = s.cores := by
  simp only [State.enqueue]; repeat' split
  all_goals rfl

theorem State.enqueue_power (r : LogRec) : (s.enqueue r).power = s.power := by
  simp only [State.enqueue]; repeat' split
  all_goals rfl

@[simp] theorem State.log_other (r : LogRec) (b : Nat) (h : logReg b = false) : (s.log r).rd b = s.rd b := by
  unfold State.log
  split
  · exact State.enqueue_rd s r b h
  · split
    · rfl
    · exact State.lose_rd s _ b h

@[simp] theorem State.log_cores (r : LogRec) : (s.log r).cores = s.cores := by
  unfold State.log; repeat' split
  · exact State.enqueue_cores s r
  · rfl
  · rfl

@[simp] theorem State.log_power (r : LogRec) : (s.log r).power = s.power := by
  unfold State.log; repeat' split
  · exact State.enqueue_power s r
  · rfl
  · rfl

@[simp] theorem State.record_other (src : Nat) (code : BitVec 16) (a0 a1 a2 : Word) (b : Nat) (h : logReg b = false) :
    (s.record src code a0 a1 a2).rd b = s.rd b := State.log_other s _ b h
@[simp] theorem State.record_cores (src : Nat) (code : BitVec 16) (a0 a1 a2 : Word) :
    (s.record src code a0 a1 a2).cores = s.cores := State.log_cores s _
@[simp] theorem State.record_power (src : Nat) (code : BitVec 16) (a0 a1 a2 : Word) :
    (s.record src code a0 a1 a2).power = s.power := State.log_power s _

@[simp] theorem State.rated_other (src : Nat) (code : BitVec 16) (key : Nat) (a0 a1 a2 : Word) (cnt : Bool) (b : Nat)
    (h : logReg b = false) : (s.rated src code key a0 a1 a2 cnt).rd b = s.rd b := by
  simp only [State.rated]
  split
  · rfl
  · exact State.log_other _ _ b h
@[simp] theorem State.rated_cores (src : Nat) (code : BitVec 16) (key : Nat) (a0 a1 a2 : Word) (cnt : Bool) :
    (s.rated src code key a0 a1 a2 cnt).cores = s.cores := by
  simp only [State.rated]
  split
  · rfl
  · exact State.log_cores _ _
@[simp] theorem State.rated_power (src : Nat) (code : BitVec 16) (key : Nat) (a0 a1 a2 : Word) (cnt : Bool) :
    (s.rated src code key a0 a1 a2 cnt).power = s.power := by
  simp only [State.rated]
  split
  · rfl
  · exact State.log_power _ _

end Sys2Proof.Machine
end

