-- ==== Sys2Proof/WellFormed.lean ====
section
/-!
DEFINITION. Sys2Proof/WellFormed.lean: which commands can come. The types of the operands hold most bounds; what they do not
hold is checked here. `exec` is total and gives a command that is not well-formed no effect, or a bounded one, of its own.
-/
namespace Sys2Proof

/-- No number stands twice. -/
def distinct : List Nat → Bool
  | [] => true
  | a :: t => !t.contains a && distinct t

/-- A command that can come. A received PSDU has at most 2,047 octets (Table 04-6), on the 2.4 GHz channel 127 (R142); the
matches of one edge are of distinct channels (R96), as the measurements of one epoch are (R273); frame ports are 0–75 and
descriptor queues 0–255 (R183); a message has the words its bits need (R275); an input is low on at least one sample
(R297); fault classes are 1–19 (Table 17-2). -/
def Instr.wf : Instr → Bool
  | .qualify ms => !ms.isEmpty && distinct (ms.map (·.ch.val))
  | .laneRelease _ _ tail => decide (tail.length ≤ 2047)
  | .ismRxFrame octets status _ _ _ _ _ => decide (octets.length ≤ 127) && [0, 1, 5, 6].contains status.val
  | .macFilter _ f => decide (f.ieLen ≤ 2047)
  | .portWrite q _ _ _ _ => decide (q < 76)
  | .portRead q _ => decide (q < 76)
  | .creditReturn q => decide (q < 76)
  | .creditAudit dq i _ => decide (i < if dq then 256 else 76)
  | .creditModeRestore dq i => decide (i < if dq then 256 else 76)
  | .measurementEpoch ms => distinct (ms.map (·.ch.val))
  | .navMessage m => decide (m.data.length = (m.nbits + 31) / 32)
  | .stopInputAssert _ samples => decide (1 ≤ samples)
  | .faultDetected cls _ _ _ => decide (1 ≤ cls.val ∧ cls.val ≤ 19)
  | .add .. | .sub .. | .and .. | .or .. | .xor .. | .sll .. | .srl .. | .sra .. | .slt .. | .sltu .. | .mul ..
  | .mulhu .. | .mulh .. | .min .. | .max .. | .clz .. | .divu .. | .remu .. | .addi .. | .andi .. | .ori .. | .xori ..
  | .slti .. | .sltiu .. | .lui .. | .shi .. | .lw .. | .lh .. | .lhu .. | .lb .. | .lbu .. | .sw .. | .sh .. | .sb ..
  | .bcs .. | .bcu .. | .jal .. | .jalr .. | .mfs .. | .mts .. | .nop .. | .wfe .. | .rete .. | .fence .. | .trd ..
  | .trdSecondsHi .. | .twait .. | .twaitDone .. | .mwait .. | .mwaitDone .. | .tarm .. | .tarmPulse ..
  | .tarmCancel .. | .tarmFire .. | .trearm .. | .rxarm .. | .rxarmCancel .. | .txq .. | .pktget ..
  | .pktgetWaitDone .. | .pktput .. | .keyld .. | .kdrv .. | .pdreqOn .. | .pdreqRet .. | .pdreqOff .. | .pdstat ..
  | .stg .. | .chk .. | .blk .. | .blkNetworkTime .. | .blkMains .. | .logw .. | .logwFreeze .. | .logwClear ..
  | .mode .. | .modeChange | .stop .. | .resume .. | .act .. | .actPktMicrocode .. | .actGnssMicrocode ..
  | .actBundle .. | .actPauseEnd .. | .activationEnd .. | .eventEntry .. | .wdog .. | .wdogWarn .. | .dmaGo ..
  | .dmaDone .. | .inRing .. | .outRing .. | .seqRetireWrite .. | .modeSet .. | .modeGet .. | .timeRead ..
  | .updatePiece .. | .updateStatus .. | .updateCommit .. | .updateRevert .. | .updateActivate .. | .fleetResume ..
  | .fleetStop .. | .spoofclr .. | .gnssStatus .. | .timeCapture .. | .shadowRelease .. | .timeTadjWrite ..
  | .sourceCommit .. | .sourceLost .. | .sourceRevert | .holdoverUpdate .. | .timeColdStart | .counterLoad
  | .pulseEdge .. | .ethRxFrame .. | .ethTxFrame .. | .insertOrigin .. | .insertResidence .. | .linkChange ..
  | .mainsEdge .. | .mainsLost | .mainsCapture .. | .retune .. | .retuneEnd .. | .agcAttack .. | .agcDecay ..
  | .detectorEvaluation .. | .channelJam .. | .qualifierTimeout .. | .phrDecoded .. | .windowOpen .. | .windowClose ..
  | .pathOffRequest .. | .pathRunRequest .. | .pathCalRequest .. | .pathMapoutRequest .. | .calwaitExpiry ..
  | .pathCalDone .. | .laneMapWrite .. | .laneSelfcheck | .selfcheckEnd .. | .blankEnd .. | .frameFetch ..
  | .hopStart .. | .lock .. | .nolock .. | .lbtMeasurement .. | .airStart .. | .txComplete .. | .paSensorRead ..
  | .bgcalStart .. | .calibrationDone .. | .calreqAll .. | .calreqGo .. | .frqWrite .. | .bucketAdvance ..
  | .guardLock .. | .guardFused .. | .chainStart | .slotBeacon .. | .slotPoll .. | .slotListen .. | .slotWake ..
  | .slotAlarm .. | .receiveDecision .. | .deferredAckExpiry | .floodCacheExpiry | .expectationEvaluation ..
  | .expectationWindowClose .. | .lostqPop | .nodeRead .. | .nodeWrite .. | .nodeAlloc | .nodeRemove .. | .nodeState ..
  | .quarantineExpiry .. | .tokenReturn .. | .hrxPop .. | .htxPush .. | .hdqPop .. | .hdqPush .. | .regionInit ..
  | .regionInitDone | .pfxAdd .. | .pfxDel .. | .pfxRead .. | .pfxLookup | .rebuild | .pfxCommandDone | .routeLookup ..
  | .bridgeForward .. | .agerVisit .. | .brLookup | .brWrite .. | .brDelete .. | .brFlush .. | .readidx ..
  | .emLookupEui | .emLookupShort | .emLookupIid | .schedEnqueue .. | .selection .. | .shaperRefill ..
  | .wakeholdExpiry .. | .ageSweep .. | .flowIdleExpiry .. | .flowBind | .flowFree .. | .flowWake .. | .flowSleep ..
  | .flowRead .. | .policerRead .. | .pendSweep .. | .pendSweepDone | .setmode .. | .create .. | .importWrapped ..
  | .importPlain .. | .exportObj .. | .invalidate .. | .keysDelete .. | .readattr .. | .keysVerify .. | .authorise ..
  | .newchal .. | .keysCommandDone | .grantExpiry | .gcmRun .. | .gcmDone | .zeroizeSalt | .zeroize | .antEnable ..
  | .antOpen .. | .antRecover .. | .antShort .. | .antRetry | .assign .. | .release .. | .reacq .. | .searchStart
  | .searchDone .. | .trackEntry .. | .pullinTimeout .. | .lossOfLock .. | .cycleSlip .. | .txtWrite ..
  | .spoofWrite .. | .refFix .. | .fleetRx .. | .slotLost .. | .slotFree .. | .submit | .cancel .. | .cancelslot
  | .resRead .. | .reservationTick | .resultPop | .taskAdd | .next .. | .taskDone .. | .taskFail .. | .taskCancel ..
  | .taskRead .. | .go | .inputStuck .. | .stopDisc | .stopSw .. | .latchClear | .stopFrame .. | .delayExpiry ..
  | .domainEntryComplete .. | .domainOn .. | .wkrxFrame .. | .wkrxJam | .wkrxRearm | .vinGlitch | .vinLoss ..
  | .vinGood .. | .backupReturn | .vinWarn .. | .bakLow .. | .vbakCutoff .. | .aonPowerOnReset | .weekdayAdvance
  | .rtcAlarm .. | .xtalFail | .xtalGood | .rtcCapture .. | .rtcTsnap | .commitTime | .commitWday | .rtcCommitApply
  | .rtcShiftWrite .. | .rtcShiftApply | .toProvision .. | .fuseOwner .. | .toField .. | .toRma .. | .lcFusesDone
  | .tamperAssert .. | .debugOpen .. | .openingDone | .debugClose | .coreHalt .. | .coreStep .. | .domainFreeze ..
  | .lockoutExpiry | .extest | .samplePreload | .idcode | .bypass .. | .dbgacc .. | .piece .. | .erase .. | .updVerify
  | .updRelease .. | .loadslot | .updCommit | .updRevert | .setw | .setfind | .setdel | .pgret | .updCommandDone
  | .listHashDone .. | .imageHashDone .. | .trialExpiry | .revertTimeout | .bankApply .. | .hostStg .. | .hostChk ..
  | .hostBlk .. | .bankClear .. | .bankDisarm .. | .recoveryComplete .. | .faultWindowExpiry .. | .throttleEnd
  | .eccCorrected .. | .faultInject .. | .availClear .. | .availCheckpoint | .recordWrite | .rateLimitIntervalEnd ..
  | .evrWindowRead .. | .journalAppend .. | .checkpoint | .freeze .. | .unfreeze .. | .iqStop .. | .replayInput ..
  | .replayEnd | .resetNAssert .. | .resetNRelease .. | .resetApply .. | .rstoutRelease | .uartFrame ..
  | .mdioC22Write .. | .mdioC22Read .. | .mdioC45Address .. | .mdioC45Write .. | .mdioC45Read .. | .mdioDone ..
  | .perst | .ringTailWrite .. | .ringDeviceToHost .. | .ringHostToDevice .. | .qstWrite .. | .qstRead ..
  | .uartRxByte .. | .uartTxPush .. | .uartRxPop | .gpioEdge .. | .gpioRelease | .registerWrite ..
  | .stopInputRelease .. | .tamperInputRelease .. | .pcieLinkChange .. | .vbakPresentChange .. | .vbakReconnect
  | .tqLocked | .preambleCorrelation .. | .bitSynchronisation .. | .programSwapEnd .. | .replayStart
  | .emramStatesResolved | .pathCalRetry .. => true

end Sys2Proof
end

