-- ==== Sys2Proof/Tests/Slice0.lean ====
section
/-!
SUPPORT. Sys2Proof/Tests/Slice0.lean: the author's tests. Each `witness_<Statement>` shows, clause by clause, a state and operands that
meet the hypotheses of a statement of Certificates/Slice0/Obligations.lean together, at the ends of their ranges where there are any,
with what the rule makes of them; the values expected are those of the rules. Each `test_…` is one step or one check of its own.
-/
namespace Sys2Proof.Tests
open Sys2Proof.Machine

set_option Elab.async false

/-- A machine in mode BORDER with every domain ON and every core RUNNING at address 0 of its own instruction scratchpad. -/
def up : State := { State.reset with
  power := { State.reset.power with dom := Vector.replicate 15 { domReset with state := .on, target := .on } }
  cores := Vector.replicate 8 { coreReset with run := .running, pc := 0 }
  regs := [(SYS_MODE, 2)] }

/-- The machine `up` with some domains OFF. -/
def less (l : List Nat) (s : State := up) : State :=
  l.foldl (fun s d => s.modDom d fun k => { k with state := .off, target := .off }) s

/-- Registers written. -/
def set (l : List (Nat × Word)) (s : State := up) : State := l.foldl (fun s e => s.wr e.1 e.2) s

/-- General registers of core 0 written. -/
def gprs (l : List (Fin 16 × Word)) (s : State := up) : State := l.foldl (fun s e => s.setGpr 0 e.1 e.2) s

/-- Words in memory. -/
def mems (l : List (Nat × Word)) (s : State := up) : State := l.foldl (fun s e => s.stw e.1 e.2) s

/-- Core 0 changed. -/
def core0 (f : Core → Core) (s : State := up) : State := s.modCore 0 f

/-- The hypotheses hold, and the state after the command shows `p`. -/
def shows (h : Bool) (i : Instr) (s : State) (p : State → Bool) : Bool :=
  h && (match exec i s with
    | .next t => p t
    | _ => false)

/-- The hypotheses hold, and the command carries out; what it leaves rests on a free value of Config, which nothing can evaluate. -/
def completes (h : Bool) (i : Instr) (s : State) : Bool := shows h i s fun _ => true

/-- The hypotheses hold, and the command changes nothing. -/
def idles (h : Bool) (i : Instr) (s : State) : Bool := shows h i s fun t => t == s

/-- Every check of a list holds. -/
def all (l : List Bool) : Bool := l.all id

/-! ### The core instructions -/

/-- Core 0 with g1 and g2 set: the result that an instruction with gd = g3, ga = g1, gb = g2 leaves in g3, its pc 4 on. -/
def alu (i : Instr) (a b r : Word) : Bool :=
  let s := gprs [(1, a), (2, b)]
  shows (s.runs 0) i s fun t => t.gpr 0 3 == r && (t.core 0).pc == 4

theorem witness_AluInstructionsWriteTheirResult : all [
    alu (.add 0 3 1 2) 0xFFFFFFFF 1 0, alu (.sub 0 3 1 2) 0 1 0xFFFFFFFF, alu (.and 0 3 1 2) 0xF0F0 0xFF00 0xF000,
    alu (.or 0 3 1 2) 0xF0F0 0xFF00 0xFFF0, alu (.xor 0 3 1 2) 0xF0F0 0xFF00 0x0FF0, alu (.sll 0 3 1 2) 1 33 2,
    alu (.srl 0 3 1 2) 0x80000000 31 1, alu (.sra 0 3 1 2) 0x80000000 31 0xFFFFFFFF, alu (.slt 0 3 1 2) 0x80000000 0 1,
    alu (.sltu 0 3 1 2) 0x80000000 0 0, alu (.mul 0 3 1 2) 0x10000 0x10001 0x10000, alu (.mulhu 0 3 1 2) 0xFFFFFFFF 0xFFFFFFFF 0xFFFFFFFE,
    alu (.mulh 0 3 1 2) 0xFFFFFFFF 0xFFFFFFFF 0, alu (.min 0 3 1 2) 0xFFFFFFFF 1 0xFFFFFFFF, alu (.max 0 3 1 2) 0xFFFFFFFF 1 1,
    alu (.divu 0 3 1 2) 7 0 0xFFFFFFFF, alu (.divu 0 3 1 2) 7 2 3, alu (.remu 0 3 1 2) 7 0 7, alu (.remu 0 3 1 2) 7 2 1,
    alu (.addi 0 3 1 0x3FFFF) 0 0 0xFFFFFFFF, alu (.andi 0 3 1 0x3FFFF) 0xFFFFFFFF 0 0x3FFFF, alu (.ori 0 3 1 0x20000) 1 0 0x20001,
    alu (.xori 0 3 1 0x3FFFF) 0xFFFFFFFF 0 0xFFFC0000, alu (.slti 0 3 1 0x20000) 0 0 0, alu (.sltiu 0 3 1 0x3FFFF) 0 0 1,
    alu (.lui 0 3 0 0x3FFFF) 0 0 0xFFFFC000, alu (.shi 0 3 1 31) 3 0 0x80000000, alu (.shi 0 3 1 63) 0x80000000 0 1,
    alu (.shi 0 3 1 95) 0x80000000 0 0xFFFFFFFF, alu (.clz 0 3 1 0) 0 0 32, alu (.clz 0 3 1 0) 1 0 31,
    alu (.clz 0 3 1 0) 0xFFFFFFFF 0 0] = true := by decide +kernel

theorem test_g0_discards : all [shows true (.addi 0 0 0 5) up fun t => t.gpr 0 0 == 0 && (t.core 0).pc == 4,
    shows true (.add 0 1 1 1) (gprs [(1, 3)]) fun t => t.gpr 0 1 == 6] = true := by decide +kernel

/-- Where a branch of core 0 at 0 with g1, g2 and offset −1 or 2^13 − 1 words goes. -/
def goes (i : Instr) (a b pc : Word) : Bool :=
  let s := gprs [(1, a), (2, b)]
  shows (s.runs 0) i s fun t => (t.core 0).pc == pc && t.gpr 0 1 == a

theorem witness_BranchesAndJumpsGoWhereTheySay : all [
    goes (.bcs 0 1 2 0 0 0x3FFF) 5 5 0xFFFFFFFC, goes (.bcs 0 1 2 0 0 0x3FFF) 5 6 4, goes (.bcs 0 1 2 1 0 0x1FFF) 5 6 0x7FFC,
    goes (.bcs 0 1 2 2 0 8) 0x80000000 0 32, goes (.bcs 0 1 2 3 0 8) 0 0 32, goes (.bcu 0 1 2 0 0 8) 0 0x80000000 32,
    goes (.bcu 0 1 2 1 0 8) 5 5 32, goes (.bcu 0 1 2 2 0 8) 6 2 32, goes (.bcu 0 1 2 3 0 8) 6 1 32, goes (.bcu 0 1 2 3 0 8) 6 2 4,
    shows (up.runs 0) (.jal 0 5 0 0x3FFFF) up fun t => (t.core 0).pc == 0xFFFFFFFC && t.gpr 0 5 == 4,
    (let s := gprs [(1, 0x103)]
     shows (s.runs 0) (.jalr 0 1 1 0) s fun t => (t.core 0).pc == 0x100 && t.gpr 0 1 == 4),
    goes (.nop 0 0) 1 2 4] = true := by decide +kernel

theorem witness_ReservedBitsRaiseIllegalInsn :
    let illegal (i : Instr) : Bool := completes (up.runs 0 && (up.core 0).level == 0) i up
    all [illegal (.bcs 0 1 2 0 1 0), illegal (.bcu 0 1 2 0 3 0), illegal (.nop 0 1), illegal (.wfe 0 1), illegal (.rete 0 2),
      illegal (.fence 0 1), illegal (.clz 0 1 2 3), illegal (.lui 0 1 2 3), illegal (.jal 0 1 2 3), illegal (.shi 0 1 2 128),
      illegal (.shi 0 1 2 96), illegal (.rete 0 0)] = true := by decide +kernel

theorem witness_SpecialRegistersAreReadAndWritten :
    let s := gprs [(1, 0x12345FFF)] (core0 (fun k => { k with
      cyc := 0x123456789ABCDEF0, evpend := 7, evvec := 0x800, epc := k.epc.set 2 9, dmactl := 0x10, level := 2, even := true }))
    let reads (n : BitVec 18) (v : Word) : Bool := shows (s.runs 0 && s.plain 0) (.mfs 0 3 n) s fun t => t.gpr 0 3 == v && (t.core 0).pc == 4
    let writes (n : BitVec 18) (p : Core → Bool) : Bool := shows (s.plain 0) (.mts 0 1 n) s fun t => p (t.core 0) && (t.core 0).pc == 4
    all [reads 0 0, reads 1 0x21, reads 3 7, reads 7 0x800, reads 0x12 9, reads 0x20 0x9ABCDEF0, reads 0x33 0x10, reads 0x3FFFF 0,
      shows true (.mfs 0 3 0x20) s fun t => (t.core 0).cychi == 0x12345678,
      writes 1 fun k => k.even && k.level == 2, writes 4 fun k => k.evmask == 0x12345FFF, writes 7 fun k => k.evvec == 0x12345800,
      writes 0x14 fun k => k.estat.get 0 == 0x31, writes 0x24 fun k => k.stgmask == 0x12345FFF, writes 0x32 fun k => k.dmalen == 0x12345FFF,
      writes 3 fun k => k.evpend == 7, writes 0x3FFFF fun k => k == { s.core 0 with pc := 4 },
      (let u := gprs [(1, 0x5AFE)] s
       shows (u.plain 0) (.mts 0 1 0x28) u fun t => (t.core 0).wdogAt == 0x123456789ABCDEF0)] = true := by decide +kernel

theorem witness_EventsEnterAndReturn :
    let k0 := fun (k : Core) => { k with
      pc := 0x40, even := true, evmask := 0x80000001, evpend := 0x80000001, evlvl1 := 0xC0000000, evlvl0 := 1, evvec := 0x800
      gpr := k.gpr.set 10 77, l3 := k.l3.set 0 55 }
    let s := core0 k0
    let low := core0 fun k => { k0 k with evpend := 1 }
    let high (l : Fin 4) (e : Word) := core0 fun k => { k0 k with evpend := e, level := l }
    let t := core0 fun k => { k with level := 3, epc := k.epc.set 2 0x44, estat := k.estat.set 2 0x11 }
    all [
      shows (s.takesEvents 0 && (s.core 0).nextLine == some 31 && (s.core 0).lineLevel 31 == 3) (.eventEntry 0) s fun t =>
        (t.core 0).pc == 0x800 + 64 * 31 && (t.core 0).epc.get 2 == 0x40 && (t.core 0).estat.get 2 == 1 && (t.core 0).level == 3
          && (t.core 0).evpend == 1 && (t.core 0).gpr.get 10 == 55 && (t.core 0).l3.get 0 == 77,
      shows (low.takesEvents 0 && (low.core 0).nextLine == some 0 && (low.core 0).lineLevel 0 == 1) (.eventEntry 0) low fun t =>
        (t.core 0).level == 1 && (t.core 0).pc == 0x800 && t.gpr 0 10 == 77,
      shows (t.runs 0) (.rete 0 0) t fun t => (t.core 0).pc == 0x44 && (t.core 0).level == 1 && (t.core 0).even && (t.core 0).run == .running,
      idles ((high 1 1).takesEvents 0) (.eventEntry 0) (high 1 1), idles true (.eventEntry 0) (high 3 0x80000001), ((high 2 0x80000001).core 0).nextLine == some 31,
      ((high 0 1).core 0).nextLine == some 0] = true := by decide +kernel

theorem witness_LatchedResultsWaitsAndTheWatchdog :
    let u := core0 fun k => { k with level := 1, latch := k.latch.set 0 (some (.done 5 9)) }
    let w := core0 fun k => { k with level := 1, latch := k.latch.set 0 (some (.waiting (.mode 3 4))) }
    let s := core0 fun k => { k with
      pc := 0x40, even := true, evmask := 0x80000001, evpend := 0x80000001, evlvl1 := 0xC0000000, evlvl0 := 1, evvec := 0x800
      gpr := k.gpr.set 10 77, l3 := k.l3.set 0 55 }
    let ready := core0 fun k => { k with evpend := 4, evmask := 4 }
    let held := up.modDom 1 fun d => { d with busy := true, hold := some (.wfe 0) }
    let buf := core0 fun k => { k with wbuf := [⟨0x50000001, 2, 0xABCD1234⟩] }
    let dram := core0 fun k => { k with wbuf := [⟨0x80000000, 4, 0xABCD1234⟩] }
    let dog := set [(SEQ_CTLn 0, 0x10000000)]
    all [
      shows (u.runs 0) (.rete 0 0) u fun t => t.gpr 0 5 == 9 && (t.core 0).level == 0,
      shows (w.runs 0) (.rete 0 0) w fun t => (t.core 0).run == .waiting (.mode 3 4),
      shows (s.takesEvents 0 && (s.core 0).nextLine == some 31 && (s.core 0).latch.get 0 == none) (.eventEntry 0) s fun t => shows (t.runs 0) (.rete 0 0) t fun u =>
        (u.core 0).gpr == (s.core 0).gpr && (u.core 0).l3 == (s.core 0).l3 && (u.core 0).pc == 0x40 && (u.core 0).level == 0,
      shows (up.runs 0) (.wfe 0 0) up fun t => (t.core 0).run == .wfe && (t.core 0).pc == 4,
      shows (held.runs 0) (.wfe 0 0) held fun t => (t.dom 1).hold == none,
      shows (ready.runs 0) (.wfe 0 0) ready fun t => (t.core 0).run == .running && (t.core 0).pc == 4,
      shows ((up.core 0).wbuf == []) (.fence 0 0) up fun t => (t.core 0).pc == 4,
      shows (areaOf 0x50000001 == .shared) (.fence 0 0) buf fun t => t.loadN 0x50000001 2 == 0x1234 && (t.core 0).wbuf == [] && t.byte 0x50000003 == 0,
      shows (areaOf 0x80000000 == .dram && dram.isOn 9) (.fence 0 0) dram fun t => t.ldw 0x80000000 == 0xABCD1234,
      shows (dog.fld (SEQ_CTLn 0) 31 28 != 0 && dog.isOn (coreDom 0)) (.wdog 0) dog fun t => (t.core 0).lastev == 4,
      shows (dog.isOn 1) (.wdogWarn 0) dog fun t => t.mem == [],
      shows (up.plain 0 && up.gpr 0 1 != 0x5AFE) (.mts 0 1 0x28) up fun t => (t.core 0).lastev == 5] = true := by decide +kernel

theorem witness_DmaDoorbellsAndRetirement_dma :
    let s := core0 (fun k => { k with dmasrc := 0x50000000, dmadst := 0x10000008, dmalen := 8 }) (mems [(0x50000000, 0x11223344), (0x50000004, 5)])
    let long := core0 fun k => { k with dmasrc := 0x80000000, dmadst := 0x50000000, dmalen := 65536 }
    let odd := core0 fun k => { k with dmasrc := 0x80000000, dmadst := 0x50000000, dmalen := 12 }
    let busy := core0 (fun k => { k with dmactl := 0x80000050 }) s
    all [shows (s.issues 0 && s.dmaRange 0 0x50000000 8 false && s.dmaRange 0 0x10000008 8 true) (.dmaGo 0 0x80000050) s fun t =>
        (t.core 0).dmactl == 0x80000050,
      shows (long.issues 0 && long.dmaRange 0 0x80000000 65536 false && long.dmaRange 0 0x50000000 65536 true) (.dmaGo 0 0) long fun t =>
        (t.core 0).dmactl == 0x80000000,
      shows (odd.issues 0) (.dmaGo 0 0x1F0) odd fun t => (t.core 0).dmactl == 0x400001F0,
      shows (busy.issues 0) (.dmaGo 0 0) busy fun t => (t.core 0).dmactl == 0xC0000050,
      shows (busy.isOn 1 && !busy.lockedRange (corePhys 0 0x10000008) 8) (.dmaDone 0) busy fun t => (t.core 0).dmactl == 0x50
        && t.ldw (corePhys 0 0x10000008) == 0x11223344 && t.ldw (corePhys 0 0x1000000C) == 5 && (t.core 0).evpend == 0x20] = true := by decide +kernel

theorem witness_DmaDoorbellsAndRetirement :
    let full := set [(SEQ_MBSTATn 7, 0xFF000001)]
    let ret := set [(SEQ_RETIRE, 0x80)]
    let out := set [(SEQ_MBSTATn 7, 0x100)]
    let arm := up.modCore 7 fun k => { k with tarm := k.tarm.set 0 (some ⟨1, 2, 3, 4, 5, none⟩) }
    all [shows (up.isOn (coreDom 7) && !up.bit SEQ_RETIRE 7 && !up.bit (SEQ_MBSTATn 7) 0) (.inRing 7) up fun t => t.bit (SEQ_MBSTATn 7) 0,
      shows (full.bit (SEQ_MBSTATn 7) 0) (.inRing 7) full fun t => t.fld (SEQ_MBSTATn 7) 31 24 == 255,
      shows (ret.bit SEQ_RETIRE 7 && !ret.bit SEQ_SUCC 31) (.inRing 7) ret fun t => t.bit (SEQ_MBSTATn 7) 9,
      shows (up.isOn 11) (.outRing 7) up fun t => t.bit (SEQ_MBSTATn 7) 8 && t.bit HOST_IRQSTAT 7,
      shows (out.bit (SEQ_MBSTATn 7) 8) (.outRing 7) out fun t => t.fld (SEQ_MBSTATn 7) 23 16 == 1,
      shows (arm.fld SEQ_BOOTCORE 2 0 != 7 && arm.mode != 10) (.seqRetireWrite 0x80) arm fun t => (t.core 7).run == .retired
        && t.bit SEQ_RETIRE 7 && (t.core 7).tarm == Vector.replicate 8 none] = true := by decide +kernel

theorem witness_LoadsAndStoresMoveTheirBytes :
    let s := gprs [(1, 0x80000000), (2, 0x10000000), (3, 0x50000000), (5, 0xAABBCCDD)] (mems [(0x80000000, 0x8081F2F3), (0x8FFBFFFC, 7)])
    let fwd := core0 (fun k => { k with wbuf := [⟨0x50000000, 4, 99⟩] }) s
    let four := core0 (fun k => { k with wbuf := [⟨0x50000010, 4, 1⟩, ⟨0x50000014, 4, 2⟩, ⟨0x50000018, 4, 3⟩, ⟨0x5000001C, 4, 4⟩] }) s
    let loads (i : Instr) (v : Word) : Bool := shows (s.runs 0 && s.mode != 9 && s.reach 0 0x80000000 4 false == .ok) i s fun t =>
      t.gpr 0 4 == v && (t.core 0).pc == 4
    all [loads (.lw 0 4 1 0 false) 0x8081F2F3, loads (.lh 0 4 1 0 false) 0xFFFFF2F3, loads (.lhu 0 4 1 2 false) 0x8081,
      loads (.lb 0 4 1 0 false) 0xFFFFFFF3, loads (.lbu 0 4 1 3 false) 0x80,
      shows (fwd.reach 0 0x50000000 4 false == .ok) (.lw 0 4 3 0 false) fwd fun t => t.gpr 0 4 == 99,
      (let u := gprs [(1, 0x40000004)]
       shows (u.plain 0 && areaOf (u.ea 0 1 0) == .reg) (.lw 0 4 1 0 false) u fun t => t.gpr 0 4 == 2),
      shows (s.reach 0 0x10000000 4 true == .ok && areaOf 0x10000000 == .own) (.sw 0 5 2 0) s fun t => t.ldw (corePhys 0 0x10000000) == 0xAABBCCDD,
      shows (s.reach 0 0x10000002 2 true == .ok) (.sh 0 5 2 2) s fun t => t.ldw (corePhys 0 0x10000000) == 0xCCDD0000,
      shows (s.reach 0 0x10000003 1 true == .ok) (.sb 0 5 2 3) s fun t => t.ldw (corePhys 0 0x10000000) == 0xDD000000,
      shows (s.reach 0 0x50000000 4 true == .ok) (.sw 0 5 3 0) s fun t => (t.core 0).wbuf == [⟨0x50000000, 4, 0xAABBCCDD⟩] && t.mem == s.mem,
      shows ((four.core 0).wbuf.length == 4) (.sb 0 5 3 1) four fun t => t.ldw 0x50000010 == 1 && (t.core 0).wbuf.length == 4
        && (t.core 0).wbuf.getLast? == some ⟨0x50000001, 1, 0xAABBCCDD⟩] = true := by decide +kernel

theorem witness_DeniedAccessesDoNotTakePlace :
    let s := gprs [(1, 0x80000001), (2, 0), (3, 0x60000000), (5, 7)]
    let misaligned (i : Instr) (imm : BitVec 18) (n : Nat) : Bool := completes (s.runs 0 && s.ea 0 1 imm % n != 0) i s
    let denied (i : Instr) (ga : Fin 16) (imm : BitVec 18) (n : Nat) (st : Bool) : Bool :=
      completes (s.runs 0 && s.ea 0 ga imm % n == 0 && s.reach 0 (s.ea 0 ga imm) n st == .access) i s
    all [misaligned (.lw 0 5 1 0 false) 0 4, misaligned (.sw 0 5 1 1) 1 4, misaligned (.lh 0 5 1 0 false) 0 2,
      misaligned (.lhu 0 5 1 0 false) 0 2, misaligned (.sh 0 5 1 0) 0 2, denied (.lw 0 5 2 0 false) 2 0 4 false,
      denied (.lb 0 5 2 3 false) 2 3 1 false, denied (.lbu 0 5 2 0 false) 2 0 1 false, denied (.sb 0 5 3 0) 3 0 1 true,
      denied (.sw 0 5 3 4) 3 4 4 true] = true := by decide +kernel

/-! ### Network time, pulses, the mains axis and the RTC -/

theorem witness_TrdReadsTheNetworkTime :
    let s := up.modTime fun t => { t with running := true, sec := 0x100000005, grn := 0xFFFFFFFF, phase := 3 }
    all [
      shows (s.able 0 [12]) (.trd 0 8 9) s fun t => t.gpr 0 8 == 12 && t.gpr 0 9 == 6 && (t.core 0).trd == 0x1000000060000000C,
      completes (s.able 0 [12]) (.trd 0 8 8) s, completes true (.trd 0 0 8) s, completes true (.trd 0 8 0) s,
      shows true (.trdSecondsHi 0 8) (core0 (fun k => { k with trd := 0x7777000000050000000A }) s) fun t => t.gpr 0 8 == 0x7777] = true := by
  decide +kernel

theorem witness_TimeInstructionsWaitAndArm :
    let s := gprs [(1, 5), (2, 10), (3, 6), (4, 4), (7, 0x50000000)] ((mems [(0x50000000, 5), (0x50000004, 9), (0x50000008, 77), (0x5000000C, 0xF0003)]).modTime
      fun t => { t with running := true, sec := 0x100000005, grn := 10 })
    let off := gprs [(1, 5), (2, 10)]
    let wait := core0 (fun k => { k with run := .waiting (.twait 3 5 10) }) s
    let axis := gprs [(1, 5), (2, 0), (3, 6), (4, 4), (5, 1)] ((set [(TIME_MAINS_STAT, 0)]).modTime fun t => { t with mCyc0 := 5 })
    let mw := core0 (fun k => { k with run := .waiting (.mwait 3 5 0 false false) }) axis
    let fire := core0 (fun k => { k with tarm := k.tarm.set 7 (some ⟨5, 10, 0, 0, 31, none⟩) }) s
    let grant := set [(KEYS_AUTHSTAT, 0x10001)]
    let maint := set [(SYS_MODE, 10)]
    all [
      shows (up.able 0 [12] && !up.time.running) (.trd 0 8 9) (up.modTime fun t => { t with sec := 0x100000005, grn := 7, phase := 3 }) fun t =>
        t.gpr 0 8 == 7 && t.gpr 0 9 == 5,
      shows (s.gpr 0 1 == 5 && s.gpr 0 2 == 10) (.twait 0 8 1 2 0) s fun t => t.gpr 0 8 == 0 && (t.core 0).pc == 4,
      shows s.time.running (.twait 0 8 4 2 0) s fun t => t.gpr 0 8 == completion stLATE,
      shows s.time.running (.twait 0 8 3 2 0) s fun t => (t.core 0).run == .waiting (.twait 8 6 10) && (t.core 0).pc == 0,
      shows (!off.time.running) (.twait 0 8 1 2 0) off fun t => (t.core 0).run == .waiting (.twait 8 5 10),
      shows true (.twaitDone 0) wait fun t => t.gpr 0 3 == 0 && (t.core 0).pc == 4 && (t.core 0).run == .running,
      shows (axis.able 0 [12] && !axis.bit TIME_MAINS_STAT 0 && axis.mainsCyc == 5 && axis.mainsAng == 0) (.mwait 0 8 1 2 0) axis fun t =>
        t.gpr 0 8 == 0 && (t.core 0).pc == 4,
      shows true (.mwait 0 8 4 2 0) axis fun t => t.gpr 0 8 == completion stLATE,
      shows true (.mwait 0 8 1 5 0) axis fun t => (t.core 0).run == .waiting (.mwait 8 5 1 false false),
      shows true (.mwaitDone 0) mw fun t => t.gpr 0 3 == 0 && (t.core 0).pc == 4 && (t.core 0).run == .running,
      shows ((s.core 0).tarm.get 0 == none) (.tarm 0 8 7 31) s fun t => t.gpr 0 8 == completion stLATE
        && (t.core 0).tarm.get 0 == some ⟨5, 9, 3, 77, 31, none⟩,
      shows (fire.fld (TIME_PULSEn_CTL 3) 11 8 == 15) (.tarmPulse 0 8 7 3) fire fun t => t.gpr 0 8 == completion stLATE
        && (t.core 0).tarm.get 0 == some ⟨5, 9, 3, 77, 0, some 3⟩ && t.rd (TIME_PULSEn_PSEC 3) == 3 && t.fld (TIME_PULSEn_CTL 3) 11 8 == 0,
      shows true (.tarmCancel 0 8 7) fire fun t => t.gpr 0 8 == completion stOK 7 && (t.core 0).tarm.get 7 == none,
      shows (!(fire.core 0).evpend.getLsbD 31) (.tarmFire 0 7) fire fun t => (t.core 0).evpend == 0x80000000 && (t.core 0).tarm.get 7 == none,
      shows (up.able 0 [12] && up.isOn 14 && !up.logFull) (.trearm 0 8 0 0) up fun t => t.gpr 0 8 == completion stDENIED && t.rep.queue.length == 1,
      shows (grant.able 0 [12]) (.trearm 0 8 0 0) grant fun t => t.gpr 0 8 == 0 && t.rd KEYS_AUTHSTAT == 0 && t.bit TIME_CTL 0,
      shows (maint.mode == 10) (.trearm 0 8 0 0) maint fun t => t.gpr 0 8 == 0 && t.bit TIME_CTL 0] = true := by decide +kernel

theorem witness_TadjAndSnapshotGroups :
    let s := up.modTime fun t => { t with running := true, sec := 0x100000005, grn := 10 }
    let held := s.modTime fun t => { t with shadow := t.shadow.set 8 ⟨true, [1, 2, 3], 0, false⟩ }
    let stale := s.modTime fun t => { t with shadow := t.shadow.set 9 ⟨false, [], 0, true⟩ }
    all [shows (up.isOn 12) (.timeTadjWrite 549755813) up fun t => t.rd TIME_TADJ == 549755813 && !t.bit TIME_STAT 5,
      shows true (.timeTadjWrite (-549755813)) up fun t => t.rd TIME_TADJ == -549755813 && !t.bit TIME_STAT 5,
      shows true (.timeTadjWrite 549755814) up fun t => t.rd TIME_TADJ == 549755813 && t.bit TIME_STAT 5,
      shows true (.timeTadjWrite 0x80000000) up fun t => t.rd TIME_TADJ == -549755813 && t.bit TIME_STAT 5,
      shows true (.timeCapture .host 0) s fun t => t.bus == 5,
      shows true (.timeCapture .debug 1) stale fun t => t.bus == 0x80000001 && t.bit TIME_STAT 4,
      shows true (.timeCapture (.core 7) 2) s fun t => t.bus == 10,
      shows true (.timeCapture .host 2) held fun t => t.bus == 3,
      shows true (.mainsCapture .host 1) s fun t => t.bus == 0x80000000,
      shows true (.shadowRelease .host 0) held fun t => (vget t.time.shadow 8 ⟨false, [], 0, false⟩).stale] = true := by decide +kernel

theorem witness_SourcesHoldoverAndColdStart :
    let use := set [(TIME_TQ, 0x32), (TIME_SRCSEL, 0x103), (TIME_SRCk_S 3, 1), (TIME_SRCk_ACC 3, 50), (TIME_CTL, 0)]
    let valid := use.modTime fun t => { t with src := t.src.set 3 ⟨1, 0, true, true, 0, 0⟩, resid := 100 * 2 ^ 38 - 1 }
    let hold := (set [(TIME_TQ, 0x71), (TIME_HOMODEL, 0x00010101)]).modTime fun t => { t with e0 := 10, hoSec := 0, hoTemp := 25 }
    let inv := (set [(RTC_STAT, 0x40000000), (RTC_SEC_LO, 7), (RTC_SEC_HI, 1), (RTC_FRAC, 3)])
    all [shows (up.isOn 12) (.sourceCommit .host 3 1000000000) up fun t => t.bit TIME_STAT 6,
      shows (use.usedSrc == 3 && use.tracked 3 && !use.bit (TIME_SRCk_ACC 3) 31 && !use.bit TIME_CTL 0) (.sourceCommit .host 3 999999999) use
        fun t => t.time.resid == 1999999999 * 2 ^ 38 && (t.src 3).valid,
      shows (valid.src 3).valid (.sourceLost 3 20) valid fun t => !(t.src 3).valid,
      shows (valid.bit TIME_SRCSEL 8 && valid.primary == 3) .sourceRevert valid fun t => t.usedSrc == 3,
      shows (valid.usedSrc == 3 && valid.fld TIME_TQ 1 0 == 2) .tqLocked valid fun t => t.fld TIME_TQ 1 0 == 3,
      shows (hold.fld TIME_TQ 1 0 == 1) (.holdoverUpdate 27) hold fun t => t.time.hoSec == 1 && t.rd TIME_TQERR == 11,
      completes (valid.isOn 12) .timeColdStart valid,
      shows (up.bit RTC_STAT 31) .counterLoad up fun t => t.time.running && t.time.sec == 0,
      shows (!inv.bit RTC_STAT 31) .counterLoad inv fun t => t.time.sec == 0x100000007 && t.time.grn == 0x30000] = true := by decide +kernel

theorem witness_TimePulseAndMainsEdges :
    let tick := { (up.modTime fun t => { t with running := true }) with clock := 3 }
    let gen := (set [(TIME_PULSEn_CTL 3, 0xF01), (TIME_PULSEn_WIDTH 3, 100)]).modTime fun t =>
      { t with running := true, sec := 5, grn := 17, pulse := t.pulse.set 3 ⟨some (5, 0), 0, none⟩ }
    let squelch := set [(TIME_PULSEn_CTL 3, 0xF09)] gen
    let axis (iv : Nat) := (set [(TIME_MAINS_CTL, 1), (TIME_MAINS_STAT, 0)]).modTime fun t => { t with mEdge := some iv }
    let edge (iv : Nat) (p : State → Bool) : Bool := shows ((axis iv).bit TIME_MAINS_CTL 0) (.mainsEdge false) (axis iv) p
    all [tick.pending == [], !aonAt 4, tick.isOn 12,
      (match step tick with
        | .next t => t.time.grn == 17 && t.time.sub == 0x2E0BE827
        | _ => false),
      shows (gen.time.running && gen.bit (TIME_PULSEn_CTL 3) 0) (.pulseEdge 3) gen fun t => (t.time.pulse.get 3).ends == some 100,
      shows (squelch.squelched 3) (.pulseEdge 3) squelch fun t => t.fld (TIME_PULSEn_CNT 3) 31 16 == 1 && t.bit (TIME_PULSEn_CTL 3) 5,
      edge 999999 fun t => t.fld TIME_MAINS_STAT 31 16 == 1, edge 1000000 fun t => t.fld TIME_MAINS_STAT 15 8 == 1,
      edge 3845000 fun t => t.time.mIvals == [3845000], edge 5555000 fun t => t.time.mIvals == [5555000],
      edge 5555001 fun t => t.fld TIME_MAINS_STAT 15 8 == 1,
      shows (!(axis 0).bit TIME_MAINS_STAT 0) .mainsLost (axis 0) fun t => t.bit TIME_MAINS_STAT 0] = true := by decide +kernel

theorem witness_TheRtcTicksCommitsAndShifts :
    let staged := { set [(RTC_STAT, 0x80000200), (RTC_SETSEC_LO, 9), (RTC_SETSEC_HI, 1), (RTC_SETFRAC, 5)] with rtc := { up.rtc with commit := (true, false) } }
    let shift := set [(RTC_SHIFT, 0x8001FFFF), (RTC_STAT, 0x40000000), (RTC_SEC_LO, 1)]
    let day := set [(RTC_SEC_LO, 86399), (RTC_FRAC, 65534), (RTC_WDAY, 6), (RTC_STAT, 0x40000000)]
    let alarm := set [(RTC_ALMn_CTL 1, 0x80000000), (RTC_ALMn_SEC 1, 5), (RTC_SEC_LO, 4), (RTC_FRAC, 65534), (RTC_STAT, 0x40000000)]
    all [shows (!up.bit RTC_STAT 9) .commitTime up fun t => t.bit RTC_STAT 9 && t.rtc.commit == (true, false),
      shows true .commitWday up fun t => t.bit RTC_STAT 9 && t.rtc.commit == (false, true),
      shows (staged.bit RTC_STAT 9) .rtcCommitApply staged fun t => t.rd RTC_SEC_LO == 9 && t.fld RTC_SEC_HI 15 0 == 1 && !t.bit RTC_STAT 31,
      shows ((32768 : BitVec 17).toInt.natAbs ≤ 32768) (.rtcShiftWrite 32768) up fun t => t.bit RTC_SHIFT 31 && t.fld RTC_SHIFT 16 0 == 32768,
      shows (shift.bit RTC_SHIFT 31 && shift.fld RTC_TRIM 7 0 == 0) .rtcShiftApply shift fun t => t.rtcNow == 65537 && !t.bit RTC_SHIFT 31,
      shows (day.dayStart (day.rtcNext / 65536) && day.rtcNext / 65536 == 86400) .weekdayAdvance day fun t => t.fld RTC_WDAY 2 0 == 0,
      shows (alarm.bit (RTC_ALMn_CTL 1) 31 && alarm.rtcNext == 5 * 65536) (.rtcAlarm 1) alarm fun t => t.bit RTC_STAT 4 && !t.bit (RTC_ALMn_CTL 1) 31,
      shows (day.rtcNow / 65536 != day.rtcNext / 65536 && day.isOn 12) .rtcTsnap day fun t => t.rd RTC_TSNAP_RSEC == 86400,
      shows (day.bit RTC_STAT 30) .xtalFail day fun t => t.bit RTC_STAT 31 && t.bit RTC_STAT 1 && !t.bit RTC_STAT 30,
      shows true .xtalGood up fun t => t.bit RTC_STAT 30,
      shows true (.rtcCapture .host false 0) day fun t => t.bus == 86399,
      shows true (.rtcCapture .debug false 1) up fun t => t.bus == 0x40000000] = true := by decide +kernel

/-! ### Ethernet, reception -/

theorem witness_EthernetMdioAndPtpInsertion :
    let l : List Byte := List.replicate 12 0 ++ [8, 0] ++ List.replicate 46 0
    let link := set [(NET_PORTp_CTL 1, 0x80000000), (NET_PORTp_STAT 1, 0x80000000)]
    let busy := { up with net := { up.net with mdio := some (4, 31, 31) } }
    let ptp : List Byte := List.replicate 12 0 ++ [0x88, 0xF7] ++ List.replicate 44 0
    let ins (age : Nat) := { set [(NET_PTP_CTLp 1, 3), (NET_INSp_SLO 1, 7)] with
      clock := age, net := { up.net with wait := up.net.wait.set 1 [⟨ptp, 14, 0⟩] } }
    all [
      shows (link.isOn 10 && (l ++ fcsOf l).length == 64 && be16 l 12 == 0x0800 && link.rd (NET_PTP_CTLp 1) == 0) (.ethRxFrame 1 (l ++ fcsOf l)) link
        fun t => t.rd (NET_PORTp_RXOK 1) == 1,
      shows true (.ethRxFrame 1 (l ++ [0, 0, 0, 0])) link fun t => t.fld (NET_PORTp_ERR 1) 23 16 == 1,
      shows (link.bit (NET_PORTp_STAT 1) 31) (.ethTxFrame 1 l) link fun t => t.net.out.get 1 == l ++ fcsOf l && t.rd (NET_PORTp_TXOK 1) == 1,
      shows (!up.bit (NET_PORTp_STAT 0) 31) (.linkChange 0 true true true 2) up fun t => t.rd (NET_PORTp_STAT 0) == 0xE8000000,
      shows (!up.bit NET_MDIO_DATA 31) (.mdioC22Write 31 0) up fun t => t.bit NET_MDIO_DATA 31 && t.net.mdio == some (0, 31, 0),
      shows true (.mdioC22Read 1 2) up fun t => t.net.mdio == some (1, 1, 2),
      shows true (.mdioC45Address 1 2) up fun t => t.net.mdio == some (2, 1, 2),
      shows true (.mdioC45Write 1 2) up fun t => t.net.mdio == some (3, 1, 2),
      shows true (.mdioC45Read 1 31) up fun t => t.net.mdio == some (4, 1, 31),
      shows true (.mdioDone (some 0xFFFE)) busy fun t => t.fld NET_MDIO_DATA 15 0 == 0xFFFE && !t.bit NET_MDIO_DATA 30,
      shows true (.mdioDone none) busy fun t => t.fld NET_MDIO_DATA 15 0 == 0xFFFF && t.bit NET_MDIO_DATA 30,
      (let s := ins ((up.insertDeadline 0 .l2 ptp))
       shows (s.ptpEvent 1 ptp == some (.l2, 14)) (.insertOrigin 1) s fun t => t.net.wait.get 1 == [] && t.fld (NET_PTPCNTp 1) 15 0 == 1
        && ((t.net.out.get 1).drop 48).take 6 == [0, 0, 0, 0, 0, 7]),
      (let s := ins ((up.insertDeadline 1 .l2 ptp) + 1)
       shows true (.insertResidence 1) s fun t => t.net.wait.get 1 == [] && t.fld (NET_PTPCNTp 1) 31 24 == 1)] = true := by decide +kernel

/-- The machine with receive path p in a state. -/
def path (p st : Nat) (s : State := up) : State := s.modPath p fun x => { x with st := st }

/-- The machine with a frame of channel c in lane n, in state st. -/
def lane (n st c : Nat) (phr : Option (Nat × Nat × BitVec 16 × BitVec 12 × Nat)) (s : State) : State :=
  (s.setLane n (some ⟨c, 1, false, false, 3, 127, 0, 0, phr, 0⟩)).setFld (CARD_LANE_STATn n) 31 29 st

theorem witness_ReceivePathsGainAndQualifiers :
    let run := path 1 2
    let busy := lane 63 1 255 none run
    let drain := busy.modPath 1 fun x => { x with st := 5, target := 3 }
    let ch := set [(CARD_CHCFGc 255, 0x8F000008), (CARD_CTL, up.rd CARD_CTL ||| 1)] run
    let jam := ch.modRx fun r => { r with above := [(255, 25 * ch.fld CARD_NFCTL 15 0)], qual := [(255, .corr)] }
    let sfd := ch.modRx fun r => { r with qual := [(255, .sfd 3)] }
    let out := (path 1 6).wr (CARD_PATHp_STAT 1) 0
    let failed := { out with rep := { out.rep with wins := (({ path 1 1 with rep := out.rep }).fault 6 0x32 0 0).rep.wins } }
    let st (t : State) : Nat := (t.rxPath 1).st
    all [
      shows (up.isOn 3) (.retune 1 78179) up fun t => t.bit CARD_STAT 4,
      shows true (.retune 1 94721) run fun t => t.bit CARD_STAT 4 && st t == 2,
      shows true (.retuneEnd 1) (path 1 3) fun t => st t == 2,
      completes (busy.isOn 3) (.pathOffRequest 1) busy,
      shows (st run == 2) (.pathOffRequest 1) run fun t => st t == 0,
      shows (up.bit (CARD_PATHp_STAT 1) 0 == false) (.pathRunRequest 1) up fun t => st t == 1,
      shows true (.pathRunRequest 1) (set [(CARD_PATHp_STAT 1, 1)]) fun t => st t == 3,
      shows (busy.pathBusy 1) (.pathCalRequest 1) busy fun t => st t == 5 && (t.rxPath 1).target == 2,
      shows true (.pathMapoutRequest 1) busy fun t => st t == 5 && (t.rxPath 1).target == 3,
      shows (!run.pathBusy 1) (.pathCalRequest 1) run fun t => st t == 1,
      shows true (.pathMapoutRequest 1) run fun t => st t == 6,
      completes (st drain == 5) (.calwaitExpiry 1) drain,
      shows true (.pathCalDone 1 true (-5)) (path 1 1) fun t => st t == 2 && t.bit (CARD_PATHp_STAT 1) 0 && t.fld (CARD_PATHp_CAL 1) 31 24 == 251,
      shows true (.pathCalDone 1 false 20) (path 1 1) fun t => st t == 6,
      shows (failed.rep.wins.any fun e => e.2.cls == 6 && e.2.block == 0x32) (.pathCalRetry 1) failed fun t => st t == 1,
      shows true (.blankEnd 1) (run.modPath 1 fun x => { x with blank := true }) fun t => !(t.rxPath 1).blank && st t == 2,
      shows (!run.bit (CARD_PATHp_CTL 1) 4) (.agcAttack 1) (set [(CARD_PATHp_STAT 1, 0x1100)] run) fun t => t.fld (CARD_PATHp_STAT 1) 12 8 == 18,
      shows true (.agcDecay 1) (set [(CARD_PATHp_STAT 1, 0x1200)] run) fun t => t.fld (CARD_PATHp_STAT 1) 12 8 == 17,
      shows (ch.pathRuns 1 && ch.chOn 255 && ch.mayQualify 255) (.detectorEvaluation 255 (ch.floorOf 255 + 8)) ch fun t =>
        t.floorOf 255 == ch.floorOf 255 && tabGet (fun _ => QualSt.idle) t.rx.qual 255 == .corr,
      shows true (.detectorEvaluation 255 (ch.floorOf 255 + 7)) ch fun t => t.floorOf 255 == ch.floorOf 255 + roundDiv 7 16,
      shows true (.channelJam 255) jam fun t => t.bit CARD_STAT 5 && tabGet (fun _ => 0) t.rx.above 255 == 0,
      shows (jam.bit (CARD_CHCFGc 255) 27 && jam.mayQualify 255) (.preambleCorrelation 255 3) jam fun t => tabGet (fun _ => QualSt.idle) t.rx.qual 255 == .sfd 3,
      shows true (.qualifierTimeout 255) sfd fun t => tabGet (fun _ => QualSt.idle) t.rx.qual 255 == .idle && t.fld (CARD_CHCNTc 255) 15 0 == 1] = true := by
  decide +kernel

theorem witness_LanesAndReceiveWindows :
    let ch := set [(CARD_CHCFGc 255, 0x9F000008), (CARD_CTL, up.rd CARD_CTL ||| 3)] (path 1 2)
    let sfd := ch.modRx fun r => { r with qual := [(255, .sfd 3)], tag := 9 }
    let full := (List.range 64).foldl (fun (s : State) n => s.setFld (CARD_LANE_STATn n) 31 29 1) sfd
    let dec := lane 63 1 255 none ch
    let short := set [(CARD_CTL, 0x00140003)] dec
    let data := lane 63 2 255 (some (0, 20, 1, 2, 3)) ch
    let check := set [(CARD_CTL, ch.rd CARD_CTL ||| 0x100)] (ch.modRx fun r => { r with scNext := 63 })
    let self := ch.setFld (CARD_LANE_STATn 63) 31 29 3
    let arm := gprs [(1, 0x50000000)] (mems [(0x50000000, 1), (0x50000004, 2), (0x50000008, 3), (0x5000000C, 0xFFF0)] (less [12] ch))
    let taken := arm.modRx fun r => { r with win := (List.range 128).map fun w => (w, some ⟨0, 0, 1, 0, false, 0, false, 0, false, false⟩) }
    let armed := (set [(CARD_RXWINw 127, 0x40000000)] (up.setWin 127 (some ⟨0, 0, 1000, 0, false, 0, false, 0, true, false⟩))).modTime fun t => { t with grn := 5000 }
    let cancel := gprs [(1, 127)] armed
    all [
      shows (sfd.pathRuns 1 && sfd.bit (CARD_CHCFGc 255) 28 && !sfd.bit (CARD_CHCFGc 255) 30 && sfd.bit CARD_CTL 1 && sfd.laneState 0 == 0)
        (.qualify [⟨255, true, 7⟩]) sfd fun t => t.laneState 0 == 1 && t.fld (CARD_LANE_SFDn 0) 15 0 == 7 && t.rx.tag == 10,
      shows ((List.range 64).all fun m => full.laneState m != 0) (.qualify [⟨255, true, 7⟩]) full fun t => t.fld (CARD_CHCNTc 255) 31 16 == 1 && t.bit CARD_STAT 7,
      completes ((dec.laneFrame 63).isSome) (.phrDecoded 63 true true false 20 0 0 0) dec,
      completes (3 < 4) (.phrDecoded 63 false false false 3 0 0 0) dec,
      completes (short.fld CARD_CTL 26 16 < 2047) (.phrDecoded 63 false true false 2047 0 0 0) short,
      shows (dec.laneState 63 == 1) (.phrDecoded 63 false true true 2 1 2 0) dec fun t => t.laneState 63 == 2,
      shows ((data.laneFrame 63).any fun f => f.phr.isSome) (.laneRelease 63 true []) data fun t => t.laneFrame 63 == none && t.laneState 63 == 0,
      shows true (.laneRelease 63 false []) data fun t => t.fld (CARD_LANE_STATn 63) 15 8 == 1,
      shows (up.mode != 10) (.laneMapWrite true 0x80000000) dec fun t => t.laneState 63 == 4 && t.laneMapped 63,
      shows true (.laneMapWrite false 0x80000000) up fun t => t.laneState 31 == 5 && !t.laneMapped 0,
      shows (check.fld CARD_CTL 15 8 != 0 && check.laneState 63 == 0) .laneSelfcheck check fun t => t.laneState 63 == 3 && t.rx.scNext == 0,
      shows (self.laneState 63 == 3) (.selfcheckEnd 63 true) self fun t => t.laneState 63 == 0,
      shows true (.selfcheckEnd 63 false) self fun t => t.laneState 63 == 5 && t.laneMapped 63,
      shows (arm.able 0 [3] && !arm.isOn 12 && !arm.idleHalf 255) (.rxarm 0 5 1 63) arm fun t => t.gpr 0 5 == completion stOK
        && t.fld (CARD_RXWINw 0) 31 30 == 1 && t.fld (CARD_RXWINw 0) 23 16 == 255,
      shows ((List.range 128).all fun w => (taken.rxWin w).isSome) (.rxarm 0 5 1 0) taken fun t => t.gpr 0 5 == completion stFULL && t.bit CARD_STAT 0,
      shows ((cancel.gpr 0 1).toNat % 128 == 127) (.rxarmCancel 0 5 1 0) cancel fun t => t.gpr 0 5 == completion stOK 0 127 && t.rxWin 127 == none
        && t.fld (CARD_RXWINw 127) 27 24 == 3,
      shows (armed.fld (CARD_RXWINw 127) 31 30 == 1) (.windowOpen 127) armed fun t => t.fld (CARD_RXWINw 127) 31 30 == 2,
      shows (armed.isOn 3) (.windowClose 127) armed fun t => t.rxWin 127 == none && t.fld (CARD_RXWINw 127) 27 24 == 1] = true := by decide +kernel

/-! ### Transmission and mesh access -/

/-- A transmit command of TXB for the entry 5 at 868.1 MHz, 20 octets in the clear. -/
def cmd : TxCmd :=
  { src := .core 0 3 true 0x10000000 0xFFFF, tag := 0xFFFF, sec := 1, grn := 0, lateMax := 0, stop := false, entry := 5, power := 40, rate := 0, fec := false
    uni := false, pre := 8, target := 0, frame := ⟨20, false, 1, 0xFFFF, false, false⟩, ksel := 2, ctr := 0, order := 7, fetched := true
    displaced := false, off := 0, demoted := false }

/-- The machine with TXB enabled, its entry 5 valid, and a band that permits it. -/
def tx : State := (set [(SUBTX_CTL, 3), (SUBTX_SYNx_FRQk 1 5, 86810000), (SUBTX_SYNx_CALk 1 5, 0x00800000), (SUBTX_SYNx_STAT 1, 0x20050000),
  (SUBTX_GRDSTAT, 0x80000000), (SUBTX_GRDb_FRQ 7, 0x80000000 + 86810), (SUBTX_GRDb_GRID 7, 0x00010001), (SUBTX_GRDb_MAPj 7 0, 1), (SUBTX_GRDb_DUTY 7, 0x36EE8000)])

/-- The synthesiser of TXB in a state, serving a command. -/
def serving (st : Nat) (r : TxRun) : State := (tx.setSyn 1 st).modChain 1 fun c => { c with run := some r }

theorem witness_SynthesiserEntriesAndQueuedCommands :
    let cal := serving 5 ⟨cmd, none, 7, false, none, 0, 0, 0⟩
    let bg := (set [(SUBTX_CTL, 0x13)] tx).modChain 1 fun c => { c with calreq := some 5 }
    let d (x : Word) (cls rate pow : Word) : List (Nat × Word) := [(0x50000000, 1), (0x50000004, 2), (0x50000008, 0x00FA0005 + x * 0x1000 + cls * 0x4000),
      (0x5000000C, pow * 0x100000 + rate * 0x10000 + 0x100), (0x50000018, 0x1000FFF0), (0x5000001C, 0x2FFFF)]
    let q (x cls rate pow : Word) := gprs [(1, 0x50000000)] (mems (d x cls rate pow) tx)
    let full := (q 1 0 0 40).modChain 1 fun c => { c with queue := List.replicate 16 cmd }
    let fr : TxFrame := ⟨2047, false, 1, 0xFFFF, false, false⟩
    all [
      frqInRange 1 86810000, completes (tx.isOn 4) (.frqWrite 1 1023 86810000) tx, !frqInRange 1 5,
      shows (tx.isOn 4) (.frqWrite 1 0 5) tx fun t => t.bit (txStat 1) 10,
      completes ((-128 : Int) ≤ 127) (.paSensorRead 1 127 65535) tx, completes (tx.calValid 1 5) (.calreqAll 1) tx,
      shows true (.calreqGo 1 1023) tx fun t => (t.chain 1).calreq == some 1023,
      shows (bg.syn 1 == 1 && bg.bgcal 1 && (bg.chain 1).queue == []) (.bgcalStart 1) bg fun t => t.syn 1 == 5 && t.fld (synStat 1) 25 16 == 5,
      completes (cal.syn 1 == 5) (.calibrationDone 1 true 0x3FFFFF) cal, completes (cal.syn 1 == 5) (.calibrationDone 1 false 0) cal,
      completes ((tx.setSyn 1 2).syn 1 == 2 && (tx.chain 1).run.isNone) (.nolock 1 true) (tx.setSyn 1 2),
      shows ((q 1 0 8 0xF60).able 0 [4, 7] && (q 1 0 8 0xF60).txDepth 1 == 0) (.txq 0 5 1 1 fr) (q 1 0 8 0xF60) fun t => t.gpr 0 5 == completion stOK 0 1
        && (t.chain 1).queue.getLast?.any fun m => m.sec == 1 && m.power == -160 && m.entry == 5 && m.tag == 0xFFFF && m.lateMax == 250,
      shows true (.txq 0 5 1 0 fr) (q 1 0 3 144) fun t => t.gpr 0 5 == completion stOK 0 1,
      shows (full.txDepth 1 == 16) (.txq 0 5 1 0 fr) full fun t => t.gpr 0 5 == completion stFULL,
      shows true (.txq 0 5 1 0 fr) (q 1 1 0 40) fun t => t.gpr 0 5 == completion stRANGE,
      shows true (.txq 0 5 1 0 fr) (q 1 0 4 40) fun t => t.gpr 0 5 == completion stRANGE,
      shows true (.txq 0 5 1 0 fr) (q 1 0 0 145) fun t => t.gpr 0 5 == completion stRANGE,
      shows true (.txq 0 5 1 0 { fr with len := 2048 }) (q 1 0 0 40) fun t => t.gpr 0 5 == completion stRANGE,
      shows true (.txq 0 5 1 0 fr) (q 3 0 0 40) fun t => t.gpr 0 5 == completion stRANGE] = true := by decide +kernel

theorem witness_CommandsHopLockAndGoOnAir :
    let wait (m : TxCmd) := tx.modChain 1 fun c => { c with queue := [m] }
    let early := wait { cmd with sec := 10 }
    let fetch := wait { cmd with fetched := false }
    let none := { fetch with qfab := { fetch.qfab with tx := 16 } }
    let off := set [(SUBTX_GRDb_FRQ 7, 0)] early
    let run := serving 2 ⟨{ cmd with sec := 10 }, Option.none, 7, false, Option.none, 0, 0, 0⟩
    let late := (serving 2 ⟨cmd, Option.none, 7, false, Option.none, 0, 0, 0⟩).modTime fun t => { t with sec := 2 }
    let lbt := set [(SUBTX_GRDb_LBT 7, 0x80B00064)] (serving 3 ⟨{ cmd with lateMax := 101 }, some (2 ^ 32), 7, false, Option.none, 0, 0, 0⟩)
    let air := serving 3 ⟨cmd, some (2 ^ 32), 7, true, Option.none, 0, 0, 0⟩
    let on := serving 6 ⟨cmd, some (2 ^ 32), 7, true, some 0, 0, 0, 40⟩
    all [
      shows ((none.nextFetch 1).isSome && none.isOn 7) (.frameFetch 1 false) none fun t => t.qfab.heldTx == [⟨1, 0, 1, 7⟩] && t.bit QFAB_STAT 3,
      shows ((fetch.nextFetch 1) == some { cmd with fetched := false }) (.frameFetch 1 false) fetch fun t => t.qfab.tx == 1
        && (t.chain 1).queue.all fun n => n.fetched,
      early.guardCheck 1 { cmd with sec := 10 } false == .inr 7,
      shows ((early.nextTx 1).isSome && early.synFree 1 && early.calValid 1 5) (.hopStart 1) early fun t => t.syn 1 == 2 && t.fld (synStat 1) 25 16 == 5
        && (t.chain 1).queue == [],
      off.guardCheck 1 { cmd with sec := 10 } false == .inl (4, 1),
      shows ((off.nextTx 1).isSome) (.hopStart 1) off fun t => t.fld (txLast 1) 15 0 == 256 + 4 && (t.chain 1).run.isNone,
      shows (run.syn 1 == 2) (.lock 1) run fun t => t.syn 1 == 3 && ((t.chain 1).run.any fun r => r.a == some (10 * 2 ^ 32)),
      shows (late.syn 1 == 2) (.lock 1) late fun t => (t.chain 1).run.isNone && t.fld (txLast 1) 15 0 == 258,
      shows (lbt.syn 1 == 3) (.lbtMeasurement 1 (-81)) lbt fun t => (t.chain 1).run.any fun r => r.clear,
      shows true (.lbtMeasurement 1 (-80)) lbt fun t => (t.chain 1).run.any fun r => !r.clear && r.a == some (2 ^ 32 + 429497),
      shows (air.syn 1 == 3) (.airStart 1 0) air fun t => t.syn 1 == 6 && (t.chain 1).trsw && (t.chain 1).paEn,
      shows (on.syn 1 == 6) (.txComplete 1 false) on fun t => t.syn 1 == 1 && (t.chain 1).run.isNone && t.ldw (corePhys 0 0x10000000) == 0xFFFF0000,
      shows true (.txComplete 1 true) on fun t => t.fld (txLast 1) 15 0 == 5 * 256 + 5 && t.ldw (corePhys 0 0x10000000) == 0xFFFF0055] = true := by
  decide +kernel

theorem witness_DutyGuardTokensAndTheIsmReceiver :
    let duty := (set [(SUBTX_GRDb_DUTY 7, 0x80)] tx).modDuty 7 fun _ => ⟨9, List.replicate 360 1, []⟩
    let lock := set [(SYS_MODE, 1)]
    let fuse := lock.modTx fun t => { t with fusing := true }
    let ism := set [(ISM_RX_CTL, 0x80000000)]
    let tok := { up with qfab := { up.qfab with lane := 0x8000000000000001, tx := 1, ch := 1 } }
    all [
      shows ((List.range 3).all fun x => (duty.chain x).run.isNone) (.bucketAdvance 0) duty fun t => (t.duty 7).cur == 0 && (t.duty 7).hist.head? == some 9
        && (t.duty 7).hist.length == 360,
      shows ((set [(SUBTX_GRDb_FRQ 0, 0x40000000)]).bandRadio 0 == 1) (.bucketAdvance 0) (set [(SUBTX_GRDb_FRQ 0, 0x40000000)]) fun t => t.duty 0 == ⟨0, [], []⟩,
      shows (lock.isOn 4 && lock.mode == 1 && lock.fld SUBTX_GRDSTAT 31 30 == 0) (.guardLock 0x4C4B0001) lock fun t => t.tx.fusing,
      completes fuse.tx.fusing (.guardFused true) fuse, completes fuse.tx.fusing (.guardFused false) fuse,
      shows (ism.isOn 5 && !(ism.chain 2).trsw && ism.mode != 9) (.ismRxFrame [] 0 true 0 0 0 0) ism fun t => t.fld ISM_RX_CNT 31 16 == 1,
      shows true (.ismRxFrame [1, 2] 7 false 0 0xFFF 0 0xFFFF) ism fun t => t.fld ISM_RX_SFD 15 0 == 0xFFFF && t.fld ISM_RX_STAT 31 20 == 0xFFF && t.rx.tag == 1,
      shows true (.tokenReturn 0 63) tok fun t => t.qfab.lane == 1,
      shows (0 < tok.qfab.tx) (.tokenReturn 1 0) tok fun t => t.qfab.tx == 0,
      shows true (.tokenReturn 2 0) tok fun t => t.qfab.ch == 0] = true := by decide +kernel

/-- The machine with a chain in progress from second 4, whose slot n of path 1 has entry v. -/
def slots (n : Nat) (v : Word) (s : State := tx) : State :=
  (set [(MAC_SLOTb_p_s 0 1 n, v), (SUBTX_SYNx_FRQk 1 6, 86810000), (MAC_TXENT1, 0)] s).modMac fun m => { m with chain := some ⟨4, 0, #v[false, false]⟩ }

/-- A context: octets of its hardware area at offsets. -/
def node (i : Nat) (l : List (Nat × Byte)) (s : State := up) : State :=
  l.foldl (fun s e => s.setByte (0x80000000 + 256 * i + e.1) e.2) (s.wr MAC_NTBASE 0x80000000)

theorem witness_ChainsSlotsAndTheirStart :
    let run := (set [(MAC_CTL, up.rd MAC_CTL ||| 1), (MAC_CHAINCTL, 0x31), (TIME_TQ, 1)]).modTime fun t => { t with running := true, sec := 7 }
    let beacon := slots 799 0x22180000
    let queue := slots 3 0x401A0000
    let poll := node 0 [(0x0B, 0x20), (0x37, 0)] (slots 3 0x40180000)
    let out := node 0 [(0x0B, 0x30)] (slots 3 0x40180000)
    all [
      shows (run.isOn 7 && run.bit MAC_CTL 0 && run.tqState == 1 && run.mode != 7) .chainStart run fun t => t.mac.chain == some ⟨6, 1, #v[true, true]⟩
        && t.rd MAC_RSTIME0 == 6 && t.bit MAC_CHAINCTL 8,
      shows (!(set [(MAC_CTL, 0)] run).bit MAC_CTL 0) .chainStart (set [(MAC_CTL, 0)] run) fun t => t.mac.chain == none,
      completes ((beacon.slotNow 1 799).isSome && beacon.txBase 1 == 0 && beacon.chainOn 1) (.slotBeacon 1 799) beacon,
      shows true (.slotBeacon 1 3) (slots 3 0x20180000) fun t => t.bit MAC_STAT 2,
      completes (poll.pollable 0 (slotStart 4 3)) (.slotPoll 1 3 none) poll,
      shows (!out.pollable 0 (slotStart 4 3)) (.slotPoll 1 3 none) out fun t => t.bit MAC_STAT 2,
      completes (queue.slotNow 1 3).isSome (.slotPoll 1 3 (some (⟨20, true, 1, 2, false, false⟩, 3, 63))) queue,
      shows true (.slotPoll 1 3 none) queue fun t => t.bit MAC_STAT 2,
      idles true (.slotListen 1 0) (slots 0 0x60000FFF), shows true (.slotListen 1 0) (slots 0 0x60001000) fun t => t.bit MAC_STAT 2,
      completes true (.slotWake 1 0) (slots 0 0x8418FFFF), shows true (.slotWake 1 0) (slots 0 0x84180000) fun t => t.bit MAC_STAT 2,
      idles true (.slotAlarm 1 0) (slots 0 0xA004007F), shows true (.slotAlarm 1 0) (slots 0 0xA0000000) fun t => t.bit MAC_STAT 2] = true := by decide +kernel

/-- A frame of a node to this device. -/
def mlp : MlpFrame :=
  { options := true, security := true, secured := true, ar := false, dsn := 1, counter := 9, keyIndex := 1, pan := 7, dest := .short 1, src := .ext 5
    ver := 1, typ := 3, oui := 0, ieLen := 7, origin := 0, seq := 0 }

theorem witness_ContactsAndMacDecisions :
    let lost := up.modMac fun m => { m with lost := [131071, 3], deferred := [⟨5, 1, 0, 0⟩], seen := [(1, 2, 0)] }
    let late := { lost with clock := 2000000000 }
    let exp := (node 5 [(0x0B, 0x21), (0x32, 0), (0x36, 0)] (set [(MAC_SLOTb_p_s 0 0 0, 0x60000000), (MAC_LLBASE, 0x90000000), (MAC_BRIMCFG, 0x40000002)]
      (mems [(0x90000000, 1), (0x90000004, 5)]))).modMac fun m => { m with chain := some ⟨0, 0, #v[false, false]⟩ }
    let far := node 5 [(0x14, 0), (0x1C, 0xFF), (0x1D, 0xFF)] ((set [(MAC_BRIMCFG, 0x00400002)] exp).modMac fun m => { m with chain := some ⟨2000, 0, #v[false, false]⟩ })
    let win (c : Bool) := exp.modMac fun m => { m with wins := [⟨5, 0, 0, 0, 1, c⟩] }
    let dev := (set [(MAC_OWNi_PAN 15, 0x80000007), (MAC_OWNi_ADDR 15, 1), (MAC_OUI, 0)]).modFwd fun f => { f with em := f.em.set 0 [⟨5, 3, some 0⟩] }
    let ended (st : Nat) (head : RxHead) := ((node 3 [(0x20, 8)] dev).setPort 64 { dev.port 64 with
      frame := [BitVec.ofNat 64 (st * 256), 0] }).modMac fun m => { m with head := [(64, some head)] }
    let join := { mlp with typ := 5, ieLen := 11, src := .ext 99 }
    all [
      shows (lost.isOn 7) .lostqPop lost fun t => t.bus == 0x8001FFFF && t.mac.lost == [3], shows true .lostqPop up fun t => t.bus == 0,
      shows (0 + 2000000000 ≤ late.clock) .deferredAckExpiry late fun t => t.mac.deferred == [] && t.rd (MAC_CNTm 8) == 1,
      shows true .floodCacheExpiry late fun t => t.mac.seen == (if late.fld MAC_FLOODCFG 15 8 * 1000000000 ≤ 2000000000 then [] else [(1, 2, 0)]),
      exp.expected 5 ⟨0, 0, #v[false, false]⟩, exp.evalChain 5 != none, !exp.mustResync 5, exp.nodeState 5 == 2,
      shows true (.expectationEvaluation 5) exp fun t => t.mac.wins.length == 1,
      far.expected 5 ⟨2000, 0, #v[false, false]⟩, shows true (.expectationEvaluation 5) far fun t => t.nodeState 5 == 3 && t.mac.lost == [5],
      shows true (.expectationWindowClose 5) (win true) fun t => t.mac.wins == [],
      shows ((win false).mode != 9) (.expectationWindowClose 5) (win false) fun t => t.node 5 0x3B 1 == 1 && t.mac.wins == [],
      shows (!dev.addressed { mlp with dest := .short 2 }) (.macFilter 64 { mlp with dest := .short 2 }) dev fun t => t.rd (MAC_CNTm 0) == 1,
      shows (dev.addressed mlp) (.macFilter 64 { mlp with secured := false }) dev fun t => t.rd (MAC_CNTm 2) == 1,
      shows (!mlpOk { mlp with ieLen := 6 } 0) (.macFilter 64 { mlp with ieLen := 6 }) dev fun t => t.rd (MAC_CNTm 1) == 1,
      shows (dev.sourceNode { mlp with src := .ext 6 } == none) (.macFilter 64 { mlp with src := .ext 6 }) dev fun t => t.rd (MAC_CNTm 19) == 1,
      completes (dev.sourceNode mlp == some 3 && mlpOk mlp 0 && join.typ == 5) (.macFilter 64 mlp) dev,
      shows ((ended 1 ⟨mlp, some 3, false, true⟩).trailer 64).isSome (.receiveDecision 64 true false) (ended 1 ⟨mlp, some 3, false, true⟩) fun t =>
        t.mac.out == some ⟨64, 4, false, false⟩,
      shows true (.receiveDecision 64 false false) (ended 0 ⟨mlp, some 3, false, true⟩) fun t => t.mac.out == some ⟨64, 3, false, false⟩ && t.rd (MAC_CNTm 3) == 1,
      shows ((ended 0 ⟨mlp, some 3, false, true⟩).node 3 0x20 4 < 9) (.receiveDecision 64 true false) (ended 0 ⟨mlp, some 3, false, true⟩) fun t =>
        t.mac.out == some ⟨64, 0, true, false⟩ && t.node 3 0x20 4 == 9,
      shows true (.receiveDecision 64 true false) (ended 0 ⟨{ mlp with counter := 7 }, some 3, false, true⟩) fun t => t.mac.out == some ⟨64, 2, false, false⟩] = true := by
  decide +kernel

theorem firstNat_none (p : Nat → Bool) (h : ∀ i, p i = false) (n i : Nat) : firstNat p n i = none := by
  induction n generalizing i with
  | zero => rfl
  | succ n ih => simp [firstNat, h, ih]

/-- A node table laid past the top of the address space reads as the erased flash: no context is FREE. -/
theorem witness_nodeAlloc_full : (set [(MAC_NTBASE, 0xFFFFFFFF)]).freeNode = none := by
  apply firstNat_none
  intro i
  have e : (set [(MAC_NTBASE, 0xFFFFFFFF)]).byte ((set [(MAC_NTBASE, 0xFFFFFFFF)]).nodeBase i + 0x0B) = 0xFF := by
    have b : (set [(MAC_NTBASE, 0xFFFFFFFF)]).nodeBase i = 0xFFFFFFFF + 256 * i := rfl
    rw [b]
    have h : memDefault (0xFFFFFFFF + 256 * i + 0x0B) = 0xFF := by
      unfold memDefault flashBase
      rw [if_neg (by omega), if_pos (by omega)]
    exact h
  simp only [State.nodeState, State.node, State.loadN]
  rw [e]
  decide

theorem witness_NodeCommandsActOnTheContext :
    let s := (node 131071 [(0x0B, 0x20), (0x00, 5)]).modFwd fun f => { f with em := f.em.set 0 [⟨5, 131071, some 0⟩, ⟨6, 1, some 0⟩] }
    let write := set [(MAC_NODEWMASK, 8), (MAC_NODEWINw 3, 0xABCD)] s
    let other := set [(MAC_NODEWMASK, 3), (MAC_NODEWINw 0, 6)] s
    let quar := { (node 7 [(0x0B, 0x50)]).modMac fun m => { m with quar := [(7, 1)] } with clock := 4000000000 }
    all [
      shows (s.nodeState 0 == 0) (.nodeRead 0) s fun t => t.rd MAC_NODECMDSTAT == word stNOTREADY, shows true (.nodeState 0 15) s fun t => t.rd MAC_NODECMDSTAT == word stNOTREADY,
      shows (s.nodeState 131071 == 2) (.nodeRead 131071) s fun t => t.rd MAC_NODECMDSTAT == word (131071 * 256) && t.rd (MAC_NODEWINw 0) == 5,
      shows ((write.nodeKeys 131071).all fun k => write.emFind k.1 k.2 == some 131071) (.nodeWrite 131071) write fun t => t.node 131071 12 4 == 0xABCD,
      shows (other.emFind false 6 == some 1) (.nodeWrite 131071) other fun t => t.rd MAC_NODECMDSTAT == word (131071 * 256 + stRANGE),
      shows (up.freeNode == some 0 && up.nodeKeys 0 == []) .nodeAlloc up fun t => t.nodeState 0 == 1 && t.rd MAC_NODECMDSTAT == 0,
      shows true (.nodeRemove 131071) s fun t => t.nodeState 131071 == 5 && t.emFind false 5 == none,
      shows true (.nodeState 131071 5) s fun t => t.nodeState 131071 == 5, shows true (.nodeState 131071 6) s fun t => t.rd MAC_NODECMDSTAT == word (131071 * 256 + stRANGE),
      shows (quar.nodeState 7 == 5) (.quarantineExpiry 7) quar fun t => t.nodeState 7 == 0] = true := by decide +kernel

/-! ### The queue fabric, forwarding and scheduling -/

/-- A frame port changed. -/
def pt (q : Nat) (f : Port → Port) (s : State := up) : State := s.setPort q (f (s.port q))

/-- A descriptor queue changed. -/
def dqs (d : Nat) (f : DescQ → DescQ) (s : State := up) : State := s.setDescq d (f (s.descq d))

theorem witness_FramePortsKeepWordsAndCredits :
    let w := mkFWord 0x0123456789ABCDEF true false false
    let v := mkFWord 0xFFFFFFFFFFFFFFFF false true true
    let full := pt 75 fun p => { p with cred := 0 }
    let bp := pt 0 fun p => { p with bp := true, words := List.replicate 8 v }
    let one (q : Nat) (x : FWord) (r : Bool) := pt q fun p => { p with words := [x, v], rIn := r, cred := p.cred - 2 }
    let aud (q c : Nat) := pt q fun p => { p with cred := c }
    all [
      shows ((up.port 0).wait == [] && (up.port 0).room 0) (.portWrite 0 0x0123456789ABCDEF true false false) up fun t =>
        (t.port 0).words == [w] && (t.port 0).cred == 7,
      shows (!(full.port 75).room 75) (.portWrite 75 0xFFFFFFFFFFFFFFFF false false true) full fun t => (t.port 75).wait == [v] && (t.port 75).words == [],
      shows (!(bp.port 0).room 0) (.portWrite 0 0 true true false) bp fun t => (t.port 0).wait.length == 1 && (t.port 0).words.length == 8,
      shows ((pt 0 fun p => { p with bp := true }).port 0).bp (.portWrite 0 0 true true false) (pt 0 fun p => { p with bp := true }) fun t =>
        (t.port 0).words.length == 1 && (t.port 0).cred == 8,
      shows ((up.port 75).words == []) (.portRead 75 false) up fun t => (t.port 75).out == ⟨0, false, false, false, false, false⟩,
      shows (w.ok && w.sof) (.portRead 63 false) (one 63 w false) fun t => (t.port 63).out == ⟨0x0123456789ABCDEF, true, true, false, false, false⟩
        && (t.port 63).words == [v] && (t.port 63).rIn && t.qfab.lane.getLsbD 63,
      shows (chPort 64) (.portRead 64 false) { one 64 w false with qfab := { (one 64 w false).qfab with ch := 15 } } fun t => t.qfab.ch == 16 && (t.port 64).out.sof,
      shows w.ok (.portRead 0 true) (one 0 w false) fun t => (t.port 0).out == ⟨0x0123456789ABCDEF, true, true, true, true, true⟩
        && (t.port 0).disc == .parity && t.fld (QFAB_Qq_CNT 0) 31 24 == 1 && t.bit QFAB_STAT 1,
      shows (!v.sof) (.portRead 75 false) (one 75 v false) fun t => !(t.port 75).out.valid && t.fld (QFAB_Qq_CNT 75) 15 8 == 1,
      shows w.sof (.portRead 75 false) (one 75 w true) fun t => (t.port 75).out == ⟨0, true, false, true, true, true⟩ && t.fld (QFAB_Qq_CNT 75) 15 8 == 1,
      shows true (.creditReturn 0) (pt 0 fun p => { p with transit := 1, cred := 7 }) fun t => (t.port 0).cred == 8 && (t.port 0).transit == 0,
      shows ((set [(QFAB_CTL, 1)]).bit QFAB_CTL 0) (.creditAudit false 64 none) (set [(QFAB_CTL, 1)] (aud 64 8)) fun t => !(t.port 64).bp,
      shows true (.creditAudit false 75 (some 63)) (set [(QFAB_CTL, 1), (QFAB_Qq_CFG 75, 0x80000040)]) fun t => (t.port 75).bp && !t.bit (QFAB_Qq_CFG 75) 31
        && t.bit QFAB_STAT 0 && t.fld (QFAB_Qq_CNT 75) 7 0 == 1,
      shows true (.creditModeRestore false 69) (pt 69 fun p => { p with bp := true, cpend := true, cred := 0 }) fun t => (t.port 69).cred == 32
        && !(t.port 69).bp && !(t.port 69).cpend] = true := by decide +kernel

theorem witness_EmptyReadsChangeNothing : all [
      shows ((up.descq 0).items == [] && up.able 0 [7]) (.pktget 0 5 0 0 false) (gprs [(5, 9)]) fun t => t.gpr 0 5 == 0 && (t.core 0).pc == 4,
      shows true (.pktget 0 5 0 511 false) up fun t => (t.core 0).run == .waiting (.pktget 5 255) && (t.core 0).pc == 0,
      shows ((up.port 0).words == [] && !up.upd.pktPause) (.portRead 0 true) up fun t => (t.port 0).out == ⟨0, false, false, false, false, false⟩ && t.regs == up.regs,
      shows ((up.port 75).words == []) (.portRead 75 false) up fun t => (t.port 75).out == ⟨0, false, false, false, false, false⟩ && t.regs == up.regs,
      shows ((up.port 75).words == []) (.hrxPop false) up fun t => t.bus == 0x80000000,
      shows ((up.descq 255).items == []) (.hdqPop false) (set [(QFAB_HDQSEL, 255)]) fun t => t.bus == 0x80000000] = true := by decide +kernel

theorem witness_DescriptorQueuesAndHostWindows :
    let held := dqs 255 fun x => { x with items := [(16383, false), (2, true)], cred := 16382 }
    let run := up
    let wait (d : Nat) := core0 (fun k => { k with run := .waiting (.pktget 5 d) }) held
    let none := dqs 255 fun x => { x with cred := 0 }
    let bpq := set [(QFAB_DQLIMd 255, 1)] (dqs 255 fun x => { x with bp := true, items := [(1, false)] })
    let w := mkFWord 0x0123456789ABCDEF true true false
    let hrx := pt 75 fun p => { p with words := [w] }
    let htx := set [(QFAB_HTX_HI, 1), (QFAB_HTX_LO, 2)]
    let sel (s : State) := set [(QFAB_HDQSEL, 255)] s
    all [
      shows (run.able 0 [7]) (.pktget 0 5 0 255 false) held fun t => t.gpr 0 5 == 0x80003FFF && (t.descq 255).items == [(2, true)]
        && (t.descq 255).cred == 16383,
      shows true (.pktget 0 5 0 511 true) held fun t => t.gpr 0 5 == 0xC0003FFF,
      shows (up.mode != 9) (.pktgetWaitDone 0 false) (wait 255) fun t => t.gpr 0 5 == 0x80003FFF && (t.core 0).run == .running,
      shows true (.pktput 0 5 1 255) (gprs [(1, 0xFF000007)]) fun t => t.gpr 0 5 == completion stOK && (t.descq 255).items == [(7, false)]
        && (t.descq 255).cred == 16383,
      shows true (.pktput 0 5 1 255) (gprs [(1, 7)] none) fun t => (t.core 0).run == .waiting (.pktput 5 255 7),
      shows true (.pktput 0 5 1 255) (gprs [(1, 7)] bpq) fun t => (t.core 0).run == .waiting (.pktput 5 255 7),
      shows w.ok (.hrxPop false) hrx fun t => t.bus == 14 && t.rd QFAB_HRX_LO == 0x89ABCDEF && t.rd QFAB_HRX_HI == 0x01234567 && (t.port 75).words == [],
      shows ((htx.port 74).room 74) (.htxPush 6) htx fun t => (t.port 74).words == [mkFWord 0x100000002 true true false],
      shows true (.htxPush 6) (pt 74 (fun p => { p with cred := 0 }) htx) fun t => t.rd QFAB_HTXOVR == 1 && (t.port 74).words == [],
      shows true (.hdqPop true) (sel held) fun t => t.bus == 0x40003FFF,
      shows true (.hdqPush 16383) (sel up) fun t => (t.descq 255).items == [(16383, false)],
      shows true (.hdqPush 16384) (sel up) fun t => t.rd QFAB_HTXOVR == 1 && (t.descq 255).items == [],
      shows true (.hdqPush 0) (sel none) fun t => t.rd QFAB_HTXOVR == 1,
      shows true (.creditAudit true 255 Option.none) (set [(QFAB_CTL, 1), (QFAB_HDQSEL, 255), (QFAB_DQLIMd 255, 0x80004000)] held) fun t => !(t.descq 255).bp,
      shows true (.creditAudit true 255 (some 0)) (set [(QFAB_CTL, 1), (QFAB_HDQSEL, 255), (QFAB_DQLIMd 255, 0x80004000)] held) fun t => (t.descq 255).bp
        && t.bit QFAB_STAT 0 && t.rd (QFAB_DQLIMd 255) == 0x4000,
      shows true (.creditModeRestore true 255) (set [(QFAB_DQLIMd 255, 0x80000009)] (dqs 255 fun x => { x with bp := true, cpend := true })) fun t =>
        (t.descq 255).cred == 9 && !(t.descq 255).bp] = true := by decide +kernel

/-- A machine whose trie and shadow hold prefixes. -/
def tries (l : List Pfx) (s : State := up) : State := s.modFwd fun f => { f with trie := l, shadow := l }

theorem witness_PrefixCommandsKeepTheLongestMatch :
    let key := set [(FWD_PFXKEYk 3, 0xFD000000), (FWD_PFXKEYk 0, 1)]
    let p (n r : Nat) : Pfx := ⟨maskPfx key.pfxKey n, n, r⟩
    let two := tries [p 24 7, p 128 9] key
    let st (t : State) : Word := (t.fwd.cmd.map (·.status)).getD 1
    let busy := two.modFwd fun f => { f with cmd := some ⟨0, 5, [], [p 24 7], [], false⟩ }
    all [
      lpm [p 24 7, p 128 9] key.pfxKey == some (p 128 9), lpm [p 24 7, p 128 9] 0 == none,
      shows (key.fwd.cmd.isNone && !key.bit FWD_STAT 6 && (trieFull [p 24 4095]).isNone) (.pfxAdd 24 4095) key fun t => st t == 0
        && (t.fwd.cmd.map (·.trie)) == some [p 24 4095] && t.rd FWD_PFXSTAT == 0x80000000,
      shows (trieFull [p 128 0]).isNone (.pfxAdd 128 0) key fun t => st t == 0 && (t.fwd.cmd.map (·.trie)) == some [p 128 0],
      shows true (.pfxAdd 11 0) key fun t => st t == pfxStat stRANGE, shows true (.pfxAdd 129 0) key fun t => st t == pfxStat stRANGE,
      shows true (.pfxDel 128) two fun t => st t == 0 && (t.fwd.cmd.map (·.trie)) == some [p 24 7],
      shows true (.pfxDel 64) two fun t => st t == pfxStat stNOTREADY,
      shows true (.pfxRead 24) two fun t => (t.fwd.cmd.map (·.res)) == some 0x80180007, shows true (.pfxRead 13) two fun t => (t.fwd.cmd.map (·.res)) == some 0,
      shows true .pfxLookup two fun t => (t.fwd.cmd.map (·.res)) == some 0x80800009,
      shows true .pfxLookup (set [(FWD_DEFAULT, 0x80000FFF)] key) fun t => (t.fwd.cmd.map (·.res)) == some 0xC0000FFF,
      shows true .pfxLookup key fun t => (t.fwd.cmd.map (·.res)) == some 0,
      shows true .rebuild two fun t => t.fwd.trie == [] && (t.fwd.cmd.map (·.trie)) == some [p 24 7, p 128 9],
      shows busy.fwd.cmd.isSome (.pfxAdd 12 0) busy fun t => t.bit FWD_STAT 4,
      shows true .pfxCommandDone busy fun t => t.rd FWD_PFXRES == 5 && t.fwd.trie == [p 24 7] && t.fwd.cmd.isNone && t.rd FWD_PFXSTAT == 0,
      shows true (.regionInit 0x80000000) (mems [(0x807C0000, 1), (0x80800000, 2)] two) fun t => t.rd FWD_DBASE == 0x80000000 && t.bit FWD_STAT 6
        && t.fwd.shadow == [] && t.byte 0x807C0000 == 0 && t.byte 0x80800000 == 2,
      shows true .regionInitDone (set [(FWD_STAT, 0x40)]) fun t => !t.bit FWD_STAT 6] = true := by decide +kernel

/-- A table of 65,537 prefixes is one too many for the trie. -/
theorem witness_pfxAdd_full (p : Pfx) : trieFull (List.replicate 65537 p) = some (1, 0) := by
  unfold trieFull
  rw [List.length_replicate]
  rfl

theorem length_eraseDups (n : Nat) : ∀ l : List Nat, l.length ≤ n → l.eraseDups.length ≤ l.length := by
  induction n with
  | zero => intro l h; simp [List.length_eq_zero_iff.mp (Nat.le_zero.mp h)]
  | succ n ih =>
    intro l h
    cases l with
    | nil => simp
    | cons a t =>
      have f := List.length_filter_le (fun b => !b == a) t
      have e := ih (t.filter fun b => !b == a) (by simp at h; omega)
      simp only [List.eraseDups_cons, List.length_cons]
      omega

/-- One prefix uses no more root entries than its length leaves. -/
theorem rootEntries_one (p : Pfx) : rootEntries [p] ≤ 2 ^ (24 - p.len) := by
  unfold rootEntries
  refine Nat.le_trans (length_eraseDups _ _ (Nat.le_refl _)) ?_
  simp

/-- A shortest prefix fills its part of the root table and no node of a level. -/
theorem witness_pfxAdd_shortest (r : Nat) : trieFull [⟨0#128, 12, r⟩] = none := by
  have f : (List.range 8).find? (fun _ => false) = none := rfl
  have h : ¬4096 < rootEntries [⟨0#128, 12, r⟩] := Nat.not_lt.mpr (rootEntries_one _)
  unfold trieFull
  rw [if_neg h]
  simp [bankCells, levelCells, pfxLevel, f]

theorem witness_FramesForwardAndTheBridgeLearns :
    let a : BitVec 128 := 0xFD000000000000000200000000000005
    let res (kind arg : Word) (s : State := up) := set [(FWD_CTL, 0x00FF0001), (FWD_RESr 7, kind * 0x10000000 + arg), (MAC_RPLCFG, 32)] (tries [⟨maskPfx a 24, 24, 7⟩] s)
    let n5 := (node 5 [(0x0B, 0x20), (0x0C, 0xFF), (0x0D, 0xFF), (0x0E, 0xFF), (0x0F, 0xFF), (0x34, 0x80)]).modFwd fun f => { f with em := f.em.set 0 [⟨5, 5, some 0⟩] }
    let goes (s : State) (l : List Dest) (c : Nat) := shows (s.isOn 7 && s.bit FWD_CTL 0 && s.mode != 7) (.routeLookup a false) s fun t => t.fwd.dest == l
      && t.rd (FWD_CNTm c) == 1
    let sby (s : State) := set [(SYS_MODE, 5)] s
    let em := set [(FWD_EMKEY_LO, 5), (FWD_EMKEY_HI, 0x02000000)] n5
    all [
      goes (set [(FWD_CTL, 0x00FF0001)]) [.queue 255] 1, goes (res 0 0) [] 3, goes (res 1 0) [.port 72] 0, goes (res 2 0) [.port 73] 0, goes (sby (res 2 0)) [] 11,
      goes (res 3 0) [.port 75] 0, goes (res 4 0 n5) [.egress 1 5] 0, goes (res 4 0) [.queue 255] 2, goes (res 5 5 n5) [.egress 1 5] 0,
      shows true (.routeLookup a true) (res 5 5 n5) fun t => t.fwd.dest == [], goes (res 6 255) [.queue 255] 0,
      shows true (.routeLookup a false) (res 5 131071 n5) fun t => t.fwd.dest == [],
      shows true (.routeLookup a false) (res 7 0) fun t => t.fwd.dest == [.queue 255],
      shows (!em.bit FWD_STAT 6) .emLookupEui (set [(FWD_EMKEY_HI, 0)] em) fun t => t.rd FWD_EMSTAT == 0x80000005,
      shows true .emLookupEui em fun t => t.rd FWD_EMSTAT == 0, shows true .emLookupShort em fun t => t.rd FWD_EMSTAT == 0,
      completes (em.emKey / 2 ^ 16 != 0xFFFE00) .emLookupIid em] = true := by decide +kernel

/-- A machine with the entry of (MAC 2, VID 4095) in its bridge table. -/
def bridge (e : BrEnt) (s : State := up) : State :=
  set [(FWD_CTL, 2), (FWD_BRCFG, 0x0002000F), (FWD_AGECLK, 9), (FWD_BRKEY_LO, 2), (FWD_BRKEY_HI, 0x0FFF0000)]
    (s.modFwd fun f => { f with br := [(4 * brBucket 2 4095, some e)] })

theorem witness_bridge :
    let e : BrEnt := ⟨2, 4095, 2, false, 8⟩
    let s := bridge e
    let i := 4 * brBucket 2 4095
    let b : Fin 4096 := Fin.ofNat 4096 (brBucket 2 4095)
    let learn := set [(FWD_BRPORTp 0, 0x80000001)] s
    all [
      shows (s.brFind 2 4095 == some (i, e)) (.bridgeForward 0 2 7 4095 false) s fun t => t.fwd.dest == [.port 75],
      shows true (.bridgeForward 2 2 7 4095 false) s fun t => t.fwd.dest == [],
      shows (s.brFind 7 0 == none) (.bridgeForward 3 7 7 0 false) s fun t => t.fwd.dest == [.port 72, .port 73, .port 75],
      shows ((0x010000000000 : BitVec 48).getLsbD 40) (.bridgeForward 1 0x010000000000 7 0 false) s fun t => t.fwd.dest == [.port 72, .port 75, .router],
      shows (learn.brFind 8 1 == none && learn.fld (FWD_BRPCNTp 0) 14 0 == 0 && (learn.brEnt (4 * brBucket 8 1)).isNone) (.bridgeForward 0 2 8 1 true) learn fun t =>
        (t.brFind 8 1).map (·.2) == some ⟨8, 1, 0, false, 9⟩,
      shows (s.brAge e == 1) (.agerVisit b) (set [(FWD_BRCFG, 0x00040000)] s) fun t => t.brEnt i == some e,
      shows true (.agerVisit b) s fun t => t.brEnt i == none,
      shows true (.agerVisit b) (bridge { e with static := true }) fun t => t.brEnt i == some { e with static := true },
      shows ((bridge { e with stamp := 10 }).brAge { e with stamp := 10 } < 0) (.agerVisit b) (bridge { e with stamp := 10 }) fun t => t.brEnt i == some { e with stamp := 9 },
      shows true .brLookup s fun t => t.rd FWD_BRSTAT == word (i * 65536) && t.rd FWD_BRDATA == 0x80020008,
      shows true .brLookup (set [(FWD_BRKEY_LO, 3)] s) fun t => t.rd FWD_BRSTAT == word stNOTREADY,
      shows true (.brWrite false) (set [(FWD_BRDATA, 0x40010005)] s) fun t => t.brEnt i == some ⟨2, 4095, 1, true, 5⟩,
      shows true (.brWrite true) (set [(FWD_BRKEY_LO, 3), (FWD_BRDATA, 0x00010005)] s) fun t => (t.brFind 3 4095).map (·.2) == some ⟨3, 4095, 1, false, 5⟩,
      shows true (.brDelete false) s fun t => t.brEnt i == none && t.rd FWD_BRSTAT == word (i * 65536),
      shows true (.brDelete true) (set [(FWD_BRKEY_LO, 3)] s) fun t => t.fwd == s.fwd,
      shows (tabRising s.fwd.br) (.brFlush false 2) s fun t => t.fwd.br == [], shows true (.brFlush true 3) s fun t => t.brEnt i == some e,
      shows true (.readidx (Fin.ofNat 16384 i)) (set [(FWD_BRKEY_LO, 0)] s) fun t => t.rd FWD_BRKEY_LO == 2 && t.rd FWD_BRKEY_HI == 0x0FFF0000] = true := by
  decide +kernel

/-- A machine whose scheduler has flow f bound for egress 0 and node 5, with frames. -/
def flows (f : Nat) (st : Nat) (l : List SFrame) (s : State := up) : State :=
  (set [(SCHED_CTL, 0x00100103), (SCHED_FLOWf_STAT f, word (st * 2 ^ 30 + 2 ^ 20 + 5)), (SCHED_FLOWf_CFG f, 0x00100000), (SCHED_EGe_CFG 0, 0x81000003)] s).modSched fun k =>
    { k with flow := [(f, { Machine.freeFlow 0 with bound := true, auto := true, frames := l })] }

theorem witness_FlowsTakeSelectAndAgeFrames :
    let h : SFrame := ⟨9, 5, 160, 0⟩
    let idle := flows 4095 1 []
    let one := flows 4095 2 [h]
    let old := set [(SCHED_EGe_TIM 0, 0x00010000)] { one with clock := 1000000000 }
    let two := set [(SCHED_EGe_TIM 0, 0x00010000)] { flows 0 2 [h, h] with clock := 999999999 }
    let q (e : Fin 4) (a b : Word) : Instr := .schedEnqueue e (some 16383) a b
    all [
      shows (idle.mode != 9) (q 0 5 0) idle fun t => t.rd (SCHED_CNTm 7) == 1 && t.bit SCHED_STAT 4 && t.sched == idle.sched,
      shows true (q 0 0x40000005 1) idle fun t => t.rd (SCHED_CNTm 7) == 1, shows true (q 3 0xE0000100 1) idle fun t => t.rd (SCHED_CNTm 7) == 1,
      shows (idle.flowOf 5 == some 4095) (q 0 5 0xFFFF) idle fun t => (t.flow 4095).frames == [⟨16383, 5, 65535, 0⟩] && t.flowState 4095 == 2,
      shows (one.flowOf 5 == some 4095) (q 0 5 1) one fun t => (t.flow 4095).qfull == 1 && t.rd (SCHED_CNTm 1) == 1,
      shows (idle.flowOf 0xC001FFFF == none && idle.lowFlow == some 0) (q 3 0xC001FFFF 1) idle fun t => (t.flow 0).bound && t.flowEg 0 == 3
        && t.fld (SCHED_FLOWf_STAT 0) 16 0 == 131071,
      shows (one.pickFlow 0 == some 4095 && (one.descq 3).items == []) (.selection 0) one fun t => (t.descq 3).items == [(9, false)] && (t.flow 4095).fl == 655360
        && (t.flow 4095).frames == [] && t.flowState 4095 == 1,
      shows ((flows 0 2 [h, h]).pickFlow 0 == some 0) (.selection 0) (flows 0 2 [h, h]) fun t => (t.flow 0).frames == [h] && t.flowState 0 == 2 && (t.flow 0).start == 655360,
      shows (old.flowEg 4095 == 0) (.ageSweep 0) old fun t => (t.flow 4095).frames == [], shows true (.ageSweep 0) two fun t => (t.flow 0).frames == [h, h],
      shows true (.ageSweep 0) (set [(SCHED_EGe_TIM 0, 0)] old) fun t => (t.flow 4095).frames == [h]] = true := by decide +kernel

theorem firstNat_none_below (p : Nat → Bool) (n i : Nat) (h : ∀ k, k < i + n → p k = false) : firstNat p n i = none := by
  induction n generalizing i with
  | zero => rfl
  | succ n ih =>
    rw [firstNat, h i (by omega)]
    exact ih (i + 1) fun k hk => h k (by omega)

theorem tabGet_range (d : Nat → Flow) (x : Flow) (l : List Nat) (k : Nat) (h : k ∈ l) : tabGet d (l.map fun f => (f, x)) k = x := by
  induction l with
  | nil => cases h
  | cons j t ih =>
    by_cases e : j = k
    · simp [tabGet, e]
    · simpa [tabGet, e] using ih (by simpa [Ne.symm e] using h)

/-- With every flow bound none is free. -/
theorem witness_flowBind_full (s : State) :
    (s.modSched fun k => { k with flow := (List.range 4096).map fun f => (f, { Machine.freeFlow 0 with bound := true }) }).lowFlow = none := by
  refine firstNat_none_below _ _ _ fun k hk => ?_
  have e := tabGet_range Machine.freeFlow { Machine.freeFlow 0 with bound := true } (List.range 4096) k (by simp; omega)
  simp only [State.flow, State.modSched]
  rw [e]
  rfl

theorem witness_FlowsShapersAndPolicersAnswerCommands :
    let h : SFrame := ⟨9, 5, 160, 0⟩
    let s := flows 7 1 []
    let key (k : Word) := set [(SCHED_FLOWKEY, k)] s
    let st (t : State) (f n : Nat) : Bool := t.rd SCHED_FLOWCMDSTAT == word (f * 256 + n)
    let asleep := flows 4095 3 []
    let nd := ((node 5 [(0x0B, 2)] (flows 7 1 [])).putFlow 7 { (s.flow 7) with woke := some 0 })
    let shp (c b : Word) := (set [(SCHED_SHPs_CFG 255, c), (SCHED_SHPs_BURST 255, b)]).putShaper 255 ⟨0x81000000 + 125000, 100, 0⟩
    let pol := up.putPolicer 1023 ⟨65536 * 3, 65536 * 4, 0, 5, 6, 7⟩
    all [
      shows true .flowBind (key 0x20000100) fun t => st t 0 stRANGE, shows ((key 5).flowOf 5 == some 7) .flowBind (key 5) fun t => st t 7 stALREADY,
      shows ((key 0xE00000FF).lowFlow == some 0) .flowBind (key 0xE00000FF) fun t => st t 0 stOK && (t.flow 0).bound && !(t.flow 0).auto
        && t.fld (SCHED_FLOWf_STAT 0) 16 0 == 255,
      shows true (.flowFree 4095) (flows 4095 2 [h]) fun t => st t 4095 stNOTREADY, shows true (.flowFree 4095) (set [(SCHED_FLOWS, 1)] asleep) fun t => st t 4095 stNOTREADY,
      shows (s.flow 7).bound (.flowFree 7) s fun t => st t 7 stOK && !(t.flow 7).bound && t.flowState 7 == 0,
      shows (asleep.flowState 4095 == 3) (.flowWake 4095) asleep fun t => st t 4095 stOK && t.flowState 4095 == 1 && (t.flow 4095).woke == some 0,
      shows true (.flowSleep 7) s fun t => t.flowState 7 == 3 && st t 7 stOK,
      shows (!(s.flow 0).bound) (.flowSleep 0) s fun t => st t 0 stNOTREADY, shows true (.flowWake 4095) s fun t => st t 4095 stNOTREADY,
      shows true (.flowRead 7 true) (s.putFlow 7 { (s.flow 7) with sent := 3, qfull := 65535, aged := 1, fl := 8 }) fun t => t.rd (SCHED_FLOWWINw 3) == 0xFFFF0001
        && t.rd (SCHED_FLOWWINw 2) == 3 && t.rd (SCHED_FLOWWINw 1) == 8 && (t.flow 7).sent == 0,
      shows true (.flowRead 7 false) (s.putFlow 7 { (s.flow 7) with sent := 3 }) fun t => (t.flow 7).sent == 3,
      shows (nd.nodeFlow 7) (.wakeholdExpiry 7) nd fun t => t.flowState 7 == 3 && (t.flow 7).woke == none,
      shows (s.fld SCHED_CTL 15 8 != 0) (.flowIdleExpiry 7) s fun t => !(t.flow 7).bound,
      shows true (.shaperRefill 255) (shp 0 0) fun t => (t.shaper 255).tok == 65536, shows true (.shaperRefill 255) (shp 0x80000000 0x8000FFFF) fun t =>
        (t.shaper 255).cfg == 0x80000000 && (t.shaper 255).burst == 65535 && !t.bit (SCHED_SHPs_BURST 255) 31,
      shows true (.shaperRefill 0) (up.putShaper 0 ⟨0, 100, 0⟩) fun t => (t.shaper 0).tok == 6553600,
      shows true (.policerRead 1023 true) pol fun t => t.rd (SCHED_POLWINw 0) == 3 && t.rd (SCHED_POLWINw 1) == 4 && t.rd (SCHED_POLWINw 4) == 7
        && t.policer 1023 == ⟨65536 * 3, 65536 * 4, 0, 0, 0, 0⟩,
      shows true (.policerRead 1023 false) pol fun t => t.policer 1023 == pol.policer 1023,
      shows true (.pendSweep 0x00010003) (up.modSched fun k => { k with sweepDue := true }) fun t => t.rd SCHED_CTL == 0x00010003 && t.bit SCHED_STAT 5 && !t.sched.sweepDue,
      completes (Memory.wf (set [(SCHED_STAT, 0x20), (MAC_NTBASE, 0x80000000)]).mem) .pendSweepDone (set [(SCHED_STAT, 0x20), (MAC_NTBASE, 0x80000000)])] = true := by
  decide +kernel

/-! ### The key store and engines -/

/-- Sixteen octets of key material. -/
def mat16 : List Byte := (List.range 16).map fun i => BitVec.ofNat 8 (i + 1)

/-- A VALID secret key admitted to every engine, from which every engine may be given a derived key. -/
def secret : KeyObj := ⟨1, 1, 31, 7, false, false, true, 1, 0, mat16⟩

/-- A FLAT (1) or TREE (2) store with objects. -/
def store (m : Word) (l : Tab KeyObj) (s : State := up) : State :=
  (set [(KEYS_STAT, m * 0x40000000)] s).modKeys fun k => { k with objs := l, sek := true }

theorem witness_KeyInstructionsGrantsAndZeroization :
    let s := gprs [(1, 255), (2, 0x10000000)] (store 1 [(255, secret)])
    let tree := gprs [(1, 0)] (store 2 [(0, secret)])
    let ob (k : KeyObj) := gprs [(1, 255)] (store 1 [(255, k)])
    let d (w : Nat) (v : Word) := mems [(corePhys 0 0x10000000 + w, v)] s
    let st (n d : Nat) (t : State) : Bool := t.gpr 0 5 == completion n d
    let gcm (ctl len : Word) := (set [(KEYS_GCM_CTL, ctl), (KEYS_GCM_LEN, len), (KEYS_GCM_SRC, 0x50000000), (KEYS_GCM_DST, 0x501FFFFC)]).modKeys fun k =>
      { k with wkr := k.wkr.set 2 (some ⟨1, false, 7⟩) }
    let salt := up.modKeys fun k => { k with zero := 1 }
    let wipe := (store 1 [(255, secret)]).modKeys fun k => { k with zero := 2, nodeCkpt := [(1, 2)] }
    all [
      shows (s.able 0 [8] && s.mode != 11 && s.mayLoad 255 0) (.keyld 0 5 1 0) s fun t => st stOK 0 t && t.slot 96 == some ⟨255, false, toBlock mat16⟩,
      shows (s.mayLoad 255 3) (.keyld 0 5 1 3) s fun t => (vget t.keys.gcache 0 none).map (·.1) == some 255,
      shows (s.mayLoad 255 4) (.keyld 0 5 1 4) s fun t => vget t.keys.wkr 4 none == some ⟨255, false, toBlock mat16⟩,
      shows true (.keyld 0 5 1 5) s (st stRANGE 0), shows true (.keyld 0 5 1 7) s (st stRANGE 0), shows true (.keyld 0 5 1 0) (gprs [(1, 256)] s) (st stRANGE 0),
      shows true (.keyld 0 5 1 0) (set [(KEYS_STAT, 0x40000004)] s) (st stHALTBLK 0), shows true (.keyld 0 5 1 0) (gprs [(1, 254)] s) (st stNOKEY 0),
      shows true (.keyld 0 5 1 4) (ob { secret with state := 2 }) (st stNOKEY 1), shows true (.keyld 0 5 1 4) (ob { secret with state := 3 }) (st stORPHAN 0),
      shows true (.keyld 0 5 1 4) (ob { secret with mask := 15 }) (st stMASK 0), shows true (.keyld 0 5 1 4) tree (st stMASK 0),
      completes (s.mayDerive 255 2 && s.ldw (corePhys 0 0x10000000 + 12) == 0) (.kdrv 0 5 1 2 2) s, completes (s.mayDerive 255 0) (.kdrv 0 5 1 2 0) s,
      shows true (.kdrv 0 5 1 2 3) s (st stRANGE 0), shows true (.kdrv 0 5 1 2 0) (d 8 0x10000) (st stRANGE 0), shows true (.kdrv 0 5 1 2 0) (d 12 1) (st stRANGE 0),
      shows true (.kdrv 0 5 1 2 2) (gprs [(2, 0x10000000)] (ob { secret with dout := 3 })) (st stMASK 0),
      shows true .grantExpiry (set [(KEYS_AUTHSTAT, 0x003C000F)]) fun t => t.rd KEYS_AUTHSTAT == 0,
      idles true (.gcmRun true) (gcm 0x80000000 0),
      shows ((gcm 0 4).gcmRange 0x501FFFFC 4) (.gcmRun true) (gcm 0 4) fun t => t.rd KEYS_GCM_CTL == 0x80000002,
      shows (!(gcm 0 5).gcmRange 0x501FFFFC 5) (.gcmRun false) (gcm 0 5) fun t => t.rd KEYS_GCM_CTL == 0x40000000,
      shows true (.gcmRun false) (set [(KEYS_GCM_SRC, 0x50000000), (KEYS_GCM_DST, 0x50000000)]) fun t => t.rd KEYS_GCM_CTL == 0x40000000,
      shows (!up.lockedRange 0x501FFFFC 0) .gcmDone ((gcm 0x80000000 0).modKeys fun k => { k with wkr := k.wkr.set 2 none }) fun t => t.rd KEYS_GCM_CTL == 0x40000000,
      completes (!up.lockedRange 0x501FFFFC 4) .gcmDone (gcm 0x80000000 4), completes true .gcmDone (gcm 0x80000002 4),
      completes (salt.keys.zero == 1) .zeroizeSalt salt,
      shows (wipe.keys.zero == 2) .zeroize wipe fun t => t.keys.objs == [] && t.fld KEYS_STAT 31 30 == 0 && t.keys.nodeCkpt == [(1, 2)] && t.keys.zero == 0] = true := by
  decide +kernel

theorem witness_StoreCommandsActOnTheStore :
    let life (n : Word) (s : State) := set [(DBG_LC, n)] s
    let h : Agent := .host
    let busy := set [(KEYS_CMDSTAT, 0x80000000)]
    let pub : KeyObj := ⟨2, 1, 0, 0, true, true, false, 0, 0, []⟩
    let empty := life 1 ((set [(KEYS_STAT, 0)]).modKeys fun k => { k with objs := [] })
    let flat := life 2 (store 1 [(0, secret), (254, { pub with verify := false, auth := false }), (255, pub)])
    let tree := life 1 (store 2 [(0, { secret with mask := 16, depth := 0 }), (1, { secret with depth := 5 }), (7, { secret with depth := 6, parent := 1 })])
    let attr (v : Word) (s : State) := set [(KEYS_ATTR, v)] s
    let noWrap := life 2 (store 1 [(0, { secret with exportable := false }), (4, secret)])
    let status (n d o : Nat) (t : State) : Bool := t.bit KEYS_CMDSTAT 31 && (t.keys.cmd.map fun k => (k.status, k.detail, k.obj)) == some (n, d, o)
    all [
      shows (busy.isOn 8) (.create h 0) busy fun t => t.bit KEYS_FLAGS 7, shows true (.newchal (.core 7)) busy fun t => t.keys.cmd == none && t.bit KEYS_FLAGS 7,
      shows ((empty.dom 8).hold != some .delay && empty.lifecycle == 1) (.setmode h 1) empty fun t => status stOK 0 0 t && t.storeMode == 1,
      completes (empty.keys.objs == []) (.setmode h 2) empty, shows true (.setmode h 1) tree (status stLIFECYCLE 0 0),
      shows (flat.lifecycle == 2) (.setmode h 1) (life 2 empty) (status stLIFECYCLE 0 0),
      completes ((attr 0x40000000 flat).freeObj == some 1) (.create h 0) (attr 0x40000000 flat),
      completes ((attr 0x40000000 tree).freeObj == some 2 && (tree.obj 1).depth < 6) (.create h 1) (attr 0x40000000 tree),
      shows ((attr 0x86000000 (life 1 flat)).freeObj == some 1) (.importPlain h 0) (attr 0x86000000 (life 1 flat)) fun t => status stOK 0 1 t && (t.obj 1).typ == 2
        && (t.obj 1).mat.length == 64 && (t.obj 1).state == 1,
      completes (flat.freeObj == some 1 && (flat.wrapKey 0).1 == stOK) (.importWrapped h 0) flat,
      completes ((flat.wrapKey 0).1 == stOK && (flat.obj 0).exportable) (.exportObj h 0 0) flat,
      completes (tree.lifecycle == 1) (.exportObj h 7 1) tree,
      shows (noWrap.lifecycle == 2) (.exportObj h 4 0) noWrap (status stLIFECYCLE 0 0),
      shows (tree.descendants 1 == [7]) (.invalidate (.core 0) 1) tree fun t => status stOK 0 1 t && (t.obj 1).state == 2 && (t.obj 7).state == 3,
      shows true (.invalidate h 255) flat fun t => status stOK 0 255 t && (t.obj 255).state == 2,
      shows true (.keysDelete h 1) tree fun t => status stOK 0 1 t && t.keys.objs.map (·.1) == [0], shows true (.keysDelete h 0) tree (status stDENIED 0 0),
      shows true (.invalidate h 0) tree (status stDENIED 0 0),
      shows true (.readattr h 255) flat fun t => status stOK 0 255 t && t.rd KEYS_ATTR == 0x96000000, shows true (.readattr h 1) flat fun t => t.rd KEYS_ATTR == 0,
      completes ((flat.obj 255).verify) (.keysVerify h 255) flat, shows true (.keysVerify h 254) flat (status stAUTH 3 254),
      completes ((flat.obj 255).auth) (.authorise h 255) flat, completes true (.newchal h) flat,
      shows true .keysCommandDone (busy.modKeys fun k => { k with cmd := some ⟨2, 9, 1, 4095, ([], 0)⟩ }) fun t => t.rd KEYS_CMDSTAT == 0x0FFF0109 && t.keys.cmd == none] = true := by
  decide +kernel

/-- A FLAT store with every index taken has none free. -/
theorem witness_create_full : (store 1 ((List.range 256).map fun o => (o, secret))).freeObj = none := by decide +kernel

/-! ### GNSS -/

/-- A machine whose receiver runs, with channel n in a state for a signal and satellite. -/
def sat (n : Nat) (st sig prn : Nat) (s : State := up) : State :=
  set [(GNSS_CTL, 7), (GNSS_CHn_STAT n, word (st * 2 ^ 29)), (GNSS_CHn_CFG n, word (sig * 2 ^ 25 + prn * 2 ^ 19))] s

theorem witness_AntennaSupplyAndChannelStates :
    let ant (st : Word) := set [(GNSS_ANT, st * 0x10000 + 1)]
    let v (sig prn : Nat) : BitVec 28 := BitVec.ofNat 28 (sig * 2 ^ 25 + prn * 2 ^ 19)
    let q (n : Nat) (s : State) := s.modGnss fun g => { g with queue := List.replicate n 3 }
    let st (n k : Nat) (t : State) : Bool := t.fld (GNSS_CHn_STAT n) 15 8 == k
    let next := (sat 71 1 0 1).modGnss fun g => { g with queue := [71, 4] }
    let find := (sat 71 2 0 1).modGnss fun g => { g with search := some 71 }
    all [
      shows (up.isOn 6) (.antEnable 1) up fun t => t.antSt == 1 && t.fld GNSS_ANT 15 8 == 1, shows true (.antEnable 0xFF1E) (ant 1) fun t => t.antSt == 0 && t.fld GNSS_ANT 15 0 == 0xFF1E,
      shows ((ant 1).antSt == 1) (.antOpen 4095) (ant 1) fun t => t.antSt == 2 && t.fld GNSS_ANT 31 20 == 4095 && t.bit GNSS_STAT 4,
      shows true (.antRecover 0) (ant 2) fun t => t.antSt == 1 && t.fld GNSS_ANT 31 20 == 0, shows true (.antShort 0) (ant 1) fun t => t.antSt == 3 && t.bit GNSS_STAT 4, shows true (.antShort 0) (ant 2) fun t => t.antSt == 3,
      shows true (.antRetry) (ant 3) fun t => t.antSt == 1,
      shows ((sat 71 4 0 1).gst 71 == 4) (.assign 71 (v 0 2)) (sat 71 4 0 1) (st 71 stBUSY), shows true (.assign 0 (v 0 1)) (sat 71 1 0 1) (st 0 stALREADY),
      shows true (.assign 0 (v 0 33)) up (st 0 stRANGE), shows true (.assign 0 (v 3 37)) up (st 0 stRANGE), shows true (.assign 0 (v 6 1)) up (st 0 stRANGE),
      shows true (.assign 0 (v 5 0)) up (st 0 stRANGE),
      shows (up.handover 5 63 == none) (.assign 71 (v 5 63)) up fun t => st 71 stOK t && t.gst 71 == 1 && t.gnss.queue == [71],
      shows true (.assign 71 (v 2 36)) (q 15 up) fun t => t.gnss.queue.length == 16, shows true (.assign 71 (v 0 32)) (q 16 up) fun t => st 71 stFULL t && t.bit GNSS_STAT 3,
      shows ((sat 9 4 2 36).handover 3 36 == some 9) (.assign 0 (v 3 36)) ((sat 9 4 2 36).putGch 9 { idleCh 0 with dop := 154 }) fun t => t.gst 0 == 3 && (t.gch 0).dop == 115,
      shows true (.release 71 0) next fun t => t.gst 71 == 0 && t.gnss.queue == [4], shows true (.reacq 71 0) next (st 71 stNOTREADY),
      shows true (.reacq 71 0) (q 15 (sat 71 3 0 1)) fun t => t.gst 71 == 1 && (t.gch 71).aided && t.gnss.queue.length == 16,
      shows true (.reacq 71 0) (q 16 (sat 71 5 0 1)) (st 71 stFULL),
      shows (next.bit GNSS_CTL 0 && next.gnss.search == none) .searchStart next fun t => t.gst 71 == 2 && t.gnss.search == some 71 && t.gnss.queue == [4],
      shows true (.searchDone true (-5)) find fun t => t.gst 71 == 3 && (t.gch 71).dop == -5, shows true (.searchDone false 0) find fun t => t.gst 71 == 5,
      shows true (.trackEntry 71) (sat 71 3 0 1) fun t => t.gst 71 == 4 && t.bit (GNSS_CHn_STAT 71) 19 && t.bit (GNSS_CHn_STAT 71) 17,
      shows true (.pullinTimeout 0) (sat 0 3 1 1) fun t => t.gst 0 == 5,
      shows true (.lossOfLock 71) (q 15 (sat 71 4 0 1)) fun t => t.gst 71 == 1 && t.gnss.queue.length == 16, shows true (.lossOfLock 71) (q 16 (sat 71 4 0 1)) fun t => t.gst 71 == 5,
      shows true (.cycleSlip 71) (sat 71 4 0 1) fun t => t.fld (GNSS_CHn_STAT 71) 7 0 == 1 && (t.gch 71).slip && t.bit (GNSS_CHn_STAT 71) 17,
      shows true (.bitSynchronisation 71) (sat 71 3 0 1) fun t => (t.gch 71).coh20,
      shows true (.txtWrite 71 0xFFFFFFFF) up fun t => t.rd (GNSS_CHn_TXT 71) == 0x3FFFFFFF && t.bit (GNSS_CHn_STAT 71) 18] = true := by decide +kernel

theorem witness_EpochsMessagesIntegrityAndReference :
    let run (s : State) := set [(GNSS_MRBASE, 0x80000000), (GNSS_NRBASE, 0x81000000)] (s.modTime fun t => { t with running := true })
    let s := run (sat 71 4 0 1)
    let m : GnssMeas := ⟨71, 45, true, 5, 6, 7⟩
    let n : NavMsg := ⟨71, 0, 300, 0, true, 8, 9, [], true, false⟩
    let sp := set [(GNSS_INTEG, 0x80000000)]
    all [
      shows (s.time.running && s.isOn 12) (.measurementEpoch [m, m]) s fun t => t.rd GNSS_EPOCH == 1 && t.rd GNSS_MRPTR == 1 && t.ldw 0x80000000 == 0x4D450100,
      shows true (.measurementEpoch [m]) (set [(GNSS_MRPTR, 63)] s) fun t => t.fld GNSS_CNT 31 24 == 1 && t.bit GNSS_STAT 0 && t.rd GNSS_EPOCH == 1,
      shows true (.measurementEpoch [m]) (set [(GNSS_CTL, 1)] s) fun t => t.rd GNSS_EPOCH == 1 && t.rd GNSS_MRPTR == 0,
      shows (s.gsig 71 != 3) (.navMessage n) s fun t => t.rd GNSS_NRPTR == 1 && t.ldw 0x81000008 == 8 && t.ldw 0x8100000C == 9 && t.bit (GNSS_CHn_STAT 71) 18,
      shows true (.navMessage n) (set [(GNSS_NRPTR, 1023)] s) fun t => t.bit GNSS_STAT 1 && t.fld GNSS_CNT 23 16 == 1,
      shows true (.navMessage { n with parok := false }) s fun t => t.bit GNSS_STAT 2 && t.fld GNSS_CNT 15 8 == 1,
      shows (!up.bit GNSS_INTEG 31) (.spoofWrite .host 0xC0000000 1 2 3) up fun t => t.rd GNSS_INTEG == 0xC0000000 && t.bit GNSS_STAT 5,
      shows true (.spoofWrite (.core 7) 0 1 2 3) sp fun t => t.rd GNSS_INTEG == 0, shows true (.spoofWrite .host 0 1 2 3) sp fun t => t.rd GNSS_INTEG == 0x80000000,
      shows true (.refFix 0xFFFFFFFF) (set [(SYS_MODE, 6)]) fun t => t.rd GNSS_REFSTAT == 0xE000FFFF && t.gnss.ref.length == 7,
      shows true (.refFix 0x5) (set [(SYS_MODE, 1)]) fun t => t.rd GNSS_REFSTAT == 5, shows true (.refFix 5) (set [(SYS_MODE, 10)]) fun t => t.rd GNSS_REFSTAT == 5,
      idles (up.mode == 2) (.refFix 0x80000000) up] = true := by decide +kernel

/-! ### The stop latch and the fleet -/

/-- The machine in mode FLEET with a register of the stop latch. -/
def stopStat (v : Word) (l : List (Nat × Word) := []) (s : State := up) : State := set ([(SYS_MODE, 4), (FLEET_STOP_STAT, v)] ++ l) s

theorem witness_TheStopLatchSetsAndReleases :
    let clear := stopStat 0x0007FFFF
    let setL := stopStat 0x80070005
    let old (s : State) := s.modFleet fun f => { f with high := 16384 }
    let wait (h : Nat) := (core0 (fun k => { k with run := .waiting (.resume 5) }) setL).modFleet fun f => { f with clear := some ⟨0, 5, none, 9⟩, high := h }
    let low (v : Word) := (stopStat v).modFleet fun f => { f with high := 7 }
    let gen := set [(FLEET_ISM, 5), (ISM_CTL, 1), (ISM_SYN_FRQk 5, 1), (FLEET_PAN, 0x00010002)] setL
    let sent (n : Nat) (t : State) : Bool := (t.chain 2).queue.any fun m => m.src == .stop n && m.stop && m.frame.dest == 0xFFFF
    all [
      shows (clear.runs 0 && clear.mode != 9) (.stop 0 5 0xFF 0) clear fun t => t.latched && t.fld FLEET_STOP_STAT 23 16 == 0xFF && t.episode == 0 && t.gpr 0 5 == completion stOK,
      shows true (.stop 0 5 0 0) clear fun t => t.fld FLEET_STOP_STAT 23 16 == 0x10,
      shows setL.latched (.stop 0 5 0 0) setL fun t => t.gpr 0 5 == completion stALREADY && t.episode == 5,
      shows (up.mode == 2) (.resume 0 5 1 72) up fun t => t.gpr 0 5 == completion stDENIED 2,
      shows (!clear.latched) (.resume 0 5 1 0xFFFF) clear fun t => t.gpr 0 5 == completion stDENIED 4,
      shows (setL.fleet.high < 16384) (.resume 0 5 1 72) setL fun t => t.gpr 0 5 == completion stDENIED 1,
      completes (16384 ≤ (old setL).fleet.high) (.resume 0 5 1 71) (old setL), completes ((old setL).isOn 8) (.resume 0 5 1 72) (old setL),
      shows (wait 16384).fleet.clear.isSome .latchClear (wait 16384) fun t => !t.latched && t.gpr 0 5 == completion stOK && (t.core 0).run == .running,
      shows true .latchClear (wait 16383) fun t => t.latched && t.gpr 0 5 == completion stDENIED 1,
      completes (!clear.latched) (.stopInputAssert true 3) clear, completes (!clear.latched) (.stopInputAssert false 4) clear,
      shows true (.stopInputAssert true 1) (low 0) fun t => t.rd FLEET_STOP_CNT == 1 && !t.latched && t.fleet.high == 0,
      shows true (.stopInputAssert false 2) (low 0) fun t => t.rd FLEET_STOP_CNT == 0x00010000,
      shows true (.stopInputRelease true) (low 0xA4000000) fun t => t.rd FLEET_STOP_STAT == 0x80000000,
      shows true (.stopInputRelease false) (low 0xD8000000) fun t => t.rd FLEET_STOP_STAT == 0x80000000,
      shows true (.inputStuck true) (low 0xA0000000) fun t => t.bit FLEET_STOP_STAT 26, shows true (.inputStuck false) (low 0xC0000000) fun t => t.bit FLEET_STOP_STAT 27,
      shows true .stopDisc (low 0xC0000000) fun t => t.bit FLEET_STOP_STAT 28,
      shows true (.stopSw 0x5354FFFF) clear fun t => t.latched && t.fld FLEET_STOP_STAT 23 16 == 3, idles true (.stopSw 0x53550000) clear,
      shows (gen.latched && gen.chainTakes 2 5) (.stopFrame 0) gen (sent 0), shows true (.stopFrame 1001) (set [(FLEET_STOP_STAT, 0x82070005)] gen) (sent 1001),
      shows (tdiff gen.now (after 0 10000000000) ≤ 17) (.stopFrame 1000) gen (sent 1000),
      shows (!setL.chainTakes 2 0) (.stopFrame 0) setL fun t => t.rd (FLEET_CNTm 3) == 1 && t.bit FLEET_STAT 4] = true := by decide +kernel

/-- A frame of the machine with EUI-64 or short address `a`. -/
def heard (a : Addr) (t : Byte) (n : Word) : FleetFrame := ⟨1, 0xFFFF, a, t, n, true⟩

/-- The machine with the fleet engine enabled and slot n in a state, with short address 7 and EUI-64 9. -/
def slotted (n st : Nat) (s : State := up) : State :=
  set [(FLEET_CTL, 0x3C640305), (FLEET_PAN, 0x00010002), (FLEET_SLOTn_STAT n, word (st * 2 ^ 29 + 7)), (FLEET_SLOTn_EUILO n, 9)] s

theorem witness_MachineSlotsJoinAreLostAndFreed :
    let s := slotted 63 3
    let full := set ((List.range 63).map fun n => (FLEET_SLOTn_STAT n, 0x20000000)) s
    let r : Resv := ⟨5, 63, 0, 8, 0, 1⟩
    let busy := (slotted 63 2).modFleet fun f => { f with held := [(4, r), (6, { r with slot := 2 })], tasks := [(9, ⟨2, 63, 0, 0, 0, 63⟩)] }
    let go := (slotted 0 2 (set [(SYS_MODE, 4), (FLEET_STOP_STAT, 0)])).modTime fun t => { t with running := true, sec := 5 }
    let go := set [(FLEET_CTL, 0x01640002), (FLEET_GOSEQ, 0xFFFF), (FLEET_ISM, 5), (ISM_CTL, 1), (ISM_SYN_FRQk 5, 1)] (go.modFleet fun f => { f with goBase := some 6 })
    all [
      shows (s.slotOf (.short 7) == some 63) (.fleetRx (heard (.short 7) 0x21 1) 16383) s fun t => t.rd (FLEET_SLOTn_FCIN 63) == 1 && t.slotState 63 == 2
        && (t.descq 3).items == [(16383, false)],
      shows true (.fleetRx (heard (.ext 9) 0x21 0) 0) s fun t => t.rd (FLEET_CNTm 4) == 1 && t.slotState 63 == 3,
      idles true (.fleetRx { heard (.ext 9) 0x21 1 with micOk := false } 0) s,
      shows (s.slotOf (.short 8) == none) (.fleetRx (heard (.short 8) 0x22 1) 0) s fun t => t.rd (FLEET_CNTm 5) == 1,
      shows true (.fleetRx (heard (.ext 8) 0x23 6) 1) s fun t => t.slotState 0 == 1 && t.slotEui 0 == 8 && t.rd (FLEET_SLOTn_FCIN 0) == 6 && (t.descq 3).items == [(1, false)],
      idles true (.fleetRx (heard (.ext 8) 0x23 6) 1) (set [(FLEET_CTL, 1)] s),
      shows ((List.range 64).all fun n => full.slotState n != 0) (.fleetRx (heard (.ext 8) 0x23 6) 1) full fun t => t.bit FLEET_STAT 1 && t.rd (FLEET_CNTm 6) == 1,
      shows true (.slotLost 63) (slotted 63 1) fun t => t.slotState 63 == 3 && t.bit FLEET_STAT 0, shows true (.slotLost 0) (slotted 0 2) fun t => t.slotState 0 == 3,
      shows (busy.fleet.results.length + 1 ≤ 256) (.slotFree 63 0xFFFF) busy fun t => t.slotState 63 == 0 && t.fld (FLEET_SLOTn_STAT 63) 15 0 == 0xFFFF
        && t.fleet.held.map (·.1) == [6] && t.fleet.results == [⟨3, 63, 0, 8, 4⟩] && (t.taskAt 9).map (·.state) == some 4,
      shows (go.goOn && go.fleet.goLast == none && go.chainTakes 2 5) .go go fun t => t.fleet.goLast == some (6 * 2 ^ 32)
        && ((t.chain 2).queue.map fun m => (m.src == .go 0xFFFF, m.sec, m.lateMax)) == [(true, 6, 5000)],
      idles (!up.goOn) .go up] = true := by decide +kernel

theorem witness_ReservationsAndTasksAreDecidedInOrder :
    let time (s : State) := (slotted 1 2 s).modTime fun t => { t with running := true, sec := 100 }
    let req := set [(FLEET_RESREQ, 0x00504009), (FLEET_RESSTART_S, 100), (FLEET_RESEND_S, 110), (FLEET_RESCFG, 0x0A00000A), (FLEET_SEGg 5, 0x80000000)] (time up)
    let r : Resv := ⟨5, 1, 0, 9, 100 * 2 ^ 32, 110 * 2 ^ 32⟩
    let res (st d : Nat) (t : State) : Bool := t.fld FLEET_RESSTAT 7 0 == st && t.fld FLEET_RESSTAT 15 8 == d
    let tick (l : Tab Resv) (p : List Resv) (n : Nat := 0) := set [(FLEET_CTL, 8)] (req.modFleet fun f => { f with held := l, pend := p, results := List.replicate n ⟨0, 0, 0, 0, 0⟩ })
    let tsk (st k x : Nat) (t : State) : Bool := t.rd FLEET_TASKSTAT == word (k * 65536 + x * 4096 + st)
    let q := up.modFleet fun f => { f with tasks := [(0, ⟨1, 63, 1, 5, 0, 0⟩), (1023, ⟨1, 0xFF, 0, 6, 1, 0⟩)] }
    all [
      shows (req.resRequest == r) .submit req fun t => res stOK 0 t && t.fleet.pend == [r], shows true .submit (set [(FLEET_RESEND_S, 111)] req) (res stRANGE 0),
      shows true .submit (set [(FLEET_SEGg 5, 0xC0000000)] req) (res stRANGE 0), shows true .submit (set [(FLEET_RESEND_S, 100)] req) (res stRANGE 0),
      shows true .submit (req.modFleet fun f => { f with pend := List.replicate 256 r }) (res stFULL 2),
      shows true (.cancel 16383) (tick [(16383, r)] []) fun t => res stOK 0 t && t.fleet.held == [], shows true (.cancel 0) (tick [(16383, r)] []) (res stNOTREADY 0),
      shows true .cancelslot (tick [(0, r), (1, { r with slot := 2 })] []) fun t => t.fleet.held.map (·.1) == [1],
      shows true (.resRead 16383) (set [(FLEET_RESREQ, 0), (FLEET_RESSTART_S, 0)] (tick [(16383, r)] [])) fun t => t.resRequest == r,
      shows true .reservationTick (tick [(0, { r with stop := 100 * 2 ^ 32 }), (1, r)] []) fun t => t.fleet.held.map (·.1) == [1],
      shows true .reservationTick (tick [] [r] 256) fun t => t.fleet.pend == [r] && t.rd (FLEET_CNTm 3) == 1,
      completes (256 ≤ (tick [] [r] 255).fleet.results.length + 1) .reservationTick (tick [(1, { r with slot := 2 })] [r] 255),
      shows ((tick [] []).conflict r { r with slot := 2, start := 0 }) .reservationTick (tick [(1, { r with slot := 2, start := 0 })] [r]) fun t =>
        t.fleet.results == [⟨1, 1, 2, 9, 0⟩] && t.fleet.pend == [],
      shows (!(tick [] []).conflict r { r with slot := 2, start := 110 * 2 ^ 32, stop := 111 * 2 ^ 32 }) .reservationTick
        (tick [(0, { r with slot := 2, start := 110 * 2 ^ 32, stop := 111 * 2 ^ 32 })] [r]) fun t => t.fleet.results == [⟨0, 1, 0, 9, 1⟩] && t.fleet.held.map (·.1) == [0, 1],
      shows true .resultPop (up.modFleet fun f => { f with results := [⟨3, 63, 62, 255, 16383⟩] }) fun t => t.bus == 0x3FFEFF00 && t.rd FLEET_RESRES1 == 0x3FFF,
      shows true .resultPop up fun t => t.bus == 0x80000000,
      shows (q.taskAt 1 == none) .taskAdd (set [(FLEET_TASKARG, 0x3FF00000), (FLEET_TASKBODY, 7)] q) fun t => tsk stOK 1 1 t && t.taskAt 1 == some ⟨1, 63, 15, 7, 0, 0⟩,
      shows true (.next 63) q fun t => tsk stOK 1023 2 t && t.taskAt 1023 == some ⟨2, 0xFF, 0, 6, 1, 63⟩, shows true (.next 0) up (tsk stNOTREADY 0 0),
      shows true (.taskDone 1023) q fun t => tsk stOK 1023 3 t && t.taskAt 1023 == none, shows true (.taskFail 0) q (tsk stOK 0 4),
      shows true (.taskCancel 0) q (tsk stOK 0 5), shows true (.taskRead 1023) q (tsk stOK 1023 1)] = true := by decide +kernel

theorem taskAt_range (x : Task) (l : List Nat) (k : Nat) (h : k ∈ l) : ((l.map fun i => (i, x)).find? fun e => e.1 == k).map (·.2) = some x := by
  induction l with
  | nil => cases h
  | cons j t ih =>
    by_cases e : j = k
    · simp [e]
    · simpa [e] using ih (by simpa [Ne.symm e] using h)

/-- With every task index taken none is free. -/
theorem witness_taskAdd_full (x : Task) (s : State) (k : Nat) (h : k < 1024) :
    (s.modFleet fun f => { f with tasks := (List.range 1024).map fun i => (i, x) }).taskAt k ≠ none := by
  have e := taskAt_range x (List.range 1024) k (by simpa using h)
  simp only [State.taskAt, State.modFleet]
  rw [e]
  simp

/-! ### Power, backup and resets -/

/-- A domain in a state. -/
def dom (d : Nat) (st : PdState) (s : State := up) : State := s.modDom d fun k => { k with state := st, target := st }

/-- A domain in transition to a state. -/
def going (d : Nat) (st : PdState) (h : Option DomHold) (s : State := up) : State := s.modDom d fun k => { k with target := st, busy := true, hold := h }

/-- A machine whose VIN is lost, in BACKUP. -/
def lost (s : State := up) : State := { set [(SYS_MODE, 0x207), (PWR_SUPPLY, 0)] s with power := { s.power with backup := true } }

theorem witness_PowerRequestsAreCheckedAndEntered :
    let q (n : Word) (s : State := up) := gprs [(1, n)] s
    let st (n d : Nat) (t : State) : Bool := t.gpr 0 5 == completion n d
    let on (s : State) (d : Word) := q d (less [d.toNat] s)
    let zero := set [(SYS_MODE, 11)]
    let bak := { up with power := { up.power with backup := true } }
    let spare := set [(SYS_MODE, 10)]
    let down (off : Bool) : Instr := if off then .pdreqOff 0 5 1 false 0 none else .pdreqRet 0 5 1 0 none
    all [
      shows (up.runs 0 && up.mode != 9) (.pdreqOn 0 5 1 0) (q 0) (st stRANGE 0), shows true (.pdreqRet 0 5 1 0 none) (q 15) (st stRANGE 0),
      shows true (.pdreqOff 0 5 1 true 0 none) (q 14) (st stRANGE 0), shows true (.pdreqOn 0 5 1 0) (q 3 (going 3 .ret none)) (st stBUSY 0),
      shows true (.pdreqOn 0 5 1 0) (q 14) (st stALREADY 0), shows true (.pdreqRet 0 5 1 0 none) (q 6 (dom 6 .ret)) (st stALREADY 0),
      shows ((on zero 3).zeroBarred [3]) (.pdreqOn 0 5 1 0) (on zero 3) fun t => st stREFUSED 1 t && t.fld (PWR_DOMd_LAST 3) 31 14 == 1 * 1024 + 14 * 4 + 1,
      shows (!up.zeroBarred [6]) (.pdreqOn 0 5 1 0) (q 6 (less [6, 9])) (st stREFUSED 144),
      shows ((on bak 3).overBudget [3]) (.pdreqOn 0 5 1 0) (on bak 3) (st stREFUSED 1),
      shows (!(on up 13).overBudget [13] && up.isOn 9) (.pdreqOn 0 5 1 0) (on up 13) fun t => st stOK 0 t && (t.dom 13).target == .on && (t.dom 13).busy
        && t.fld PWR_WAKESRC 27 16 == 13 * 256 + 1,
      shows ((up.modeDomains 2).contains 3) (down true) (q 3) (st stREFUSED 0), shows true (down false) (q 14) (st stREFUSED 0),
      shows ((dependents 9).find? spare.onOrComing == some 6) (down true) (q 9 spare) fun t => st stREFUSED 96 t && (t.dom 9).state == .on,
      shows ((dependents 9).find? (less [6] spare).onOrComing == some 7) (down true) (q 9 (less [6] spare)) (st stREFUSED 112),
      shows (firstRefusal false (spare.asked 2 true (some 0)) == some (0x20, 2)) (down true) (q 2 spare) (st stREFUSED 0x20),
      shows (spare.asked 12 true (some 0) == [(0xC0, .grant)]) (down true) (q 12 spare) fun t => st stOK 0 t && (t.dom 12).target == .off && (t.dom 12).busy
        && (t.dom 12).hold == none,
      shows (firstRefusal false (spare.asked 2 false (some 0)) == none) (down false) (q 2 spare) fun t => st stDELAYED 0 t && (t.dom 2).hold == some .delay
        && (t.dom 2).lastOut == 14,
      shows (spare.asked 9 true (some 0) == [(0x90, .grant)]) (down true) (q 9 (dom 9 .ret spare)) (st stOK 0),
      shows true (.pdstat 0 5 1 0) (q 14) fun t => t.gpr 0 5 == completion stOK 0 2, shows true (.pdstat 0 5 1 0) (q 0) fun t => t.gpr 0 5 == completion stOK 0 2,
      shows true (.pdstat 0 5 1 0) (q 15) (st stRANGE 0),
      shows (firstRefusal true (up.asked 9 false (some 0)) == none) (.delayExpiry 9 none) (going 9 .ret (some .delay)) fun t => (t.dom 9).busy && (t.dom 9).hold == none,
      shows true (.delayExpiry 2 none) (going 2 .ret (some .delay)) fun t => !(t.dom 2).busy && (t.dom 2).lastOut == 13 && t.fld (PWR_DOMd_LAST 2) 23 14 == 10 * 4 + 2,
      shows true (.domainEntryComplete 14) (going 14 .ret none) fun t => (t.dom 14).state == .ret,
      shows true (.domainEntryComplete 1) (going 1 .off none) fun t => (t.dom 1).state == .off,
      shows (up.isOn 9) (.domainOn 13 true) (going 13 .on none (less [13])) fun t => t.isOn 13, shows true (.domainOn 1 true) (going 1 .on none (less [1])) fun t => t.isOn 1] = true := by
  decide +kernel

theorem witness_SuppliesBackupAndTheWakeReceiver :
    let w := set [(PWR_WKRX_CTL, 0xE0000200), (PWR_WKRX_ADDR, 0x12340007)]
    let soon := { w with power := { w.power with wkrxLast := some 0 } }
    let late := { w with power := { w.power with wkrxLast := some 0 }, rtc := { w.rtc with elapsed := 131072 } }
    let good (s : State := up) := set [(PWR_SUPPLY, 2)] s
    let warn := set [(PWR_VINWARN, 0x80000064)]
    let held := { warn with power := { warn.power with warnHeld := true } }
    let back := lost (set [(PWR_LOSTSTATE, 0x2AAAAAA8)] (less [1, 8, 11, 14]))
    let cut := { back with power := { back.power with cutoff := true } }
    let done := { lost with power := { lost.power with restoring := true }, rtc := { up.rtc with elapsed := 131071 } }
    all [
      shows (w.bit PWR_WKRX_CTL 31 && !w.power.wkrxJam) (.wkrxFrame false 7) w fun t => t.rd PWR_WKRX_CNT == 0x100, shows true (.wkrxFrame true 8) w fun t => t.rd PWR_WKRX_CNT == 0x10000,
      shows true (.wkrxFrame true 7) soon fun t => t.rd PWR_WKRX_CNT == 1, shows true (.wkrxFrame true 7) late fun t => t.rd PWR_WKRX_CNT == 0x01000000 && t.power.wkrxLast == some 131072,
      shows true (.wkrxFrame true 0x1234) w fun t => t.rd PWR_WKRX_CNT == 0x01000000, shows true (.wkrxFrame true 0xFFFF) w fun t => t.rd PWR_WKRX_CNT == 0x01000000,
      shows true .wkrxJam w fun t => t.power.wkrxJam && t.bit PWR_FLAGS 9, shows true .wkrxRearm { w with power := { w.power with wkrxJam := true } } fun t => !t.power.wkrxJam,
      shows true .vinGlitch good fun t => t.fld PWR_BAKSTAT 7 0 == 1 && t.bit PWR_FLAGS 6,
      shows true (.vinWarn 99) warn fun t => t.power.warnHeld && t.bit PWR_FLAGS 5 && t.fld PWR_SUPPLY 31 22 == 99, shows true (.vinWarn 110) held fun t => !t.power.warnHeld,
      shows true (.vbakPresentChange 2499) good fun t => !t.bit PWR_SUPPLY 0 && t.fld PWR_SUPPLY 21 12 == 249 && t.bit PWR_FLAGS 4,
      shows true (.vbakPresentChange 65535) good fun t => t.bit PWR_SUPPLY 0 && t.fld PWR_SUPPLY 21 12 == 1023,
      shows true .vbakReconnect { good up with power := { up.power with cellOff := true } } fun t => !t.power.cellOff,
      shows (lost.power.backup && !lost.bit PWR_SUPPLY 1) (.bakLow 2400) lost fun t => t.power.bakLowSeen && t.bit PWR_FLAGS 3, shows true (.bakLow 2400) good fun t => t.bit PWR_FLAGS 3,
      shows true (.vbakCutoff 2000) (dom 13 .ret lost) fun t => t.power.cutoff && t.power.cellOff && (t.dom 14).target == .off && (t.dom 14).busy && (t.dom 13).state == .ret
        && !(t.dom 13).busy,
      shows (good.bit PWR_SUPPLY 1) (.vinLoss 3) (set [(PWR_BAKSET, 0x4000), (PWR_BAKRET, 0x0002)] good) fun t => t.mode == 7 && t.fld SYS_MODE 11 8 == 2 && t.power.backup
        && !(t.dom 14).busy && (t.dom 1).target == .ret && (t.dom 1).busy && (t.dom 2).target == .off && !t.bit PWR_SUPPLY 1,
      shows (!State.reset.host.resetLow && State.reset.dbg.tap != .extest) (.vinGood 200) (set [(PWR_SUPPLY, 0)] State.reset) fun t => t.bit PWR_SUPPLY 1
        && [1, 8, 11, 14].all fun d => (t.dom d).busy && (t.dom d).target == .on,
      shows true (.vinGood 200) back fun t => t.power.restoring && t.fld PWR_WAKESRC 19 16 == 3 && t.fld PWR_WAKESRC 7 0 == 1 && (t.dom 14).busy && (t.dom 1).target == .on,
      shows true (.vinGood 200) cut fun t => t.fld PWR_WAKESRC 7 0 == 2 && t.bit PWR_FLAGS 2,
      shows ((done.modeDomains 2).all done.isOn) .backupReturn done fun t => t.mode == 2 && !t.power.backup && t.fld PWR_BAKSTAT 15 14 == 1 && t.rd PWR_BAKTIME == 1,
      shows true .backupReturn (set [(SYS_MODE, 7)] done) fun t => t.rep.reset == some ⟨11⟩ && !t.power.backup] = true := by decide +kernel

theorem witness_ResetsLeaveWhatTheyKeep :
    let s := (mems [(0x60000000, 5), (0x50000000, 6), (0x80000000, 7)] (set [(FWD_CTL, 5), (TIME_SQLIM, 5)])).modKeys fun k => { k with objs := [(3, secret)] }
    let s := { s with host := { s.host with resetLow := false } }
    let due := dom 3 .ret (dom 13 .off { s with rep := { s.rep with reset := some ⟨6⟩ } })
    let low := { State.reset with host := { State.reset.host with resetLow := true } }
    let low := set [(PWR_SUPPLY, 2)] low
    all [
      completes true .aonPowerOnReset s, s.afterPor.latched, s.afterPor.byte 0x60000000 == 5, s.afterPor.byte 0x50000000 == 0, s.afterPor.keys.objs == [(3, secret)],
      s.afterPor.rd FWD_CTL == regReset FWD_CTL,
      due.rep.reset == some ⟨6⟩ && !due.host.resetLow && bootDoms.contains 3 == false && (due.dom 3).state == .ret && (due.dom 13).state == .off,
      shows (!s.host.resetLow) (.resetNAssert 3) s fun t => t.host.resetLow && t.rep.reset == some ⟨4⟩,
      shows true (.resetNAssert 2) s fun t => t.rd GPIO_SYSPIN == s.rd GPIO_SYSPIN + 1, shows true (.resetNAssert 1) s fun t => t.rep.reset == none,
      shows (low.mode == 0 && low.bit PWR_SUPPLY 1) (.resetNRelease 3) low fun t => !t.host.resetLow && t.fld GPIO_SYSPIN 31 30 == 3 && (t.dom 14).busy,
      shows true (.resetNRelease 0) { s with host := { s.host with resetLow := true } } fun t => !t.host.resetLow,
      shows true .rstoutRelease { s with host := { s.host with rstout := true } } fun t => !t.host.rstout] = true := by decide +kernel

/-! ### Lifecycle, tamper and debug -/

/-- The machine with its stop latch clear, in a lifecycle state. -/
def life (n : Word) (s : State := up) : State := set [(DBG_LC, n)] s

theorem witness_LifecycleCommandsAndTamper :
    let st (n d : Nat) (t : State) : Bool := t.fld DBG_LCSTAT 15 0 == d * 256 + n
    let acc (n : Nat) (t : State) : Bool := t.dbg.lcCmd == some n && t.rd DBG_LCSTAT == 0x80000000 && t.bit DBG_LC 31
    let busy := set [(DBG_LCSTAT, 0x80000000)]
    let field := set [(SUBTX_GRDSTAT, 0x80000000), (KEYS_STAT, 0x40000000)] (life 0x101)
    let rma (t : Nat) (s : State) := { s with dbg := { s.dbg with rmaAt := some t }, rtc := { s.rtc with elapsed := 61 * 65536 - 1 } }
    let fuse (n : Nat) := { up with dbg := { up.dbg with lcCmd := some n } }
    let tam := set [(DBG_TAMPCFG, 0x3F), (FLEET_STOP_STAT, 0)]
    let latched := set [(DBG_TAMPSTAT, 0x80000000)] tam
    all [
      idles true (.toProvision 0x4C44) up, idles true (.toRma 0) up, shows true (.fuseOwner 0x4C43) busy (st stBUSY 0), shows true (.toField 0x4C43) busy (st stBUSY 0),
      shows (up.dbg.lcCmd.isNone && (life 0).lifecycle == 0) (.toProvision 0x4C43) (life 0) (acc 1), shows true (.toProvision 0x4C43) (life 1) (st stLIFECYCLE 0),
      completes (!(life 1).bit DBG_LC 8) (.fuseOwner 0x4C43) (life 1), shows true (.fuseOwner 0x4C43) (life 0x101) (st stLIFECYCLE 0), shows true (.fuseOwner 0x4C43) (life 2) (st stLIFECYCLE 0),
      shows true (.toField 0x4C43) (life 0) (st stLIFECYCLE 0), shows true (.toField 0x4C43) (life 1) (st stNOTREADY 1),
      shows true (.toField 0x4C43) (set [(SUBTX_GRDSTAT, 0x80000000)] (life 1)) (st stNOTREADY 2), shows true (.toField 0x4C43) (set [(DBG_LC, 1)] field) (st stNOTREADY 3),
      shows true (.toField 0x4C43) field (acc 3), shows true (.toRma 0x4C43) (life 3) (st stLIFECYCLE 0), shows true (.toRma 0x4C43) (life 2) (st stAUTH 0),
      shows true (.toRma 0x4C43) { (rma 0 (life 2)) with rtc := { up.rtc with elapsed := 61 * 65536 } } (st stAUTH 0),
      completes ((rma 0 (life 2)).elapsed / 65536 ≤ 60) (.toRma 0x4C43) (rma 0 (life 2)),
      shows true .lcFusesDone (fuse 1) fun t => t.dbg.lcNew == some 1 && t.rep.reset == some ⟨7⟩ && t.dbg.lcCmd.isNone, shows true .lcFusesDone (fuse 4) fun t => t.dbg.lcNew == some 3,
      shows true .lcFusesDone (fuse 3) fun t => t.dbg.lcNew == some 2 && t.bit DBG_LC 9, shows true .lcFusesDone (fuse 2) fun t => t.bit DBG_LC 8 && t.rep.reset.isNone,
      shows true .lcFusesDone (fuse 0) fun t => t.lifecycle == 4 && t.rep.reset.isNone, idles (!(set [(DBG_TAMPCFG, 0)]).bit DBG_TAMPCFG 5) (.tamperAssert 5 3) (set [(DBG_TAMPCFG, 0)]),
      shows (tam.bit DBG_TAMPCFG 1) (.tamperAssert 1 2) tam fun t => t.rd DBG_TAMPCNT == 0x10000, shows true (.tamperAssert 0 1) tam fun t => t.rd DBG_TAMPCNT == 0x01000000,
      shows true (.tamperAssert 2 1) tam fun t => t.rd DBG_TAMPCNT == 0x100,
      shows true (.tamperAssert 2 2) latched fun t => t.rd DBG_TAMPCNT == 1 && t.bit DBG_TAMPSTAT 2, shows true (.tamperAssert 0 3) latched fun t => t.rd DBG_TAMPCNT == 1,
      shows true (.tamperAssert 5 1) latched fun t => t.bit DBG_TAMPSTAT 5, completes (tam.mode == 2) (.tamperAssert 5 1) tam, completes (tam.mode == 2) (.tamperAssert 1 3) (life 2 tam),
      shows true (.tamperInputRelease 5) (set [(DBG_TAMPSTAT, 0x3F)]) fun t => t.rd DBG_TAMPSTAT == 0x1F] = true := by decide +kernel

theorem witness_DebugSessionsAndTheTap :
    let opening (l : Nat) (m : Word) (s : State) := { s with dbg := { s.dbg with opening := some (l, false, m) } }
    let sess (v : Word) (s : State) := set [(DBG_SESS, v)] s
    let held (v : Word) := { sess v up with cores := up.cores.map fun (k : Core) => { k with dbgHalt := true } }
    let ext := { State.reset with dbg := { State.reset.dbg with tap := .extest } }
    let ext := set [(PWR_SUPPLY, 2)] ext
    let acc (x : AccStatus) (t : State) : Bool := t.dbg.acc == x
    let dram := mems [(0x80000000, 7)] (sess 0x40000200 up)
    all [
      shows up.dbg.opening.isNone (.debugOpen 0xF1FFFFFF) up fun t => t.dbg.opening == some (15, true, 0x7FFE) && t.bit DBG_SESS 28,
      idles true (.debugOpen 0) (opening 1 2 up),
      (set [(DBG_STAT, 0x100)] (opening 1 2 up)).openStatus 1 false 2 == stDENIED, (opening 1 2 (sess 0x40000000 up)).openStatus 1 false 2 == stBUSY,
      (opening 4 2 up).openStatus 4 false 2 == stLIFECYCLE, (opening 15 2 up).openStatus 15 false 2 == stAUTH,
      completes true .openingDone (opening 4 2 up), completes true .openingDone (opening 1 0x7FFE up), completes true .openingDone (opening 15 0 up),
      shows true .debugClose (held 0xC0007FFE) fun t => t.fld DBG_SESS 31 30 == 0 && t.fld DBG_SESS 14 1 == 0 && !(t.core 7).dbgHalt, idles true .debugClose up,
      shows true .lockoutExpiry (set [(DBG_STAT, 0x08025807)]) fun t => t.rd DBG_STAT == 0x08000007,
      shows (2 ≤ (sess 0x80000002 up).fld DBG_SESS 31 30) (.coreHalt 0xFF) (sess 0x80000002 up) fun t => t.rd DBG_HALT == 0x0F && (t.core 3).dbgHalt && !(t.core 4).dbgHalt,
      shows true (.coreStep 0xFF) (set [(DBG_HALT, 0x81)] (held 0xC0000006)) fun t => (t.core 0).dbgStep && (t.core 7).dbgStep && !(t.core 1).dbgStep,
      shows true (.domainFreeze 0x3FFF) (sess 0x80000102 (life 2)) fun t => t.frozen 1 && !t.frozen 8 && t.bit DBG_FLAGS 1 && !t.frozen 14,
      shows true (.domainFreeze 0x2080) (sess 0x80004100 (life 0)) fun t => t.frozen 8 && t.frozen 14,
      idles true (.coreHalt 1) (sess 0x40007FFE up), idles true (.coreStep 1) up, idles true (.domainFreeze 1) up,
      completes (up.dbg.tap != .extest) .extest up, shows true .samplePreload up fun t => t.dbg.tap == .sample, shows true .idcode up fun t => t.bus == 0xB720055B,
      shows true (.bypass 0xF) up fun t => t.dbg.tap == .bypass, shows true (.bypass 3) up fun t => t.dbg.tap == .bypass,
      shows (!ext.onOrComing 1 && !ext.host.resetLow) .samplePreload ext fun t => (t.dom 1).busy && (t.dom 1).target == .on,
      shows (dram.attached 9 && dram.debugRow != 4) (.dbgacc false 0x80000000 0) dram fun t => acc .ok t && t.bus == 7,
      shows (!dram.lockedRange 0x80000000 4) (.dbgacc true 0x80000000 9) (set [(DBG_SESS, 0x80000200)] dram) fun t => acc .ok t && t.ldw 0x80000000 == 9,
      shows true (.dbgacc true 0x80000000 9) dram (acc .denied), shows (up.fld DBG_SESS 31 30 == 0) (.dbgacc false 0x80000000 9) up fun t => acc .denied t && t.bus == 0,
      shows (scratchCore 0x700F0004 == some 7) (.dbgacc true 0x700F0004 9) (held 0x80000004) fun t => acc .ok t && t.ldw 0x700F0004 == 9] = true := by decide +kernel

/-! ### Images and updates -/

/-- A manifest head for a node image of one piece, in DRAM at UPD_ARG0. -/
def headed (t : Nat) (s : State := up) : State :=
  set [(UPD_ARG0, 0x80000000), (UPD_ARG1, 0), (UPD_NIBASE, 0x88000000)]
    (mems [(0x80000000, 0x4D414E46), (0x80000004, if t ≤ 1 then 0x1 else 0x00010001), (0x80000008, 512), (0x8000000C, 1)] s)

/-- A program image of core 1 at 0x81000000, verified in entry v. -/
def image (typ v : Nat) (s : State := up) : State :=
  set [(UPD_VERv v, 0x81000000)] (mems [(0x81000000, 0x0150554C), (0x81000004, 0x00010100), (0x81000008, word (0x200 + typ)), (0x81000018, 0x100), (0x8100001C, 4),
    (0x81000010, 8), (0x81000100, 0xCAFE)] s)

/-- What the last UPD command answers. -/
def ans (st d r : Nat) (t : State) : Bool := t.rd UPD_CMDSTAT == 0x80000000 && (t.upd.cmd.map fun k => (k.status, k.detail, k.result)) == some (st, d, r)

theorem witness_UpdCommandsReceiveAndVerifyImages :
    let busy := set [(UPD_CMDSTAT, 0x80000000)]
    let key : KeyObj := ⟨2, 1, 0, 0, true, false, false, 0, 0, []⟩
    let arg (v : Word) (s : State) := set [(UPD_ARG1, v)] s
    let tgt (t st n : Nat) (s : State) := set [(UPD_TGTt_STAT t, word (st * 2 ^ 29)), (UPD_TGTt_NPIECE t, word n)] s
    let run := set [(UPD_BOOT, 0x100)] (headed 1)
    let got := (tgt 2 1 1 (headed 2)).setPiece 2 1 0
    let full := set ((List.range 8).map fun v => (UPD_VERv v, 0x80000000)) (image 0 0)
    let slot := set [(UPD_ARG1, 1), (UPD_ARG0, 0x80000000), (UPD_TGTt_STAT 1, 0x60000000)]
    let pg := set [(UPD_ARG0, 0x8FFBF000)]
    let fin (u : UpdFin) := busy.modUpd fun x => { x with cmd := some ⟨0, 1, 2, u, none⟩ }
    all [
      shows (busy.isOn 14) (.piece 0) busy fun t => t.bit UPD_STAT 4, shows true .pgret busy fun t => t.bit UPD_STAT 4 && t.upd.cmd.isNone,
      shows (up.mode != 9) (.piece 6) (headed 2) (ans stRANGE 0 0), shows true (.piece 2) (arg 0xC0000000 (headed 2)) (ans stRANGE 0 0),
      shows (!(set [(UPD_ARG0, 0x8FFBFE01)] (headed 2)).updRange 0x8FFBFE01 512) (.piece 2) (set [(UPD_ARG0, 0x8FFBFE01)] (headed 2)) (ans stRANGE 0 0),
      shows (run.slotInUse 1) (.piece 1) run (ans stDENIED 1 0),
      shows ((headed 5).headFits 5 ((headed 5).octets 0x80000000 512) && (headed 5).tgt 5 == 0) (.piece 5) (headed 5) (ans stAUTH 2 0),
      completes ((headed 2).headFits 2 ((headed 2).octets 0x80000000 512)) (.piece 2) ((store 1 [(0, key)] (headed 2))),
      shows (1 ≤ (tgt 2 1 1 (headed 2)).nlist 2) (.piece 2) (arg 0x80000000 (tgt 2 1 1 (headed 2))) (ans stNOTREADY 0 0),
      shows (0 < got.nlist 2) (.piece 2) (arg 0x40000000 got) (ans stALREADY 0 0),
      shows (!(tgt 2 1 17 (headed 2)).pieceBit 2 1 1) (.piece 2) (arg 0x40000001 (tgt 2 1 17 (headed 2))) fun t => ans stOK 0 0 t && t.ldw 0x88400400 == 0x4D414E46
        && (t.upd.cmd.map (·.fin)) == some (.piece 2 1 1),
      completes (!(tgt 2 2 1 (headed 2)).pieceBit 2 2 0) (.piece 2) (arg 0x80000000 (tgt 2 2 1 (headed 2))),
      shows (!run.slotInUse 5) (.erase 5) got fun t => ans stOK 0 0 t && t.tgt 5 == 0, shows true (.erase 2) got fun t => ans stOK 0 0 t && !t.pieceBit 2 1 0 && t.npiece 2 == 0,
      shows true (.erase 1) run (ans stDENIED 1 0), shows true (.erase 6) run (ans stRANGE 0 0), shows true (.erase 15) run (ans stRANGE 0 0),
      shows (((set [(UPD_ARG0, 0x81000002)] (image 0 0)).checkLup 0x81000002).1 == stRANGE) .updVerify (set [(UPD_ARG0, 0x81000002)] (image 0 0)) (ans stRANGE 0 0),
      completes ((List.range 8).all fun v => full.bit (UPD_VERv v) 31) .updVerify (set [(UPD_ARG0, 0x81000000)] full),
      completes ((image 0 1).lupFits 0x81000000 false) .updVerify (set [(UPD_ARG0, 0x81000000)] (image 0 1)),
      shows (full.bit (UPD_VERv 7) 31) (.updRelease 7) full fun t => ans stOK 0 0 t && t.rd (UPD_VERv 7) == 0, shows true (.updRelease 8) full (ans stRANGE 0 0),
      shows true (.updRelease 0) up (ans stRANGE 0 0), shows (up.tgt 0 != 3) .loadslot (arg 0 up) (ans stNOTREADY 0 0),
      shows true .loadslot (set [(UPD_ARG0, 0x7FFFFFFF)] slot) (ans stRANGE 0 0), completes (!slot.lockedRange 0x80000000 512) .loadslot slot,
      shows (pg.updRange 0x8FFBF000 4096) .pgret pg fun t => ans stOK 0 0 t && t.rd (UPD_PGRETk 0) == 0x8000FFBF,
      shows true .pgret (set [(UPD_PGRETk 63, 0x8000FFBF)] pg) (ans stALREADY 0 0),
      shows true .pgret (set [(UPD_ARG0, 0x8FFBF001)]) (ans stRANGE 0 0),
      shows true .updCommandDone (fin (.piece 5 0 0)) fun t => t.rd UPD_CMDSTAT == 0x00020100 && t.tgt 5 == 1, shows true .updCommandDone (fin (.piece 0 1 3)) fun t => t.pieceBit 0 1 3,
      shows true .updCommandDone (fin (.piece 1 2 9)) fun t => t.pieceBit 1 2 9 && t.upd.cmd.isNone,
      completes (((tgt 2 1 1 (headed 2)).setPiece 2 1 0).tgt 2 == 1 && (got.listBits 2).length == got.nlist 2) (.listHashDone 2) got,
      completes ((((tgt 2 2 1 (headed 2)).setPiece 2 2 0).imgBits 2).length == 1) (.imageHashDone 2) ((tgt 2 2 1 (headed 2)).setPiece 2 2 0)] = true := by decide +kernel

theorem witness_TrialsAndSettingsCommitOrRevert :
    let trial := set [(UPD_BOOT, 0x80000101), (UPD_SETGEN, 0x00080007), (UPD_TRIAL, 0x00100010)]
    let due := (set [(UPD_BOOT, 0x40000000)]).modUpd fun u => { u with revertDue := true }
    let setw (n : Word) := set [(UPD_ARG0, 0x80000000)] (mems [(0x80000000, 0x00090005), (0x80000004, n * 65536), (0x8000000C, 0xCAFE)] trial)
    let blocks (l : List SetBlk) (s : State) := s.modUpd fun u => { u with settings := l }
    let b : SetBlk := ⟨0, 5, 1, 7, 4⟩
    let two := set [(UPD_ARG1, 5)] (blocks [b, ⟨64, 5, 2, 8, 4⟩, ⟨128, 6, 2, 8, 4⟩] trial)
    all [
      shows (trial.bit UPD_BOOT 31) .updCommit trial fun t => ans stOK 0 0 t && t.rd UPD_BOOT == 0x101 && t.rd UPD_SETGEN == 0x00080008 && t.rd UPD_TRIAL == 0x10,
      shows (!up.bit UPD_BOOT 31) .updCommit (set [(UPD_BOOT, 0)]) (ans stALREADY 0 0),
      shows true .updRevert trial fun t => ans stOK 0 0 t && t.rd UPD_BOOT == 0x40000100 && t.tgt 1 == 4 && t.upd.revertDue && t.bit UPD_STAT 3,
      shows true .updRevert (set [(UPD_BOOT, 0)]) (ans stNOTREADY 0 0),
      shows true .trialExpiry trial fun t => t.rd UPD_BOOT == 0x40000100 && t.tgt 1 == 4, idles true .trialExpiry (set [(UPD_BOOT, 1)]),
      shows (due.mode != 7) .revertTimeout due fun t => t.rep.reset == some ⟨8⟩ && !t.upd.revertDue,
      shows true .setw (setw 4097) (ans stRANGE 0 0), shows true .setw (set [(UPD_ARG0, 0)] (setw 4)) (ans stRANGE 0 0),
      shows (findRoom 16 0 [⟨0, 1, 0, 0, 0x1EFFF0⟩] == none) .setw (blocks [⟨0, 1, 0, 0, 0x1EFFF0⟩] (setw 4)) (ans stFULL 0 0),
      shows (findRoom 16 0 [b] == some 16) .setw (blocks [b] (setw 4)) fun t => ans stOK 0 0 t && t.upd.settings == [b, ⟨16, 5, 9, 8, 4⟩] && t.ldw (setBase + 28) == 0xCAFE
        && t.loadN (setBase + 16) 2 == 5 && t.loadN (setBase + 20) 2 == 8,
      completes (4096 ≤ 4096) .setw (setw 4096),
      shows (genLe 7 8 && !genLe 8 7) .setfind two fun t => ans stOK 0 0 t && t.rd UPD_ARG0 == 0x600040, shows true .setfind (set [(UPD_ARG1, 4)] two) (ans stNOTREADY 0 0),
      shows true .setdel two fun t => ans stOK 0 0 t && t.upd.settings == [b, ⟨128, 6, 2, 8, 4⟩]] = true := by decide +kernel

theorem witness_ActivationsStageSwapAndEnd :
    let s (typ : Nat) := gprs [(1, 0x81000000)] (image typ 7)
    let st (n d : Nat) (t : State) : Bool := t.gpr 0 5 == completion n d
    let swap (k : Nat) : Instr := .act 0 5 1 (BitVec.ofNat 16 (4 * k))
    let lost (n : Nat) (s : State) := (store 1 [(0, { secret with state := n })] s)
    let act (s : State) := set [(SYS_MODE, 0x528)] s
    let from1 := set [(UPD_VERv 7, 0xC1000000), (UPD_TGTt_STAT 1, 0x60000000), (UPD_BOOT, 0)] (s 3)
    let staged := act (from1.modUpd fun u => { u with bundle := some 7 })
    let load := ((image 0 7).modCore 1 fun k => { k with run := .loading, level := 2, evmask := 7 }).modUpd fun u => { u with swap := vset u.swap 1 (some 0x81000000) }
    all [
      shows ((s 0).able 0 [9, 14]) (.actPktMicrocode 0 5 1 0) (s 0) (st stRANGE 0), shows true (.actGnssMicrocode 0 5 1 0) (s 0) (st stRANGE 0),
      shows true (.actBundle 0 5 1 0) (s 0) (st stRANGE 0), shows true (swap 1) (s 2) (st stRANGE 0),
      shows (((s 0).lup 0x81000000).cores == 2) (swap 2) (s 0) (st stRANGE 0), shows true (swap 0) (s 0) (st stRANGE 0),
      shows ((s 0).entryAt 0x81000000 == some 7) (swap 1) (s 0) fun t => st stOK 0 t && (t.core 1).run == .loading && vget t.upd.swap 1 none == some 0x81000000,
      shows true (swap 1) (set [(UPD_VERv 7, 0)] (s 0)) (st stNOTREADY 0), shows true (.actGnssMicrocode 0 5 1 0) (set [(UPD_VERv 7, 0x01000000)] (s 2)) (st stNOTREADY 0),
      shows ((lost 2 (s 1)).keyLost 0x81000000) (.actPktMicrocode 0 5 1 0) (lost 2 (s 1)) (st stAUTH 0), shows true (swap 1) (lost 3 (s 0)) (st stAUTH 0),
      shows (!(s 0).keyLost 0x81000000) (swap 1) (act (s 0)) (st stBUSY 0), shows true (swap 1) ((s 0).modUpd fun u => { u with swap := vset u.swap 1 (some 1) }) (st stBUSY 0),
      shows true (.actPktMicrocode 0 5 1 0) (s 1) fun t => st stOK 0 t && t.upd.pktPause, shows true (.actGnssMicrocode 0 5 1 0) (s 2) fun t => st stOK 0 t && t.upd.gnssPause,
      shows (from1.bundleReady 7 && !from1.onlyRetired 0x81000000) (.actBundle 0 5 1 0) from1 fun t => st stOK 0 t && t.upd.bundle == some 7,
      shows (!(s 3).bundleReady 7) (.actBundle 0 5 1 0) (s 3) (st stNOTREADY 0),
      shows true (.actPauseEnd true) (up.modUpd fun u => { u with gnssPause := true }) fun t => !t.upd.gnssPause,
      shows true (.actPauseEnd false) (up.modUpd fun u => { u with pktPause := true }) fun t => !t.upd.pktPause && t.qfab.hold == [],
      shows (staged.mode == 8) (.activationEnd true 255 255 255 0) staged fun t => t.mode == 5 && t.upd.bundle == some 7,
      shows true (.activationEnd false 0 0 0 0xFFFFFFFF) staged fun t => t.mode == 5 && t.upd.bundle == none && t.rd UPD_BOOT == 0x80000101 && t.fld UPD_RUNENT 3 0 == 7,
      shows (load.lupFits 0x81000000 false) (.programSwapEnd 1) load fun t => (t.core 1).run == .running && (t.core 1).pc == 8 && (t.core 1).evmask == 0 && (t.core 1).level == 0
        && t.ldw (iscrBase 1) == 0xCAFE,
      shows (up.runComponent 7 == none) (.programSwapEnd 7) (up.modCore 7 fun k => { k with run := .loading }) fun t => (t.core 7).run == .halted] = true := by decide +kernel

/-! ### The Plank, faults, records and the journal -/

/-- Bank b in a state with a count and kind. -/
def bank (b st count kind : Nat) (s : State := up) : State :=
  set [(PLANK_BANKb_STAT b, word (st * 2 ^ 29 + kind * 2 ^ 27 + count * 2 ^ 16))] s

/-- Entry i of bank b. -/
def ent (b i a : Nat) (v m src : Word) (s : State) : State :=
  set [(PLANK_Eb_i_ADDR b i, word a), (PLANK_Eb_i_VAL b i, v), (PLANK_Eb_i_MASK b i, m), (PLANK_Eb_i_SRC b i, src)] s

/-- Core 0 about to stage, check or block with g1, g2 and a mask. -/
def stg (a v m : Word) (s : State) : State := core0 (fun k => { k with stgmask := m }) (gprs [(1, a), (2, v)] s)

/-- The completion of core 0 in g3, with bank b in a state with a count. -/
def comp3 (w : Word) (b st count : Nat) (t : State) : Bool :=
  t.gpr 0 3 == w && (t.core 0).pc == 4 && t.bankState b == st && t.bankCount b == count

/-- What the host's command answers, with bank b in a state. -/
def hans (v : Word) (b st : Nat) (t : State) : Bool := t.rd PLANK_HSTAT == v && t.bankState b == st

theorem witness_ThePlankStagesChecksAndApplies :
    let good := ent 1 0 FLEET_HOLD_LO 5 0xFF 3
    let low := stg 0x40000000 7 1
    let far (s : State) := set [(PLANK_HADDR, 0x4017FFFC), (PLANK_HVAL, 9), (PLANK_HMASK, 0x80000000)] s
    let time (s : State) : State := set [(PLANK_HT0, 5)] (s.modTime fun t => { t with running := true, sec := 4 })
    let wait (s : State) : State := { core0 (fun k => { k with run := .waiting (.blk 3 1) }) s with
      plank := { s.plank with imm := vset s.plank.imm 1 true } }
    let ready := good (bank 1 2 1 0)
    let blk := stg 5 0 1 (time ready)
    let armed := time (good (bank 1 3 1 1))
    let moved := set [(TIME_MAINS_STAT, 0)] (stg 9 0x1FFFF 1 ready)
    all [
      shows ((low up).isOn 14 && (low up).mode != 9 && (low up).runs 0) (.stg 0 3 1 2 1) (low up) fun t => comp3 (completion stOK) 1 1 1 t &&
        t.rd (PLANK_Eb_i_ADDR 1 0) == 0x40000000 && t.rd (PLANK_Eb_i_VAL 1 0) == 7 && t.rd (PLANK_Eb_i_MASK 1 0) == 1 && t.rd (PLANK_Eb_i_SRC 1 0) == 0,
      shows true (.stg 0 3 1 2 0) (stg 0x4017FFFC 7 0x80000000 (ent 0 1022 9 9 9 9 (bank 0 1 1023 0)))
        fun t => comp3 (completion stOK) 0 1 1024 t && t.rd (PLANK_Eb_i_ADDR 0 1023) == 0x4017FFFC && t.rd (PLANK_Eb_i_ADDR 0 1022) == 9,
      shows true (.stg 0 3 1 2 1) (low (good (bank 1 4 1024 0))) (comp3 (completion stOK) 1 1 1), shows true (.stg 0 3 1 2 1) (low (bank 1 5 1 0)) (comp3 (completion stOK) 1 1 1),
      shows true (.stg 0 3 1 2 1) (stg 0x3FFFFFFC 7 1 up) (comp3 (completion stRANGE) 1 0 0), shows true (.stg 0 3 1 2 1) (stg 0x40180000 7 1 up) (comp3 (completion stRANGE) 1 0 0),
      shows true (.stg 0 3 1 2 1) (stg 0x40000002 7 1 up) (comp3 (completion stRANGE) 1 0 0), shows true (.stg 0 3 1 2 1) (stg 0x40000000 7 0 up) (comp3 (completion stRANGE) 1 0 0),
      shows true (.stg 0 3 1 2 1) (low (bank 1 3 1024 0)) (comp3 (completion stFULL 2) 1 3 1024), shows true (.stg 0 3 1 2 1) (low (bank 1 2 1024 0)) (comp3 (completion stFULL 1) 1 2 1024),
      shows ((good (bank 1 1 1 0)).bankFault 1 chkRules == none) (.chk 0 3 1 0) (good (bank 1 1 1 0)) (comp3 (completion stOK) 1 2 1),
      shows ((less [13] ready).bankFault 1 chkRules == some (2, 0)) (.chk 0 3 1 0) (less [13] ready) fun t => comp3 (completion stRULE 2) 1 1 1 t &&
        t.fld (PLANK_BANKb_STAT 1) 15 11 == 2 && t.fld (PLANK_BANKb_STAT 1) 9 0 == 0 && t.bit PLANK_STAT 1,
      all ([Instr.blk 0 3 1 2 1, .blkNetworkTime 0 3 1 2 1 0, .blkMains 0 3 1 2 1 0].map fun x => shows true x (bank 1 3 1 0) (comp3 (completion stNOTREADY 2) 1 3 1)
        && shows true x (bank 1 1 1 0) (comp3 (completion stNOTREADY 1) 1 1 1) && shows true x (bank 1 5 1 0) (comp3 (completion stNOTREADY 1) 1 5 1)),
      shows (blk.runs 0) (.blk 0 3 1 2 1) blk fun t => (t.core 0).run == .waiting (.blk 3 1) && (t.core 0).pc == 4 && vget t.plank.imm 1 false && t.bankState 1 == 2,
      shows true (.blkNetworkTime 0 3 1 2 1 0) (stg 3 0 1 (time ready)) (comp3 (completion stLATE) 1 2 1),
      shows true (.blkNetworkTime 0 3 1 2 1 0) (stg 4 0 1 (time ready)) (comp3 (completion stARMED) 1 3 1),
      shows true (.blkNetworkTime 0 3 1 2 1 0) blk fun t => comp3 (completion stARMED) 1 3 1 t && t.fld (PLANK_BANKb_STAT 1) 28 27 == 1 && t.rd (PLANK_BANKb_TSEC 1) == 5,
      shows ((!moved.mainsLost || moved.bit TIME_MAINS_CTL 2) && !moved.mainsPast 9 0xFFFF) (.blkMains 0 3 1 2 1 0) moved
        fun t => comp3 (completion stARMED) 1 3 1 t && t.fld (PLANK_BANKb_STAT 1) 28 27 == 2 && t.rd (PLANK_BANKb_TGRN 1) == 0xFFFF,
      shows (set [(TIME_MAINS_STAT, 0)] (stg 0xFFFFFFFE 0 1 ready)).mainsLost.not (.blkMains 0 3 1 2 1 0) (set [(TIME_MAINS_STAT, 0)] (stg 0xFFFFFFFE 0 1 ready)) (comp3 (completion stLATE) 1 2 1),
      shows true (.hostStg 1) (far up) fun t => hans (word stOK) 1 1 t && t.rd (PLANK_Eb_i_ADDR 1 0) == 0x4017FFFC && t.rd (PLANK_Eb_i_VAL 1 0) == 9 && t.rd (PLANK_Eb_i_SRC 1 0) == 15,
      shows true (.hostStg 1) (set [(PLANK_HADDR, 0x40180000)] (far up)) (hans (word stRANGE) 1 0), shows true (.hostChk 1) (good (bank 1 1 1 0)) (hans (word stOK) 1 2),
      shows true (.hostChk 1) (less [13] ready) fun t => hans (word (2 * 256 + stRULE)) 1 1 t && t.fld (PLANK_BANKb_STAT 1) 15 11 == 2,
      shows true (.hostBlk 1 0) ready fun t => hans 0x80000000 1 2 t && vget t.plank.imm 1 false && vget t.plank.host 1 false,
      shows true (.hostBlk 1 1) (time ready) fun t => hans (word stARMED) 1 3 t && t.fld (PLANK_BANKb_STAT 1) 28 27 == 1 && t.rd (PLANK_BANKb_TSEC 1) == 5,
      shows true (.hostBlk 1 0) (bank 1 1 1 0) (hans (word (256 + stNOTREADY)) 1 1),
      completes ((set [(PLANK_BANKb_TSEC 1, 4)] armed).isOn 12 && (set [(PLANK_BANKb_TSEC 1, 4)] armed).bankEntries 1 == [⟨FLEET_HOLD_LO, 5, 0xFF, 3⟩]
        && decide (0 ≤ tdiff armed.now (tval 4 0))) (.bankApply 1) (set [(PLANK_BANKb_TSEC 1, 4)] armed),
      shows true (.bankApply 1) (set [(PLANK_BANKb_TSEC 1, 4)] armed) fun t => t.bankState 1 == 4 && t.bit PLANK_STAT 0 && t.rd FLEET_HOLD_LO == 5 && t.mem == up.mem,
      shows true (.bankApply 1) (less [13] armed) fun t => t.bankState 1 == 5 && t.fld (PLANK_BANKb_STAT 1) 15 11 == 2 && t.bit PLANK_STAT 3,
      shows ((wait ready).bankEntries 1 == [⟨FLEET_HOLD_LO, 5, 0xFF, 3⟩]) (.bankApply 1) (wait ready) fun t => t.bankState 1 == 4 && (t.core 0).run == .running && t.gpr 0 3 == completion stOK,
      shows true (.bankClear 1) ready fun t => t.bankState 1 == 0 && t.bankCount 1 == 0, shows true (.bankDisarm 1) armed fun t => t.bankState 1 == 2 && t.bankCount 1 == 1,
      idles (ready.bankState 1 != 3) (.bankDisarm 1) ready] = true := by decide +kernel

theorem witness_FaultsCountAndAreActedOn :
    let told (n b : Nat) (t : State) : Bool := t.rd (FAULT_CLSc_CNT n) == 1 && t.bit FAULT_STAT 0 && t.fld FAULT_LAST 28 24 == n && t.fld FAULT_LAST 23 16 == b
    let opens (w n b : Nat) (t : State) : Bool := told n b t && t.rd (FAULT_OPENw w) == word (2 ^ 31 + n * 2 ^ 24 + b * 2 ^ 16 + classWindow n)
    let six (s : State) := set ((List.range 7).map fun w => (FAULT_OPENw w, 0x80000000)) s
    let maint (s : State) := set [(SYS_MODE, 10)] s
    let a (action : Nat) : FaultAct := ⟨3, 0x70, [7], action, 9, 0, 0, false⟩
    let acts (l : List FaultAct) (s : State) : State := { s with rep := { s.rep with acts := l } }
    let ecc (n : Nat) : State := { up with rep := { up.rep with ecc := List.replicate n (2, 0) } }
    let lost (s : State) := set [(FAULT_AVm_OUT_S 0, 7), (RTC_SEC_LO, 50)] s
    all [
      shows (up.isOn 14) (.faultDetected 1 0x13 0 0) up (opens 0 1 0x13), shows true (.faultDetected 10 0x13 0 0) (six up) (opens 7 10 0x43),
      shows true (.faultDetected 19 0x13 0 0) up (told 19 0x13), shows true (.faultDetected 11 0x13 0 0) up (told 11 0),
      shows ((maint up).mode == 10) (.faultInject 0x464C0170) (maint up) (opens 0 1 0x70), shows true (.faultInject 0x464C1370) (maint up) (told 0x13 0x70),
      idles true (.faultInject 0x464C1470) (maint up), idles (up.mode != 10) (.faultInject 0x464C0170) up, idles true (.faultInject 0x464C0070) (maint up),
      shows (!(acts [a 2] up).atWork (a 2)) (.recoveryComplete 9 false) (acts [a 2, { a 2 with seq := 8 }] up) fun t => t.rep.acts == [{ a 2 with seq := 8 }],
      shows true (.recoveryComplete 9 true) (acts [a 1] up) fun t => t.rep.acts.isEmpty,
      shows true (.recoveryComplete 9 false) (acts [a 1] up) fun t => t.rep.acts.any fun x => x.seq == 9 && x.raised && x.action == 7,
      idles ((acts [a 8] up).atWork (a 8)) (.recoveryComplete 9 true) (acts [a 8] up),
      shows true (.faultWindowExpiry 6) (six up) fun t => t.rd (FAULT_OPENw 6) == 0 && t.bit (FAULT_OPENw 5) 31,
      (let s := acts [a 6] { up with rep := { up.rep with throttle := true } }
       shows true .throttleEnd s fun t => !t.rep.throttle && t.rep.acts.isEmpty),
      shows ((ecc 14).isOn 9) (.eccCorrected 0x2FFF false) (ecc 14) fun t => t.rep.ecc == List.replicate 15 (2, 0) && t.rd FAULT_ECCCNT == 1,
      shows true (.eccCorrected 0x2000 false) (ecc 15) fun t => t.rep.ecc.isEmpty && told 4 0x90 t, shows true (.eccCorrected 0x2000 true) up (told 4 0x90),
      shows true .availCheckpoint (lost up) fun t => t.rep.avCopy.headD 0 == 7 && t.rep.avCopy.length == 12,
      shows true (.availClear 0x41560000) (lost up) fun t => t.rd (FAULT_AVm_OUT_S 0) == 0 && t.rd FAULT_AVSTART == 50, idles true (.availClear 0x41550000) (lost up)] = true := by decide +kernel

/-- A record of a LOGW of code 0x8000. -/
def rec0 : LogRec := ⟨7, 1, 2, 0x10, 0x8000, 3, 4, 5, true, false, false, false⟩

theorem witness_RecordsAreQueuedWrittenAndRead :
    let q (l : List LogRec) (s : State) : State := { s with rep := { s.rep with queue := l } }
    let lw (s : State) : State := core0 (fun k => { k with run := .waiting (.logw 3 rec0 true) }) s
    let full (s : State) := set [(LOG_STAT, 0x80020000)] s
    let dev := mems [(0x70000100, 3), (0x70000104, 4), (0x70000108, 5)] (gprs [(1, 0x100)])
    let frozen (s : State) := set [(REPLAY_STAT, 0x80000000)] s
    let rate (n : Nat) (cnt : Bool) : State := { up with rep := { up.rep with rates := [⟨0x100, 2, n, { rec0 with count := cnt }⟩] } }
    let cur (i : Nat) : State := { up with rep := { up.rep with cursor := vset up.rep.cursor 8 (i, false) } }
    all [
      shows ((lw up).isOn 14) .recordWrite (lw (q [rec0] up)) fun t => t.fld LOG_STAT 17 0 == 1 && t.words (recAddr 0) 7 == rec0.front && (t.core 0).run == .running && t.gpr 0 3 == 0x700,
      shows true .recordWrite (set [(LOG_STAT, 131070)] (q [rec0] up)) fun t => t.fld LOG_STAT 17 0 == 131071 && t.words (recAddr 131070) 7 == rec0.front && !t.bit LOG_STAT 31,
      shows true .recordWrite (set [(LOG_STAT, 131071)] (q [rec0] up)) fun t => t.fld LOG_STAT 17 0 == 131072 && t.bit LOG_STAT 31 && t.rep.queue.isEmpty, idles true .recordWrite up,
      all ([0, 0x7FFF, 0xFFF0, 0xFFFD].map fun n => shows (up.runs 0 && up.mode != 9) (.logw 0 3 1 n) up fun t => t.gpr 0 3 == completion stRANGE && (t.core 0).pc == 4 && t.rep == up.rep),
      shows true (.logw 0 3 1 0x8000) (full up) fun t => t.gpr 0 3 == completion stFULL && t.rep == up.rep, shows true (.logw 0 3 1 0xFFEF) (full up) fun t => t.gpr 0 3 == completion stFULL,
      shows true (.logw 0 3 1 0xFFEF) dev fun t => (t.core 0).pc == 4 && t.rd LOG_SEQ == dev.rd LOG_SEQ + 1 &&
        t.rep.queue.map (fun x => (x.code, x.src, [x.a0, x.a1, x.a2], x.sw, x.seq)) == [(0xFFEF, 0x10, [3, 4, 5], true, dev.rd LOG_SEQ)]
        && (t.core 0).run == .waiting (.logw 3 (t.rep.queue.headD rec0) true),
      shows true (.logw 0 3 1 0x8000) (q (List.replicate 64 rec0) up) fun t => t.rep == (q (List.replicate 64 rec0) up).rep && (match (t.core 0).run with
        | .waiting (.logw gd _ queued) => gd == 3 && !queued
        | _ => false),
      shows (!up.bit REPLAY_STAT 31) (.logwFreeze 0 3 1 0) (set [(LOG_SEQ, 0x010203)]) fun t => t.gpr 0 3 == completion stOK 4 0x0102 || t.gpr 0 3 == completion stOK 3 0x0102,
      shows (!(frozen up).bit REPLAY_STAT 31 == false) (.logwFreeze 0 3 1 0) up fun t => t.bit REPLAY_STAT 31 && t.fld REPLAY_STAT 3 0 == 2,
      shows true (.logwClear 0 3 1 0) (life 0 (set [(LOG_LOSTk 8, 3), (LOG_STAT, 0x80020000)])) fun t => t.rd LOG_STAT == 1 && t.rd (LOG_LOSTk 8) == 0 && (t.core 0).pc == 4,
      shows true (.logwClear 0 3 1 0) (set [(SYS_MODE, 11)]) fun t => t.gpr 0 3 == completion stDENIED && t.rep == up.rep,
      shows true (.rateLimitIntervalEnd 0x100 2) (rate 0 true) fun t => t.rep.rates.isEmpty, shows true (.rateLimitIntervalEnd 0x100 2) (rate 3 false) fun t => t.rep.rates.isEmpty,
      shows true (.rateLimitIntervalEnd 0x100 2) (rate 3 true) fun t => (t.rep.rates.map (·.count)) == [0] && (t.rep.queue.map (·.a0)) == [3], idles true (.rateLimitIntervalEnd 0x100 3) (rate 3 true),
      shows true (.evrWindowRead .host) (cur 131071) fun t => vget t.rep.cursor 8 (0, false) == (131071, true),
      shows true (.evrWindowRead .host) (mems [(recAddr 5 + 28, 0xCAFE)] (cur 5)) fun t => t.bus == 0xCAFE && vget t.rep.cursor 8 (0, false) == (6, false)] = true := by decide +kernel

theorem witness_TheJournalFreezesAndReplays :
    let on (s : State) := set [(REPLAY_CTL, 0x80000001)] s
    let ent (kind : Nat) (arg : Word) (data : List Word) : JEnt := ⟨0, 0, 5, kind, 0, 0, arg, data⟩
    let saved : Core := { coreReset with pc := 0x44, gpr := coreReset.gpr.set 3 8, run := .halted }
    let p : Ckpt := ⟨0, 4, 0, false, [(0, saved)], [(0x70000000, 1), (0x7000FFFF, 2)]⟩
    let rep (s : State) := set [(SYS_MODE, 9), (REPLAY_CTL, 0x40000001), (REPLAY_STAT, 0xA0000000)] s
    let todo (l : List JEnt) (s : State) : State := s.modReplay fun r => { r with todo := l }
    let pts (s : State) : State := s.modReplay fun r => { r with ckpts := [p], entries := [{ ent 1 0 [] with jseq := 4 }, ent 4 1 [], ent 14 0 []] }
    all [
      shows ((on up).journalOn && (on up).journalled 3 0) (.journalAppend 3 0 7 8 [1, 2, 3, 4, 5] false) (on up) fun t => t.rd REPLAY_JSEQ == 1 && t.fld REPLAY_JWR 25 0 == 48 &&
        t.rep.replay.entries == [⟨0, 2, 0, 3, 0, 7, 8, [1, 2, 3, 4, 5]⟩],
      shows ((on up).journalled 8 15) (.journalAppend 8 15 7 8 [] false) (set [(REPLAY_JWR, 0x3FFFFF0)] (on up)) fun t => t.fld REPLAY_JWR 25 0 == 0,
      shows true (.journalAppend 3 0 7 8 [1] true) (on up) fun t => t.bit REPLAY_STAT 30 && t.rep.replay.lost == 1 && t.rep.replay.entries.isEmpty,
      completes ((on up).setCores == [0]) .checkpoint (on up), shows true .checkpoint (set [(REPLAY_CTL, 0x80000000)]) fun t => t.rep.replay.ckNum == 1 && t.rd REPLAY_JSEQ == 0,
      idles (!up.journalOn) .checkpoint up,
      shows true (.freeze 0x5250) up fun t => t.bit REPLAY_STAT 31 && t.fld REPLAY_STAT 3 0 == 3, idles true (.freeze 0x5250) (rep up), idles true (.freeze 0x5251) up, idles true (.unfreeze 0x5251) (rep up),
      shows (up.isOn 9) (.unfreeze 0x5250) (set [(REPLAY_STAT, 0x80000000)]) fun t => !t.bit REPLAY_STAT 31 && t.rep.replay.lost == 0,
      shows true (.iqStop 0x1FFFFF 3) (set [(REPLAY_STAT, 0x80000000), (REPLAY_IQCTL, 0x30000)]) fun t => t.rd (REPLAY_IQp_IDX 0) == 0x1FFFFF && t.rd (REPLAY_IQp_IDX 1) == 3,
      shows ((pts (rep up)).replaying && (pts (rep up)).startPoint == some p) .replayStart (pts (rep up)) fun t => t.rd REPLAY_PROG == 4 && t.gpr 0 3 == 8 && (t.core 0).pc == 0x44 &&
        (t.core 0).run == .running && t.rep.replay.todo == [ent 4 1 []] && t.byte 0x7000FFFF == 2,
      idles ((rep up).replaying) .replayStart (todo [ent 4 0 []] (rep up)),
      shows ((todo [ent 4 1 []] (rep up)).nextOf 0 == some (ent 4 1 [])) (.replayInput 0 [] none) (todo [ent 4 1 []] (rep up)) fun t => t.rep.replay.todo.isEmpty && t.rd REPLAY_PROG == 5 &&
        tabGet (fun _ => none) t.rep.replay.input 0 == some (ent 4 1 []),
      shows true (.replayInput 0 [] none) (todo [ent 3 31 []] (rep up)) fun t => (t.core 0).evpend == 0x80000000,
      shows true (.replayInput 0 [6] none) (todo [ent 7 5 []] (rep up)) fun t => t.bit REPLAY_STAT 27 && t.rd REPLAY_DIVIDX == 5 && t.rd REPLAY_DIVREC == 5 && t.rd REPLAY_DIVREP == 6 && !t.replaying,
      shows true (.replayInput 0 [] (some (5, 0))) (todo [ent 4 1 []] (rep up)) fun t => t.bit REPLAY_STAT 27 && t.rd REPLAY_DIVIDX == 5 && t.rep.replay.todo == [ent 4 1 []],
      shows ((rep up).inSet 0) .replayEnd (rep up) fun t => !t.bit REPLAY_STAT 29 && t.bit REPLAY_STAT 28 && (t.core 0).run == .halted && (t.core 1).run == .running] = true := by decide +kernel

/-! ### The host -/

/-- A ring of 16 entries that runs on queues 3 and 4, with its tail at t and head at h. -/
def ring (k : Nat) (t h : Word) (s : State := up) : State :=
  set [(HOST_LINK, 0x80000000), (HOST_RINGk_CTL k, 0x84000403), (HOST_RINGk_TAIL k, t), (HOST_RINGk_HEAD k, h)] s

/-- A descriptor queue with these items. -/
def queue (d : Nat) (l : List (Nat × Bool)) (s : State) : State := s.setDescq d { dqReset with items := l, cred := 5 }

theorem witness_RingsMoveDescriptorsUnderTheLink :
    let l := set [(HOST_LINK, 0xFFFFFFFF), (HOST_RINGk_CTL 7, 0x8C000000), (HOST_RINGk_HEAD 7, 9), (HOST_RINGk_TAIL 0, 3), (HOST_IRQSTAT, 0x1FFFF)]
    let r (k : Nat) := queue 4 [(7, false)] (queue 3 [(5, true), (6, false)] (ring k 0 15))
    let items (d : Nat) (t : State) := (t.descq d).items
    let done (k : Nat) (e : RingOut) (t : State) : Bool := t.host.entry == some e && t.rd (HOST_RINGk_HEAD k) == 0 && t.bit HOST_IRQSTAT (8 + k) && t.fld (HOST_RINGk_STAT k) 15 0 == 1
    all [
      shows (l.isOn 11) .perst l fun t => t.rd HOST_LINK == 0 && t.rd (HOST_RINGk_HEAD 7) == 0 && t.rd (HOST_RINGk_TAIL 0) == 0 && !t.bit (HOST_RINGk_CTL 7) 31 && t.rd HOST_IRQSTAT == 0,
      shows true (.pcieLinkChange 1 2 32) up fun t => t.bit HOST_LINK 31 && t.fld HOST_LINK 30 29 == 2 && !t.bit HOST_LINK 28 && t.fld HOST_LINK 5 0 == 32 && t.host.link == 1,
      shows true (.pcieLinkChange 2 1 0) up fun t => t.bit HOST_LINK 31 && t.fld HOST_LINK 30 29 == 1 && t.bit HOST_LINK 28, shows true (.pcieLinkChange 3 3 0) up fun t => !t.bit HOST_LINK 31,
      shows true (.pcieLinkChange 0 0 0) l fun t => t.rd HOST_LINK == 0,
      shows true (.ringTailWrite 7 0xFFFFF00E) (ring 7 3 15) fun t => t.rd (HOST_RINGk_TAIL 7) == 14 && !t.bit (HOST_RINGk_STAT 7) 31,
      shows true (.ringTailWrite 7 15) (ring 7 3 15) fun t => t.rd (HOST_RINGk_TAIL 7) == 15 && t.bit (HOST_RINGk_STAT 7) 31, shows true (.ringTailWrite 0 16) (ring 0 3 15) fun t => t.bit (HOST_RINGk_STAT 0) 31,
      shows ((r 3).isOn 7 && (r 3).bit HOST_LINK 31 && (r 3).dqRoom 4 && (r 3).ringSize 3 == 16) (.ringDeviceToHost 3 100 101 true false) (r 3) fun t => items 3 t == [(6, false)] &&
        items 4 t == [(7, false), (5, false)] && done 3 ⟨3, 15, true, true, 100, 5⟩ t && t.bit (HOST_RINGk_STAT 3) 30,
      shows true (.ringDeviceToHost 0 65535 65535 false true) (r 0) (done 0 ⟨0, 15, false, false, 65535, 5⟩),
      idles true (.ringDeviceToHost 0 9 9 false false) (ring 0 5 5), idles true (.ringDeviceToHost 0 9 9 false false) (ring 0 6 5),
      shows ((r 4).dqRoom 3) (.ringHostToDevice 0 9 false false) (r 4) fun t => items 4 t == [] && items 3 t == [(5, true), (6, false), (7, false)] && done 4 ⟨4, 15, false, false, 9, 7⟩ t,
      shows true (.ringHostToDevice 3 9 true false) (r 7) fun t => items 4 t == [(7, false)] && items 3 t == [(5, true), (6, false)] && t.bit (HOST_RINGk_STAT 7) 30 && t.host.entry == some ⟨7, 15, false, true, 9, 7⟩,
      idles true (.ringHostToDevice 3 9 false false) (ring 7 5 5), idles true (.ringHostToDevice 3 9 false false) (ring 7 6 5)] = true := by decide +kernel

theorem witness_TheHostReadsAndWritesTheAddressMap :
    let dram := mems [(0x8FFBFFFC, 0xCAFE)] up
    let scr := mems [(0x501FFFFC, 0xBEEF)] up
    let counted (t : State) : Bool := t.fld HOST_QSTSTAT 15 0 == 1 && t.bit HOST_IRQSTAT 16
    let stat (s : State) := set [(GPIO_STAT, 0x0003FFFF)] s
    let regs : List Nat := [SYS_MODE, GPIO_DIR, GPIO_OD, GPIO_OUT, GPIO_STAT, GPIO_EDGE, HOST_IRQSTAT, HOST_IRQEN]
    all [
      shows (areaOf GPIO_OUT == .reg) (.qstWrite (word GPIO_OUT) 0xFFFFFFFF 4) up fun t => t.rd GPIO_OUT == 0xFFFF,
      shows (areaOf 0x8FFBFFFC == .dram && up.isOn 9 && !up.lockedRange 0x8FFBFFFC 4) (.qstWrite 0x8FFBFFFC 0x12345678 4) dram fun t => t.ldw 0x8FFBFFFC == 0x12345678 && t.byte 0x8FFBFFFC == 0x78,
      shows (areaOf 0x501FFFFC == .shared && up.isOn 1) (.qstWrite 0x501FFFFC 0x12345678 4) scr fun t => t.ldw 0x501FFFFC == 0x12345678,
      idles (areaOf 0x607FFFFC == .emram) (.qstWrite 0x607FFFFC 1 4) up, shows true (.qstWrite 0x80000000 1 0) up counted, shows true (.qstWrite 0x80000000 1 5) up counted,
      shows true (.qstRead 0x8FFBFFFC 4 false false) dram fun t => t.bus == 0xCAFE, shows true (.qstRead 0x501FFFFC 4 false true) scr fun t => t.bus == 0xBEEF,
      shows (!keyArea 0x60500000) (.qstRead 0x60500000 4 false false) (mems [(0x60500000, 7)] up) fun t => t.bus == 7,
      shows true (.qstRead 0x8FFBFFFC 3 false false) dram fun t => counted t && t.bus == 0xCAFE, shows true (.qstRead 0x8FFBFFFC 4 true false) dram fun t => t.bus == 0 && t.bit HOST_QSTSTAT 31,
      shows true (.qstRead (word GPIO_STAT) 4 true false) (stat up) fun t => t.bus == 0x0003FFFF && t.rd GPIO_STAT == 0xFFFF,
      idles ((less [11]).isOn (regDom GPIO_OUT) == false) (.registerWrite .host (word GPIO_OUT) 1) (less [11]), idles ((regAt 0x4017FFFC).isNone) (.registerWrite .qspi 0x4017FFFC 1) up,
      all (regs.map fun a => shows ((regAt a).isSome && up.isOn (regDom a)) (.registerWrite .host (word a) 0xFFFFFFFF) (set [(a, 0xFFFFFFFF)]) fun t => (List.range 32).all fun i =>
        t.bit a i == (match regAt a with
          | some r => if r.rw.testBit i then true else !r.w1c.testBit i
          | none => false)),
      shows true (.registerWrite (.core 3) (word GPIO_STAT) 0xFFFF0001) (stat up) fun t => t.rd GPIO_STAT == 0x0003FFFE] = true := by decide +kernel

theorem witness_UartAndGpioFollowTheirPins :
    let h (f : HostSt → HostSt) (s : State) : State := s.modHost f
    let on := set [(HOST_UART_CTL, 0x800000A7), (HOST_UART_DATA, 0x40000000)]
    let full (s : State) := h (fun x => { x with uartRx := List.replicate 16 9, uartTx := List.replicate 16 9 }) s
    let recov := h (fun x => { x with recovery := true, bundle := [1] }) (set [(SYS_MODE, 0)])
    let edge (k : Nat) (lvl : Word) := set [(GPIO_EDGE, word (k * 2 ^ 30)), (GPIO_IN, lvl)]
    all [
      shows (on.isOn 11) (.uartRxByte 0xA5) (h (fun x => { x with uartRx := List.replicate 15 9 }) on) fun t => t.host.uartRx == List.replicate 15 9 ++ [0xA5],
      shows true (.uartRxByte 0xA5) (full (set [(HOST_UART_CTL, 0x80000000)])) fun t => t.bit HOST_UART_DATA 30 && t.host.uartRx == List.replicate 16 9,
      shows true (.uartTxPush 7) (h (fun x => { x with uartTx := List.replicate 15 9 }) up) fun t => t.host.uartTx == List.replicate 15 9 ++ [7], idles true (.uartTxPush 7) (full up),
      shows true .uartRxPop (full on) fun t => t.bus == 0x60000009 && t.host.uartRx.length == 15 && !t.bit HOST_UART_DATA 30, shows true .uartRxPop up fun t => t.bus == 0x80000000,
      shows (recov.mode == 0) (.uartFrame [2, 3] true) recov fun t => t.host.uartTx == [0x06] && t.host.bundle == [1, 2, 3] && t.host.recovery,
      shows true (.uartFrame (List.replicate 1024 5) true) recov fun t => t.host.bundle.length == 1025, shows true (.uartFrame [] true) recov fun t => t.host.uartTx == [0x06] && !t.host.recovery && t.host.bundle == [1],
      shows true (.uartFrame [2] false) recov fun t => t.host.uartTx == [0x15] && t.host.bundle == [1],
      shows (!(edge 1 0).bit GPIO_IN 15) (.gpioEdge 15 true false) (edge 1 0) fun t => t.fld GPIO_STAT 31 16 == 1 && t.fld GPIO_STAT 15 0 == 0 && !t.bit GPIO_IN 15,
      shows true (.gpioEdge 15 true true) (edge 2 0) fun t => t.bit GPIO_IN 15 && t.rd GPIO_STAT == 0, shows true (.gpioEdge 15 true true) (edge 1 0) fun t => t.bit GPIO_IN 15 && t.bit GPIO_STAT 15,
      shows true (.gpioEdge 15 false true) (edge 2 0x8000) fun t => !t.bit GPIO_IN 15 && t.bit GPIO_STAT 15, shows true (.gpioEdge 15 false true) (edge 3 0x8000) fun t => t.bit GPIO_STAT 15,
      shows true (.gpioEdge 0 true true) (edge 0 0) fun t => t.bit GPIO_IN 0 && t.rd GPIO_STAT == 0, idles true (.gpioEdge 15 true true) (edge 3 0x8000),
      shows true .gpioRelease (set [(GPIO_CTL, 0x80000000)]) fun t => !t.bit GPIO_CTL 31] = true := by decide +kernel

/-! ### Modes, services and the canonical form -/

theorem witness_ModeChangesFollowTheirTables :
    let m (n : Word) (s : State) := set [(SYS_MODE, n)] s
    let req (c : Fin 8) (new : Nat) (svc : Option (Fin 8 × Word)) (s : State) : State :=
      { core0 (fun k => { k with run := .waiting (.mode 5 new) }) s with modeReq := some ⟨c, 5, new, svc⟩ }
    let cell (old new : Nat) (c : Cell) : Bool := modeCell old new == c
    let free := set [(FLEET_STOP_STAT, 0)]
    let went (old new : Nat) (latch : Bool) (t : State) : Bool := t.mode == new && t.fld SYS_MODE 7 4 == old && t.fld SYS_MODE_STAT 11 0 == new * 16 + stOK && t.latched == latch
      && t.modeReq.isNone
    let done (old new : Nat) (latch : Bool) (t : State) : Bool := went old new latch t && t.gpr 0 5 == completion stOK && (t.core 0).run == .running
    let boot (l : Nat) := m 0 (life l up)
    all [
      (req 0 3 none up).modeCheck 1 4 == (stBUSY, 0), cell 1 2 .refused && (m 1 up).modeCheck 0 2 == (stILLEGAL, 0), up.modeCheck 0 0 == (stILLEGAL, 0), up.modeCheck 0 7 == (stILLEGAL, 0),
      up.modeCheck 0 11 == (stILLEGAL, 0), cell 0 1 .lifecycle && (boot 2).modeCheck 0 1 == (stLIFECYCLE, 0), (boot 1).modeCheck 0 1 == (stOK, 0), up.modeCheck 0 3 == (stOK, 0),
      (less [13] up).modeCheck 0 3 == (stNOTREADY, 0),
      shows (up.runs 0) (.mode 0 5 3 0) up fun t => t.modeReq == some ⟨0, 5, 3, none⟩ && (t.core 0).run == .waiting (.mode 5 3) && (t.core 0).pc == 4 && t.regs == up.regs,
      shows (up.mode != 9) (.mode 0 5 15 0) up fun t => t.gpr 0 5 == completion stILLEGAL && (t.core 0).pc == 4 && t.fld SYS_MODE_STAT 11 0 == 240 + stILLEGAL && t.fld SYS_MODE_STAT 31 16 == 1 && t.mode == 2,
      idles true .modeChange up, shows (cell 2 3 .permitted) .modeChange (req 0 3 none free) (done 2 3 true), shows true .modeChange (req 0 2 none (m 4 free)) (done 4 2 true),
      shows (cell 3 4 .permitted) .modeChange (req 0 4 none (m 3 free)) (done 3 4 false), shows true .modeChange (req 0 10 none free) (done 2 10 false),
      shows ((List.range 6).all fun i => !(m 0 free).bit DBG_TAMPSTAT i) .modeChange (req 0 2 none (m 0 free)) (done 0 2 false),
      shows up.upd.activate.isNone .modeChange (req 0 3 (some (7, 0x01010900)) up) fun t => went 2 3 true t && t.rd (SEQ_MBOUTn_k 7 0) == 0x01010900 + word stOK && t.rd (SEQ_MBOUTn_k 7 1) == 0x23,
      shows ((boot 2).keys.zero == 0 && (boot 2).dbg.lcCmd.isNone) .emramStatesResolved (set [(UPD_BOOT, 1)] (boot 2)) fun t => t.mode == 0 && t.keys.sek && t.fld UPD_BOOT 8 8 == 1,
      shows true .emramStatesResolved (set [(FAULT_STAT, 4)] (boot 2)) fun t => t.mode == 10 && t.keys.sek,
      shows ((boot 4).lifecycle == 4) .emramStatesResolved (boot 4) fun t => t.mode == 11 && t.latched && (t.core t.bootCore).run == .halted] = true := by decide +kernel

theorem witness_MailboxRequestsAreAnswered :
    let rows (c : Fin 8) (nw : Fin 16) : List Instr := [.modeSet c 9 nw 3, .modeGet c 9 nw, .timeRead c 9 nw, .updatePiece c 9 nw 6 1 2, .updateStatus c 9 nw, .updateCommit c 9 nw, .updateRevert c 9 nw,
      .updateActivate c 9 nw 1 0x80000000, .fleetResume c 9 nw 0, .fleetStop c 9 nw 0x105, .spoofclr c 9 nw, .gnssStatus c 9 nw]
    let said (m svc op st : Nat) (t : State) : Bool := t.rd (SEQ_MBOUTn_k m 0) == word (svc * 2 ^ 24 + op * 2 ^ 16 + 9 * 256 + st) && t.bit (SEQ_MBSTATn m) 8 && !t.bit (SEQ_MBSTATn m) 0
    let outs (m : Nat) (l : List Word) (t : State) : Bool := (List.range l.length).map (fun i => t.rd (SEQ_MBOUTn_k m (i + 1))) == l
    let heads : List (Nat × Nat) := [(1, 1), (1, 2), (2, 1), (3, 1), (3, 2), (3, 3), (3, 4), (3, 5), (4, 1), (4, 2), (5, 1), (5, 2)]
    let in3 := set [(SEQ_MBSTATn 3, 1)]
    let halted := { up with cores := Vector.replicate 8 coreReset }
    let cmd (op : Nat) (t : State) : Bool := t.rd UPD_CMDSTAT == 0x80000000 && (t.upd.cmd.bind (·.svc)) == some (5, word (0x03000900 + op * 65536))
    let free := set [(FLEET_STOP_STAT, 0)]
    let clock := { up with time := { up.time with sec := 0x1122334455, grn := 7, running := false } }
    let answered := { set [(UPD_CMDSTAT, 0x80000000)] with upd := { up.upd with cmd := some ⟨2, 3, 0, .none, some (5, 0x03010903)⟩ } }
    all [
      all ((rows 7 0).map fun i => idles ((less [2]).isOn (coreDom 7) == false) i (less [2])),
      all ((rows 3 15).map fun i => shows (in3.bit (SEQ_MBSTATn 3) 0) i in3 fun t => t == in3.inRing 3 && t.fld (SEQ_MBSTATn 3) 31 24 == 1),
      all (((rows 3 15).zip heads).map fun e => shows (up.serves 3 && up.mailCore 3 == some 3) e.1 up (said 3 e.2.1 e.2.2 stRANGE)),
      all ([Instr.modeSet 0 9 0 3, .updatePiece 5 9 2 6 1 2, .updateActivate 5 9 0 1 0, .fleetResume 4 9 0 0, .fleetStop 4 9 0 5].map fun i => shows true i up fun t => (t.rd (SEQ_MBOUTn_k 0 0)).toNat % 256 == stRANGE
        || (t.rd (SEQ_MBOUTn_k 4 0)).toNat % 256 == stRANGE || (t.rd (SEQ_MBOUTn_k 5 0)).toNat % 256 == stRANGE),
      all (((rows 3 15).zip heads).map fun e => shows (!halted.serves 3) e.1 halted fun t => t.rd (SEQ_MBINn_k 3 0) == word (e.2.1 * 2 ^ 24 + e.2.2 * 2 ^ 16 + 0x90F) && t.bit (SEQ_MBSTATn 3) 0 && !t.bit (SEQ_MBSTATn 3) 8),
      shows (up.modeCheck 0 3 == (stOK, 0)) (.modeSet 0 9 1 3) up fun t => t.modeReq == some ⟨0, 0, 3, some (0, 0x01010901)⟩ && !t.bit (SEQ_MBSTATn 0) 8,
      shows (up.modeCheck 0 0 == (stILLEGAL, 0)) (.modeSet 0 9 1 0xFFFFFFF0) up fun t => said 0 1 1 stILLEGAL t && outs 0 [2] t && t.modeReq.isNone,
      shows (up.isOn 0) (.modeGet 0 9 0) up fun t => said 0 1 2 stOK t && outs 0 [2, up.overlay, 0] t,
      shows (clock.isOn 12) (.timeRead 6 9 0) clock fun t => said 6 2 1 stOK t && outs 6 [0x22334455, word (clock.tqState * 65536 + 0x11), 7] t,
      shows true (.timeRead 6 9 0) (less [12]) fun t => said 6 2 1 stOK t && outs 6 [0, 0, 0, 0] t,
      shows (up.isOn 14 && !up.bit UPD_CMDSTAT 31) (.updatePiece 5 9 3 6 0xC0000001 7) up fun t => cmd 1 { t with upd := { t.upd with cmd := t.upd.cmd.map fun k => { k with svc := k.svc.map fun e => (e.1, e.2 - 3) } } }
        && t.rd UPD_ARG0 == 7 && t.rd UPD_ARG1 == 0xC0000001,
      shows true (.updateStatus 5 9 0) (set [(UPD_TGTt_STAT 5, 0x20000000)]) fun t => said 5 3 2 stOK t && t.rd (SEQ_MBOUTn_k 5 7) == 0x20000000,
      shows true (.updateCommit 5 9 0) up fun t => cmd 3 t && (t.upd.cmd.map (·.status)) == some stALREADY, shows true (.updateCommit 5 9 0) (set [(UPD_BOOT, 0x80000000)]) fun t => (t.upd.cmd.map (·.status)) == some stOK,
      shows true (.updateRevert 5 9 0) up (cmd 4),
      shows true (.updateActivate 5 9 1 1 0x80000000) up fun t => t.rd UPD_CMDSTAT == 0x80000000 && t.upd.activate == some ⟨5, 0x03050901, 1⟩,
      shows true .updCommandDone answered fun t => t.upd.cmd.isNone && t.rd (SEQ_MBOUTn_k 5 0) == 0x03010902 && t.rd (SEQ_MBOUTn_k 5 1) == 3,
      shows true (.fleetResume 4 9 1 0) up fun t => said 4 4 1 stDENIED t && t.latched, completes true (.fleetResume 4 9 1 0) { set [(SYS_MODE, 3)] with fleet := { up.fleet with high := 16384 } },
      shows (!free.latched) (.fleetStop 4 9 1 0x105) free fun t => t.latched && said 4 4 2 stOK t && t.fld FLEET_STOP_STAT 23 16 == 0x10,
      shows up.latched (.fleetStop 4 9 1 0xFF) up (said 4 4 2 stALREADY), shows (!up.granted 2) (.spoofclr 4 9 0) up (said 4 5 1 stDENIED),
      shows ((set [(KEYS_AUTHSTAT, 0x10002), (GNSS_INTEG, 0x80000000)]).granted 2) (.spoofclr 4 9 0) (set [(KEYS_AUTHSTAT, 0x10002), (GNSS_INTEG, 0x80000000)]) fun t => said 4 5 1 stOK t &&
        t.rd KEYS_AUTHSTAT == 0 && !t.bit GNSS_INTEG 31,
      shows true (.gnssStatus 4 9 0) (set [(GNSS_REFSTAT, 0x5)]) fun t => said 4 5 2 stOK t && t.rd (SEQ_MBOUTn_k 4 2) == 5] = true := by decide +kernel

/-- The canonical form, as a Bool. -/
def wf (s : State) : Bool := Memory.wf s.mem && tabWf regReset s.regs

/-- A step goes to a state that shows `p`. -/
def stepsTo (s : State) (p : State → Bool) : Bool := match step s with
  | .next t => p t
  | _ => false

theorem witness_StepKeepsTheCanonicalForm :
    let s : State := { mems [(0x80000000, 1)] (set [(GPIO_OUT, 1)]) with pending := [.uartTxPush 7, .gpioRelease] }
    all [wf s, stepsTo s fun t => t.host.uartTx == [7] && t.pending == [.gpioRelease] && wf t, wf State.reset] = true := by decide +kernel

/-! ### Well-formedness -/

theorem test_wellFormed_refuses :
    let sfd (c : Fin 256) : SfdMatch := ⟨c, false, 0⟩
    let meas (c : Fin 72) : GnssMeas := ⟨c, 0, false, 0, 0, 0⟩
    let nav (n : Nat) : NavMsg := ⟨0, 0, n, 0, true, 0, 0, [0], false, false⟩
    let both (good bad : Instr) : Bool := good.wf && !bad.wf
    all [both (.qualify [sfd 0, sfd 1]) (.qualify [sfd 1, sfd 1]), both (.qualify [sfd 0]) (.qualify []),
      both (.laneRelease 0 true (List.replicate 2047 0)) (.laneRelease 0 true (List.replicate 2048 0)),
      both (.ismRxFrame (List.replicate 127 0) 6 false 0 0 0 0) (.ismRxFrame (List.replicate 128 0) 6 false 0 0 0 0),
      !(Instr.ismRxFrame [] 2 false 0 0 0 0).wf, both (.macFilter 0 { mlp with ieLen := 2047 }) (.macFilter 0 { mlp with ieLen := 2048 }),
      both (.portWrite 75 0 true false false) (.portWrite 76 0 true false false), both (.portRead 75 false) (.portRead 76 false),
      both (.creditReturn 75) (.creditReturn 76), both (.creditAudit false 75 none) (.creditAudit false 76 none),
      both (.creditAudit true 255 none) (.creditAudit true 256 none), both (.creditModeRestore false 75) (.creditModeRestore false 76),
      both (.creditModeRestore true 255) (.creditModeRestore true 256), both (.measurementEpoch [meas 0, meas 71]) (.measurementEpoch [meas 71, meas 71]),
      both (.navMessage (nav 32)) (.navMessage (nav 33)), both (.stopInputAssert true 1) (.stopInputAssert true 0),
      both (.faultDetected 19 0 0 0) (.faultDetected 20 0 0 0), !(Instr.faultDetected 0 0 0 0).wf] = true := by decide +kernel

/-! ### Worked examples of the spec -/

/-- The PRF input of R247's worked example: EUI-64 00-12-4B-00-01-A2-3C-4D at epoch 0x0103. -/
theorem test_kdfInput_worked_example : kdfInput 0x00124B0001A23C4D 0x0103 =
    [0, 0, 0, 1, 0x4D, 0x4C, 0x50, 0x2D, 0x4C, 0x4B, 0, 0, 0x12, 0x4B, 0, 1, 0xA2, 0x3C, 0x4D, 1, 3, 0, 0, 0, 0x80] := by decide +kernel

/-- Policer 12 of R234's worked example: frames of 1,518 octets every 12.304 µs are green, yellow, yellow with DSCP 10, and dropped. -/
theorem test_policer_worked_example :
    let s := set [(SCHED_PSELp 0, 0x8000000C), (SCHED_POLi_CFG 12, 0xC0060A00), (SCHED_POLi_CIR 12, 1000), (SCHED_POLi_PIR 12, 2000), (SCHED_POLi_BS 12, 188 * 65536 + 376)]
    let s := s.putPolicer 12 { freePolicer 12 with tc := 3008 * 65536, tp := 6016 * 65536, last := s.clock }
    let next (r : Bool × Option Nat × State) : Bool × Option Nat × State := { r.2.2 with clock := r.2.2.clock + 12304 }.police 0 1518 none (some 0) none
    let one := s.police 0 1518 none (some 0) none
    let two := next one
    let three := next two
    let four := next three
    all [!one.1 && one.2.1 == none, !two.1 && two.2.1 == some 10, !three.1 && three.2.1 == some 10, four.1, (four.2.2.policer 12).green == 1,
      (four.2.2.policer 12).yellow == 2, (four.2.2.policer 12).red == 1, (two.2.2.policer 12).tp / 65536 == 2983, (three.2.2.policer 12).tp / 65536 == 1468] = true := by
  decide +kernel

/-- The expectation of R164's worked example: slot 312 at 100 kb/s with PRE 8 of the chain that starts at C is at C + 781.3 ms. -/
theorem test_expectation_worked_example :
    after (slotStart 5 312) (500000 + bitsNs 1 (8 * (8 + 2))) = after (5 * 2 ^ 32) 781300000 := by decide +kernel

/-- The interval of the worked example of 00_scope.md: 250 µs after 1,000:0x8000_0000 is 1,000:0x8010_624E. -/
theorem test_interval_worked_example : after (1000 * 2 ^ 32 + 0x80000000) 250000 = 1000 * 2 ^ 32 + 0x8010624E := by decide +kernel

end Sys2Proof.Tests
end

section
/-!
PROOFS. Chapter 02, Lupra sequencers: how a core begins an instruction, and TRD (R31).
-/
namespace Sys2Proof.Machine

/-! ### What a single step that is used up leaves -/

variable (s : State) (c : Fin 8)

@[simp] theorem State.begun_time : (s.begun c).time = s.time := (congrArg State.time (s.begun_rest c) :)

@[simp] theorem State.begun_power : (s.begun c).power = s.power := (congrArg State.power (s.begun_rest c) :)

@[simp] theorem State.begun_mode : (s.begun c).mode = s.mode := by simp [State.mode, State.fld]

@[simp] theorem State.begun_isOn (d : Nat) : (s.begun c).isOn d = s.isOn d := by simp [State.isOn, State.dom]

@[simp] theorem State.begun_trd : ((s.begun c).core c).trd = (s.core c).trd := (congrArg Core.trd (s.begun_core c) :)

@[simp] theorem State.begun_level : ((s.begun c).core c).level = (s.core c).level := (congrArg Core.level (s.begun_core c) :)

@[simp] theorem State.begun_epc : ((s.begun c).core c).epc = (s.core c).epc := (congrArg Core.epc (s.begun_core c) :)

@[simp] theorem State.begun_estat : ((s.begun c).core c).estat = (s.core c).estat := (congrArg Core.estat (s.begun_core c) :)

/-! ### Legal instructions and instructions without a replayed answer -/

@[simp] theorem State.legal_false (f : State → State) : s.legal c false f = f s := rfl

@[simp] theorem State.legal_true (f : State → State) : s.legal c true f = (s.advance c).coreEvent c 3 := rfl

/-- Outside REPLAY no recorded word answers an instruction (R407). -/
theorem State.recorded_of_mode_ne (kind : Nat) (h : s.mode ≠ 9) : s.recorded c kind = none := by simp [State.recorded, h]

/-- Outside REPLAY an instruction returns its own word (R407). -/
theorem State.replayed_of_mode_ne (v : Word) (h : s.mode ≠ 9) : s.replayed c v = (v, s) := by
  simp [State.replayed, s.recorded_of_mode_ne c 5 h]

variable {s c}

theorem State.able_iff {doms : List Nat} :
    s.able c doms = true ↔ s.runs c = true ∧ s.mode ≠ 9 ∧ ∀ d ∈ doms, s.isOn d = true := by
  simp [State.able, and_assoc]

/-! ### Changes inside one core -/

variable (s c)

theorem State.modCore_rest (f : Core → Core) : { s.modCore c f with cores := s.cores } = s := rfl

theorem State.setGpr_rest (r : Fin 16) (v : Word) : { s.setGpr c r v with cores := s.cores } = s := by
  unfold State.setGpr
  split <;> rfl

/-- States that agree outside the cores with a common one agree with each other outside the cores. -/
theorem State.rest_trans {s t u : State} (h : { t with cores := s.cores } = s) (g : { u with cores := t.cores } = t) :
    { u with cores := s.cores } = s := by
  rw [← g] at h
  exact h

/-- The TRD latch is no general register: setting it leaves them as they were. -/
theorem State.gpr_modCore_trd (k : Fin 8) (q : Fin 16) (v : BitVec 80) :
    (s.modCore c fun k => { k with trd := v }).gpr k q = s.gpr k q := by
  by_cases h : k = c <;> simp [State.gpr, h]

theorem State.core_setGpr_trd (r : Fin 16) (v : Word) : ((s.setGpr c r v).core c).trd = (s.core c).trd :=
  (congrArg Core.trd (s.core_setGpr_same c r v) :)

/-! ### TRD (R31) -/

/-- The rounded product of 0 to 3 SEQ cycles and 4.294967296 grains (R31). -/
theorem roundDiv_phase (p : Fin 4) : (roundDiv (p.val * 4294967296) 1000000000).toNat = [0, 4, 9, 13].getD p.val 0 := by
  revert p
  decide

theorem State.trdNow_of_running (h : s.time.running = true) :
    s.trdNow = (s.time.sec.toNat * 2 ^ 32 + s.time.grn.toNat + [0, 4, 9, 13].getD s.time.phase.val 0) % 2 ^ 80 := by
  simp only [State.trdNow, State.netNow, h, if_true, roundDiv_phase]

@[simp] theorem State.begun_trdNow : (s.begun c).trdNow = s.trdNow := by simp [State.trdNow, State.netNow]

/-- The state in which TRD has latched `v` and returned its grains in `gd` and its seconds[31:0] in `ga`. -/
def State.trdResult (s : State) (c : Fin 8) (gd ga : Fin 16) (v : Nat) : State :=
  ((s.modCore c fun k => { k with trd := BitVec.ofNat 80 v }).setGpr c ga (word (v / 2 ^ 32))).result c gd (word v)

variable {s c}

/-- TRD of two registers that differ from each other and from g0, with TIME ON and no replayed answer. -/
theorem exec_trd_legal {gd ga : Fin 16} (h : s.able c [12] = true) (hne : gd ≠ ga) (hd : gd ≠ 0) (ha : ga ≠ 0) :
    exec (.trd c gd ga) s = .next ((s.begun c).trdResult c gd ga s.trdNow) := by
  obtain ⟨hruns, hmode, hon⟩ := State.able_iff.1 h
  have hrec : (s.begun c).recorded c 5 = none := State.recorded_of_mode_ne _ _ _ (by simpa using hmode)
  have h12 : s.isOn 12 = true := hon 12 (by simp)
  have hlegal : (gd == ga || gd == 0 || ga == 0) = false := by simp [hne, hd, ha]
  show execTrd c gd ga s = _
  simp [execTrd, State.issue_runs s c _ hruns, hlegal, hrec, h12, State.trdResult]

/-- TRD with equal registers or with g0 is illegal (R31). -/
theorem exec_trd_illegal {gd ga : Fin 16} (h : s.runs c = true) (hbad : gd = ga ∨ gd = 0 ∨ ga = 0) :
    exec (.trd c gd ga) s = .next (((s.begun c).advance c).coreEvent c 3) := by
  have hb : (gd == ga || gd == 0 || ga == 0) = true := by simpa [or_assoc] using hbad
  show execTrd c gd ga s = _
  rw [execTrd, State.issue_runs s c _ h, hb, State.legal_true]

theorem exec_trdSecondsHi (gd : Fin 16) (h : s.able c [12] = true) :
    exec (.trdSecondsHi c gd) s = .next ((s.begun c).result c gd (word ((s.core c).trd.toNat / 2 ^ 64))) := by
  obtain ⟨hruns, hmode, hon⟩ := State.able_iff.1 h
  have hrep (v : Word) : (s.begun c).replayed c v = (v, s.begun c) := State.replayed_of_mode_ne _ _ _ (by simpa using hmode)
  have h12 : s.isOn 12 = true := hon 12 (by simp)
  show execTrdSecondsHi c gd s = _
  simp [execTrdSecondsHi, State.issue_runs s c _ hruns, hrep, h12]

variable (s c)

theorem State.trdResult_gpr (gd ga q : Fin 16) (v : Nat) :
    (s.trdResult c gd ga v).gpr c q =
      if q = gd ∧ gd ≠ 0 then word v else if q = ga ∧ ga ≠ 0 then word (v / 2 ^ 32) else s.gpr c q := by
  simp [State.trdResult, State.result, State.gpr_modCore_trd]

theorem State.trdResult_trd (gd ga : Fin 16) (v : Nat) : ((s.trdResult c gd ga v).core c).trd = BitVec.ofNat 80 v := by
  simp [State.trdResult, State.result, State.core_setGpr_trd]

theorem State.trdResult_pc (gd ga : Fin 16) (v : Nat) : ((s.trdResult c gd ga v).core c).pc = (s.core c).pc + 4 := by
  simp [State.trdResult, State.result, State.core_setGpr_pc]

theorem State.trdResult_rest (gd ga : Fin 16) (v : Nat) : { s.trdResult c gd ga v with cores := s.cores } = s :=
  State.rest_trans (State.rest_trans (State.rest_trans (s.modCore_rest c _) (State.setGpr_rest _ c ga _))
    (State.setGpr_rest _ c gd _)) (State.modCore_rest _ c _)

/-- Settles O11: the legal form is `State.trdResult` of the time that `State.trdNow` gives, the illegal form ILLEGAL_INSN, and
the form with func14 1 a read of the latch. -/
theorem trdReadsTheNetworkTime : Obligations.TrdReadsTheNetworkTime := by
  intro c gd ga s hable hrun v
  obtain ⟨hruns, -, -⟩ := State.able_iff.1 hable
  have hv : s.trdNow = v := s.trdNow_of_running hrun
  refine ⟨fun hne hd ha => ?_, fun hbad => ?_, ?_⟩
  · refine ⟨_, exec_trd_legal hable hne hd ha, ?_⟩
    rw [hv]
    refine ⟨?_, ?_, State.trdResult_trd .., ?_, fun r hrd hra => ?_, ?_⟩
    · simp [State.trdResult_gpr, hd, word]
    · simp [State.trdResult_gpr, ha, Ne.symm hne, word]
    · simp [State.trdResult_pc]
    · simp [State.trdResult_gpr, hrd, hra]
    · exact State.rest_trans (s.begun_rest c) (State.trdResult_rest ..)
  · exact ⟨_, exec_trd_illegal hruns hbad, by simp, by simp, by simp⟩
  · exact ⟨_, exec_trdSecondsHi gd hable, s.result_wrote c gd _⟩

end Sys2Proof.Machine
end

section
/-!
PROOFS. Chapter 02, Lupra sequencers: event entry and RETE (R38, R40, Table 02-11).
-/
namespace Sys2Proof.Machine

/-! ### Vectors with Nat indices -/

theorem vget_val {α : Type} {n : Nat} (v : Vector α n) (i : Fin n) (d : α) : vget v i.val d = v.get i := by
  simp [vget, Vector.getD, Vector.get]

theorem get_vset_val {α : Type} {n : Nat} (v : Vector α n) (i : Fin n) (x : α) : (vset v i.val x).get i = x := by
  show (vset v i.val x)[i.val] = x
  simp [vset]

/-! ### The line taken next (R38, R40) -/

variable (k : Core)

/-- One step of the choice of `Core.nextLine`: line `i` against the best line so far. -/
def Core.better (b : Option Nat) (i : Nat) : Option Nat :=
  if k.takes i then (match b with
    | none => some i
    | some j => if k.before i j then some i else b) else b

theorem Core.nextLine_eq : k.nextLine = (List.range 32).foldl k.better none := rfl

/-- `b` is a line of the highest level among the lines below `n` that may be taken, or there is none. -/
def Core.Tops (n : Nat) : Option Nat → Prop
  | none => ∀ i < n, k.takes i = false
  | some j => (j < n ∧ k.takes j = true) ∧ ∀ i < n, k.takes i = true → k.lineLevel i ≤ k.lineLevel j

variable {k}

/-- A line that goes before another has no lower level, and one that does not has no higher one (R40). -/
theorem Core.before_level (i j : Nat) :
    if k.before i j then k.lineLevel j ≤ k.lineLevel i else k.lineLevel i ≤ k.lineLevel j := by
  unfold Core.before
  by_cases h : k.lineLevel i = k.lineLevel j
  · simp [h]
  · simp only [h, ne_eq, not_false_eq_true, if_true, decide_eq_true_eq]
    split <;> omega

theorem Core.Tops.better {n : Nat} {b : Option Nat} (h : k.Tops n b) : k.Tops (n + 1) (k.better b n) := by
  have below {i : Nat} (hi : i < n + 1) : i < n ∨ i = n := by omega
  by_cases ht : k.takes n = true
  case neg =>
    have hb : k.better b n = b := by simp [Core.better, ht]
    rw [hb]
    cases b with
    | none => exact fun i hi => (below hi).elim (h i) fun e => by simpa [e] using ht
    | some j =>
      obtain ⟨⟨hj, htj⟩, hmax⟩ := h
      exact ⟨⟨by omega, htj⟩, fun i hi hti => (below hi).elim (hmax i · hti) fun e => absurd (e ▸ hti) ht⟩
  case pos =>
    cases b with
    | none =>
      have hb : k.better none n = some n := by simp [Core.better, ht]
      rw [hb]
      exact ⟨⟨by omega, ht⟩, fun i hi hti =>
        (below hi).elim (fun hin => by simp [h i hin] at hti) fun e => e ▸ Nat.le_refl _⟩
    | some j =>
      obtain ⟨⟨hj, htj⟩, hmax⟩ := h
      have hlevel := Core.before_level (k := k) n j
      by_cases hbef : k.before n j = true
      · have hb : k.better (some j) n = some n := by simp [Core.better, ht, hbef]
        rw [if_pos hbef] at hlevel
        rw [hb]
        exact ⟨⟨by omega, ht⟩, fun i hi hti =>
          (below hi).elim (fun hin => Nat.le_trans (hmax i hin hti) hlevel) fun e => e ▸ Nat.le_refl _⟩
      · have hb : k.better (some j) n = some j := by simp [Core.better, ht, hbef]
        rw [if_neg hbef] at hlevel
        rw [hb]
        exact ⟨⟨by omega, htj⟩, fun i hi hti => (below hi).elim (hmax i · hti) fun e => e ▸ hlevel⟩

/-- `Core.nextLine` is a line of the highest level that may be taken (R40). -/
theorem Core.nextLine_tops : k.Tops 32 k.nextLine := by
  suffices h : ∀ n, k.Tops n ((List.range n).foldl k.better none) from h 32
  intro n
  induction n with
  | zero => exact fun i hi => absurd hi (Nat.not_lt_zero i)
  | succ n ih =>
    rw [List.range_succ, List.foldl_append]
    exact ih.better

theorem Core.takes_iff {i : Nat} : k.takes i = true ↔
    (k.evpend.getLsbD i = true ∧ k.evmask.getLsbD i = true) ∧ k.level.val < k.lineLevel i ∧
      (k.even = true ∨ k.lineLevel i = 3) := by
  simp [Core.takes, bitAt, and_assoc]

theorem Core.nextLine_eq_none (h : ∀ i < 32, k.takes i = false) : k.nextLine = none := by
  have htops := k.nextLine_tops
  cases hn : k.nextLine with
  | none => rfl
  | some j =>
    rw [hn] at htops
    obtain ⟨⟨hj, htj⟩, -⟩ := htops
    simp [h j hj] at htj

/-- When a line may be taken, one of no lower level is taken next (R38, R40). -/
theorem Core.exists_nextLine {i : Nat} (hi : i < 32) (h : k.takes i = true) :
    ∃ j, k.nextLine = some j ∧ k.takes j = true ∧ k.lineLevel i ≤ k.lineLevel j := by
  have htops := k.nextLine_tops
  cases hn : k.nextLine with
  | none => rw [hn] at htops; simp [htops i hi] at h
  | some j =>
    rw [hn] at htops
    obtain ⟨⟨-, htj⟩, hmax⟩ := htops
    exact ⟨j, rfl, htj, hmax i hi h⟩

/-! ### The L3 bank (R24) -/

variable (k)

/-- The core with g10–g13 exchanged with the L3 bank (R24). -/
def Core.exchanged : Core := { k with
  gpr := (((k.gpr.set 10 (k.l3.get 0)).set 11 (k.l3.get 1)).set 12 (k.l3.get 2)).set 13 (k.l3.get 3)
  l3 := #v[k.gpr.get 10, k.gpr.get 11, k.gpr.get 12, k.gpr.get 13] }

theorem Core.exchanged_gpr (r : Fin 16) : k.exchanged.gpr.get r =
    if r = 13 then k.l3.get 3 else if r = 12 then k.l3.get 2 else if r = 11 then k.l3.get 1 else
      if r = 10 then k.l3.get 0 else k.gpr.get r := by
  have e (v : Vector Word 16) (i : Fin 16) (x : Word) (j : Fin 16) := vector_get_set v i j x
  exact (e _ 13 _ r).trans <| congrArg _ <| (e _ 12 _ r).trans <| congrArg _ <| (e _ 11 _ r).trans <| congrArg _ <| e _ 10 _ r

theorem Core.exchanged_gpr_of_not_banked (r : Fin 16) (h : ¬(10 ≤ r.val ∧ r.val ≤ 13)) :
    k.exchanged.gpr.get r = k.gpr.get r := by
  have hne (i : Fin 16) (hi : 10 ≤ i.val ∧ i.val ≤ 13) : r ≠ i := fun e => h (e ▸ hi)
  rw [Core.exchanged_gpr, if_neg (hne 13 (by decide)), if_neg (hne 12 (by decide)), if_neg (hne 11 (by decide)),
    if_neg (hne 10 (by decide))]

/-! ### Event entry (R38, Table 02-11) -/

/-- The result latches after an entry: an instruction that has committed and still waits goes into the one of the level left
(R29). -/
def Core.latched : Vector (Option Latch) 4 :=
  match k.run with
  | .waiting w => if w.again then k.latch else k.latch.set k.level.val (some (.waiting w)) k.level.isLt
  | _ => k.latch

/-- The core in the handler of line `i` at level `n + 1`. -/
def Core.entered (i : Fin 32) (n : Fin 3) : Core :=
  { (if n = 2 then k.exchanged else k) with
    run := .running, evage := if n = 2 then k.age i else k.evage, latch := k.latched
    epc := vset k.epc n.val k.pc, estat := vset k.estat n.val k.status
    level := n.succ, evline := k.evline.set n.succ.val i n.succ.isLt
    pc := k.evvec + word (64 * i.val)
    evpend := k.evpend &&& ~~~(word (2 ^ i.val))
    arrival := tabSet (fun _ => (0, false)) k.arrival i.val (0, false) }

theorem State.enterEvent_none {s : State} {c : Fin 8} (h : (s.core c).nextLine = none) : s.enterEvent c = s := by
  simp [State.enterEvent, h]

/-- An entry changes the core that enters and, at L3, SEQ_EVMAX. -/
theorem State.enterEvent_some {s : State} {c : Fin 8} {i : Fin 32} {n : Fin 3} (hnext : (s.core c).nextLine = some i.val)
    (hlevel : (s.core c).lineLevel i.val = n.val + 1) :
    (∀ j, (s.enterEvent c).core j = if j = c then (s.core c).entered i n else s.core j) ∧
      (s.enterEvent c).mem = s.mem := by
  have hl : Fin.ofNat 4 (n.val + 1) = n.succ := (by decide : ∀ n : Fin 3, Fin.ofNat 4 (n.val + 1) = n.succ) n
  have h3 : n.succ = 3 ↔ n = 2 := (by decide : ∀ n : Fin 3, n.succ = 3 ↔ n = 2) n
  by_cases hn : n = 2
  · have h : n.succ = 3 := h3.2 hn
    simp only [State.enterEvent, hnext, hlevel, hl, h, if_true]
    refine ⟨fun j => (State.core_setFld ..).trans ((State.core_modCore ..).trans ?_), rfl⟩
    subst hn
    simp only [Core.entered, Core.exchanged, Fin.ofNat_val_eq_self, if_true]
    rfl
  · have h : ¬n.succ = 3 := fun e => hn (h3.1 e)
    simp only [State.enterEvent, hnext, hlevel, hl, h, if_false]
    refine ⟨fun j => (State.core_modCore ..).trans ?_, rfl⟩
    simp only [Core.entered, Fin.ofNat_val_eq_self, hn, if_false]
    rfl

theorem Core.status_eq : k.status = BitVec.ofNat 32 (16 * k.level.val + k.even.toNat) := by
  rw [Core.status, word, Nat.mul_comm]
  cases k.even <;> rfl

@[simp] theorem Core.entered_run (i : Fin 32) (n : Fin 3) : (k.entered i n).run = .running := rfl
@[simp] theorem Core.entered_level (i : Fin 32) (n : Fin 3) : (k.entered i n).level = n.succ := rfl
@[simp] theorem Core.entered_pc (i : Fin 32) (n : Fin 3) : (k.entered i n).pc = k.evvec + word (64 * i.val) := rfl
@[simp] theorem Core.entered_epc (i : Fin 32) (n : Fin 3) : (k.entered i n).epc.get n = k.pc := get_vset_val ..
@[simp] theorem Core.entered_estat (i : Fin 32) (n : Fin 3) : (k.entered i n).estat.get n = k.status := get_vset_val ..

@[simp] theorem Core.entered_evline (i : Fin 32) (n : Fin 3) : (k.entered i n).evline.get n.succ = i :=
  (vector_get_set _ n.succ n.succ i).trans (if_pos rfl)

@[simp] theorem Core.entered_even (i : Fin 32) (n : Fin 3) : (k.entered i n).even = k.even := by
  unfold Core.entered
  split <;> rfl

theorem Core.entered_gpr (i : Fin 32) (n : Fin 3) :
    (k.entered i n).gpr = if n = 2 then k.exchanged.gpr else k.gpr := by
  unfold Core.entered
  split <;> rfl

/-- An entry takes its line, and no other, from the pending lines. -/
theorem Core.entered_evpend (i j : Fin 32) (n : Fin 3) :
    (k.entered i n).evpend.getLsbD j.val = (k.evpend.getLsbD j.val && !decide (i = j)) := by
  have hbit : (word (2 ^ i.val)).getLsbD j.val = decide (i = j) := by
    simp only [word, BitVec.getLsbD_ofNat, Nat.testBit_two_pow, j.isLt, decide_true, Bool.true_and, Fin.ext_iff]
  have hpend : (k.entered i n).evpend = k.evpend &&& ~~~(word (2 ^ i.val)) := rfl
  rw [hpend, BitVec.getLsbD_and, BitVec.getLsbD_not, hbit]
  simp

/-! ### RETE (R38) -/

/-- ESTAT of the running level. -/
def Core.saved : Word := vget k.estat (k.level.val - 1) 0

/-- The level that RETE goes back to. -/
def Core.back : Fin 4 := Fin.ofNat 4 (bits k.saved 5 4)

/-- The core that RETE has returned from its handler, its latched result still to be written. -/
def Core.returned : Core :=
  let x := if k.level = 3 then k.exchanged else k
  { x with
    pc := vget k.epc (k.level.val - 1) 0, level := k.back, even := bitAt k.saved 0
    latch := x.latch.set k.back.val none k.back.isLt }

/-- A latched result written to its register, a latched wait waited on (R29). -/
def State.takeLatch (s : State) (c : Fin 8) : Option Latch → State
  | some (.done gd v) => s.setGpr c gd v
  | some (.waiting w) => s.modCore c fun k => { k with run := .waiting w }
  | none => s

variable (s : State) (c : Fin 8)

theorem State.modCore_modCore (f g : Core → Core) : (s.modCore c f).modCore c g = s.modCore c fun k => g (f k) := by
  have h : (s.modCore c f).core c = f (s.core c) := by simp
  simp only [State.modCore, State.core, Vector.set_set]
  exact congrArg (fun k => { s with cores := s.cores.set c.val (g k) c.isLt }) h

theorem State.core_setGpr_level (r : Fin 16) (v : Word) : ((s.setGpr c r v).core c).level = (s.core c).level :=
  (congrArg Core.level (s.core_setGpr_same c r v) :)

theorem State.core_setGpr_even (r : Fin 16) (v : Word) : ((s.setGpr c r v).core c).even = (s.core c).even :=
  (congrArg Core.even (s.core_setGpr_same c r v) :)

@[simp] theorem State.takeLatch_pc (l : Option Latch) : ((s.takeLatch c l).core c).pc = (s.core c).pc := by
  unfold State.takeLatch
  split <;> simp [State.core_setGpr_pc]

@[simp] theorem State.takeLatch_level (l : Option Latch) : ((s.takeLatch c l).core c).level = (s.core c).level := by
  unfold State.takeLatch
  split <;> simp [State.core_setGpr_level]

@[simp] theorem State.takeLatch_even (l : Option Latch) : ((s.takeLatch c l).core c).even = (s.core c).even := by
  unfold State.takeLatch
  split <;> simp [State.core_setGpr_even]

theorem State.core_takeLatch_ne (l : Option Latch) (j : Fin 8) (h : j ≠ c) : (s.takeLatch c l).core j = s.core j := by
  unfold State.takeLatch
  split <;> simp [State.core_setGpr_ne, h]

theorem State.takeLatch_rest (l : Option Latch) : { s.takeLatch c l with cores := s.cores } = s := by
  unfold State.takeLatch
  split
  · exact s.setGpr_rest c _ _
  · rfl
  · rfl

variable {s c}

/-- RETE in a handler: the core returned, then what is latched at the level it is back at taken. -/
theorem exec_rete (h : s.runs c = true) (hlevel : (s.core c).level ≠ 0) :
    exec (.rete c 0) s = .next (((s.begun c).modCore c Core.returned).takeLatch c
      (((s.begun c).core c).latch.get ((s.begun c).core c).back)) := by
  have hlegal : ((0 : BitVec 2) != 0 || ((s.begun c).core c).level == 0) = false := by simp [hlevel]
  show execRete c 0 s = _
  rw [execRete, State.issue_runs s c _ h, hlegal, State.legal_false]
  simp only [Core.back, Core.saved]
  generalize ((s.begun c).core c).latch.get _ = l
  rw [State.modCore_modCore]
  match l with
  | some (.done gd v) => rfl
  | some (.waiting w) => rfl
  | none => rfl

section
variable {k : Core} {n : Fin 3}

theorem Core.saved_eq (h : k.level.val = n.val + 1) : k.saved = k.estat.get n := by
  rw [Core.saved, h, Nat.add_sub_cancel, vget_val]

theorem Core.returned_pc (h : k.level.val = n.val + 1) : k.returned.pc = k.epc.get n := by
  show vget k.epc (k.level.val - 1) 0 = _
  rw [h, Nat.add_sub_cancel, vget_val]

theorem Core.returned_level (h : k.level.val = n.val + 1) : k.returned.level.val = (k.estat.get n).toNat / 16 % 4 := by
  show bits k.saved 5 4 % 4 = _
  rw [Core.saved_eq h, bits]
  exact Nat.mod_mod ..

theorem Core.returned_even (h : k.level.val = n.val + 1) : k.returned.even = (k.estat.get n).getLsbD 0 := by
  show bitAt k.saved 0 = _
  rw [Core.saved_eq h, bitAt]

end

/-! ### The statement -/

theorem exec_eventEntry {s : State} {c : Fin 8} (h : s.takesEvents c = true) :
    exec (.eventEntry c) s = .next (s.enterEvent c) :=
  congrArg Host.Outcome.next (if_pos h)

/-- The general registers after an entry: at L3 only the banked ones change (R24). -/
theorem State.gpr_enterEvent {s : State} {c : Fin 8} {i : Fin 32} {n : Fin 3}
    (hcore : (s.enterEvent c).core c = (s.core c).entered i n) (r : Fin 16) (h : ¬(n = 2 ∧ 10 ≤ r.val ∧ r.val ≤ 13)) :
    (s.enterEvent c).gpr c r = s.gpr c r := by
  have hget : ((s.core c).entered i n).gpr.get r = (s.core c).gpr.get r := by
    rw [Core.entered_gpr]
    split
    · next h2 => exact Core.exchanged_gpr_of_not_banked _ r fun hb => h ⟨h2, hb⟩
    · rfl
  rw [State.gpr, State.gpr, hcore, hget]

/-- Settles O6: an entry leaves the core as `Core.entered`, RETE leaves it as `Core.returned` up to what was latched, and
`Core.nextLine` is a line of the highest level that may be taken. -/
theorem eventsEnterAndReturn : Obligations.EventsEnterAndReturn := by
  refine ⟨?entry, ?rete, ?choice⟩
  case entry =>
    intro c i n s htakes hnext hlevel k
    obtain ⟨hcores, hmem⟩ := State.enterEvent_some hnext hlevel
    have hcore : (s.enterEvent c).core c = k.entered i n := (hcores c).trans (if_pos rfl)
    refine ⟨_, exec_eventEntry htakes, ?_⟩
    rw [hcore]
    refine ⟨k.entered_run i n, k.entered_pc i n, k.entered_epc i n, (k.entered_estat i n).trans k.status_eq,
      congrArg Fin.val (k.entered_level i n), k.entered_even i n, k.entered_evline i n, ?_, fun j hj => ?_,
      State.gpr_enterEvent hcore, ?_, fun j hj => (hcores j).trans (if_neg hj), fun a => ?_⟩
    · rw [Core.entered_evpend]
      simp
    · rw [Core.entered_evpend]
      simp [k, Ne.symm hj]
    · rintro rfl
      have hgpr : (k.entered i 2).gpr = k.exchanged.gpr := Core.entered_gpr k i 2
      rw [hgpr]
      exact ⟨Core.exchanged_gpr .., Core.exchanged_gpr .., Core.exchanged_gpr .., Core.exchanged_gpr .., rfl⟩
    · rw [State.byte, State.byte, hmem]
  case rete =>
    intro c n s hruns hn k
    have hlevel : (s.core c).level ≠ 0 := fun e => by simp [e] at hn
    have hn' : ((s.begun c).core c).level.val = n.val + 1 := by simpa using hn
    refine ⟨_, exec_rete hruns hlevel, ?_, ?_, ?_, fun j hj => ?_, ?_⟩
    · simp [Core.returned_pc hn', k]
    · simp [Core.returned_level hn', k]
    · simp [Core.returned_even hn', k]
    · simp [State.core_takeLatch_ne, State.begun_cores, hj]
    · exact State.rest_trans (State.rest_trans (s.begun_rest c) (State.modCore_rest _ c _)) (State.takeLatch_rest _ c _)
  case choice =>
    intro c s htakes k due
    refine ⟨fun hlow => ?_, fun i hdue habove hlet => ?_⟩
    · have hnone : k.nextLine = none := Core.nextLine_eq_none fun i hi => Bool.eq_false_iff.2 fun ht => by
        obtain ⟨hdue, habove, -⟩ := Core.takes_iff.1 ht
        exact absurd (hlow ⟨i, hi⟩ hdue) (Nat.not_le.2 habove)
      rw [exec_eventEntry htakes, State.enterEvent_none hnone]
    · obtain ⟨j, hnext, htj, hmax⟩ := Core.exists_nextLine i.isLt (Core.takes_iff.2 ⟨hdue, habove, hlet⟩)
      obtain ⟨-, hj, -⟩ := Core.takes_iff.1 htj
      exact ⟨j, hnext, hj, hmax⟩

end Sys2Proof.Machine
end

section
/-!
PROOFS. Chapter 07, the queue fabric: reads of empty frame ports and of empty descriptor queues (R187).
-/
namespace Sys2Proof.Machine

variable (s : State) (c : Fin 8)

/-! ### What a single step that is used up and a wait leave -/

@[simp] theorem State.begun_qfab : (s.begun c).qfab = s.qfab := (congrArg State.qfab (s.begun_rest c) :)

@[simp] theorem State.begun_descq (d : Nat) : (s.begun c).descq d = s.descq d := by simp [State.descq]

theorem State.waitAt_run (w : Wait) : ((s.waitAt c w).core c).run = .waiting w := by simp [State.waitAt]

@[simp] theorem State.waitAt_pc (w : Wait) (k : Fin 8) : ((s.waitAt c w).core k).pc = (s.core k).pc := by
  by_cases h : k = c <;> simp [State.waitAt, h]

@[simp] theorem State.gpr_waitAt (w : Wait) (k : Fin 8) (q : Fin 16) : (s.waitAt c w).gpr k q = s.gpr k q := by
  by_cases h : k = c <;> simp [State.waitAt, State.gpr, h]

/-- A core that waits at its instruction has committed nothing of it (R29). -/
theorem State.begun_waitAt_calm (w : Wait) : Calm s ((s.begun c).waitAt c w) where
  mem := s.begun_mem c
  gpr k q := by simp
  pc k := by
    by_cases h : k = c
    · simp [h]
    · simp [State.begun_cores, h]

/-! ### Empty reads (R187) -/

variable {s c} {upset : Bool}

theorem State.portRead_of_empty {q : Nat} (h : (s.port q).words = []) :
    s.portRead q upset = s.setPort q { s.port q with out := ⟨0, false, false, false, false, false⟩ } := by
  simp only [State.portRead, h]

theorem State.dqPop_of_empty {d : Nat} (h : (s.descq d).items = []) : s.dqPop d upset = (none, s) := by
  simp only [State.dqPop, h]

theorem State.hdqPop_of_empty (h : (s.descq (s.fld QFAB_HDQSEL 7 0)).items = []) :
    s.hdqPop upset = { s with bus := 0x80000000 } := by
  rw [State.hdqPop, State.dqPop_of_empty h]

/-- With PKT ON and no pause of the packet engine a consumer reads its port. -/
theorem exec_portRead {q : Nat} (hon : s.isOn 7 = true) (hq : q < 76) (hpause : s.upd.pktPause = false) :
    exec (.portRead q upset) s = .next (s.portRead q upset) :=
  congrArg Host.Outcome.next (if_pos (by simp [hon, hq, hpause]))

/-- A legal PKTGET of an empty queue: without WAIT it returns zero, with WAIT the core waits at it (R29, R187). -/
theorem exec_pktget_of_empty {gd : Fin 16} {imm : BitVec 18} (h : s.able c [7] = true) (himm : imm.toNat < 512)
    (hempty : (s.descq (imm.toNat % 256)).items = []) :
    exec (.pktget c gd 0 imm upset) s = .next (if imm.getLsbD 8 then (s.begun c).waitAt c (.pktget gd (imm.toNat % 256))
      else (s.begun c).result c gd 0) := by
  obtain ⟨hruns, hmode, hon⟩ := State.able_iff.1 h
  have hlegal : ((0 : Fin 16) != 0 || imm.toNat / 512 != 0) = false := by simp [Nat.div_eq_of_lt himm]
  have hrec : (s.begun c).recorded c 5 = none := State.recorded_of_mode_ne _ _ _ (by simpa using hmode)
  have h7 : s.isOn 7 = true := hon 7 (by simp)
  have hpop : (s.begun c).dqPop (imm.toNat % 256) upset = (none, s.begun c) := State.dqPop_of_empty (by simpa using hempty)
  show execPktget c gd 0 imm upset s = _
  rw [execPktget, State.issue_runs s c _ hruns, hlegal, State.legal_false]
  simp [hrec, h7, hpop]

/-- Settles O28: each read of an empty port or queue is the branch of its command that finds nothing to take. -/
theorem emptyReadsChangeNothing : Obligations.EmptyReadsChangeNothing := by
  intro c gd imm upset s hon
  refine ⟨fun q hq hempty hpause => ?port, fun hable himm hempty => ⟨fun hwait => ?pktget, fun hwait => ?pktgetWait⟩,
    fun hempty => ?hrx, fun hempty => ?hdq⟩
  case port => rw [exec_portRead hon hq hpause, State.portRead_of_empty hempty]
  case pktget =>
    refine ⟨_, exec_pktget_of_empty hable himm hempty, ?_⟩
    rw [hwait]
    exact s.result_wrote c gd 0
  case pktgetWait =>
    refine ⟨_, exec_pktget_of_empty hable himm hempty, ?_⟩
    rw [hwait]
    have hcalm : Calm s ((s.begun c).waitAt c (.pktget gd (imm.toNat % 256))) := s.begun_waitAt_calm c _
    exact ⟨State.waitAt_run .., hcalm.pc c, hcalm⟩
  case hrx =>
    show execHrxPop upset s = _
    rw [execHrxPop, if_pos hon, State.hrxPop, if_pos hempty]
  case hdq =>
    show execHdqPop upset s = _
    rw [execHdqPop, if_pos hon, State.hdqPop_of_empty hempty]

end Sys2Proof.Machine
end
